-- ==== Sys2Proof/Word.lean ====
section
/-! DEFINITION. The word types of the Pakforn K46 and nothing else: what the manual treats as bytes is a bit
vector, what it treats as numbers (stations, points, counts, times) is a `Nat`, and a signed 32-bit plant value
is an `Int` that is narrowed only where it is put on the line. -/

namespace Sys2Proof

/-- One byte of a frame or of a record returned by READ (R208). -/
abbrev Byte := BitVec 8

/-- A signed 32-bit plant value in its engineering unit (R208: 32-bit two's complement on the line). -/
abbrev Value := Int

/-- An acceptance sequence number: 32 bits, counting on from 4,294,967,295 to 0 (R37). -/
abbrev Seq := BitVec 32

end Sys2Proof
end

