-- ==== Sys2Proof/Syntax.lean ====
section
/-! DEFINITION. The commands of the part: one constructor of `Instr` for each row of spec/opcode_table.json, in the
table's order, and the frames, ports and line symbols that their operands name. -/

namespace Sys2Proof

/-- The two link ports (00_scope, The part in the plant). -/
inductive Port where
  | sPort | fPort
deriving DecidableEq, Repr

/-- The seven frame kinds, kind codes 1 to 7 (R208). -/
inductive Kind where
  | report | order | query | answer | status | notice | setup
deriving DecidableEq, Repr

/-- A frame without its check sequence: the header's destination, source, kind, entry count and tag, and the body
as it stands on the line (R208). The body is kept as bytes, so a frame passed through is passed unchanged. -/
structure Frame where
  dest  : Nat
  src   : Nat
  kind  : Kind
  count : Nat
  tag   : Nat
  body  : List Byte
deriving DecidableEq, Repr

/-- What a receiver can see between delimited frames, other than PAUSE and RESUME: the IDLE symbol, the start
delimiter of a frame, a byte of a frame (R165: each is a symbol received). -/
inductive LineSymbol where
  | idle | startDelimiter | frameByte
deriving DecidableEq, Repr

/-- The three required inputs of the dispatch unit (R129). -/
inductive ReqInput where
  | fa | fb | trip
deriving DecidableEq, Repr

/-- The commands, one for each row of spec/opcode_table.json, in its order. A command that takes a frame carries the
frame it takes, the one at the head of the port's receive buffer. -/
inductive Instr where
  /-- POWER_ON (R196): RESET_N rises, with the value on the straps STN0..STN7. -/
  | powerOn (straps : Nat)
  /-- FRAME_RECEIVED (R166): a frame ends at a port's receiver, cut off or whole; the bytes between its delimiters. -/
  | frameReceived (port : Port) (cutOff : Bool) (bytes : List Byte)
  /-- SYMBOL_RECEIVED (R171). -/
  | symbolReceived (port : Port) (symbol : LineSymbol)
  /-- PAUSE_RECEIVED (R170). -/
  | pauseReceived (port : Port)
  /-- RESUME_RECEIVED (R170). -/
  | resumeReceived (port : Port)
  /-- PAUSE_TIMER_EXPIRY (R170). -/
  | pauseTimerExpiry (port : Port)
  /-- LINK_DOWN_EXPIRY (R171). -/
  | linkDownExpiry (port : Port)
  /-- FRAME_COMPLETES (R172). -/
  | frameCompletes (port : Port)
  /-- ADDRESS_CONFLICT (R24): a frame with the part's own station as source, taken from either port. -/
  | addressConflict (port : Port) (frame : Frame)
  /-- S_PORT_FRAME_DROPPED (R25, R26). -/
  | sPortFrameDropped (frame : Frame)
  /-- ORDER_TO_PART (R13). -/
  | orderToPart (frame : Frame)
  /-- QUERY_TO_PART (R16). -/
  | queryToPart (frame : Frame)
  /-- ORDER_FRAME_ACCEPTANCE (R38). -/
  | orderFrameAcceptance (frame : Frame)
  /-- PASS_THROUGH_ENTRY (R41). -/
  | passThroughEntry (frame : Frame)
  /-- SUPERVISORY_QUERY (R45). -/
  | supervisoryQuery (frame : Frame)
  /-- FIELD_REPORT (R27). -/
  | fieldReport (frame : Frame)
  /-- FIELD_ANSWER (R49). -/
  | fieldAnswer (frame : Frame)
  /-- UP_PASS_THROUGH (R29). -/
  | upPassThrough (frame : Frame)
  /-- FIELD_FRAME_DROPPED (R28). -/
  | fieldFrameDropped (frame : Frame)
  /-- FRESHNESS_EXPIRY (R9) of one point. -/
  | freshnessExpiry (point : Nat)
  /-- ANSWER_TIMER_EXPIRY (R51) of one query table entry. -/
  | answerTimerExpiry (entry : Nat)
  /-- DISCARD_TIMER_EXPIRY (R52) of one query table entry. -/
  | discardTimerExpiry (entry : Nat)
  /-- RAMP_TIMER_EXPIRY (R81) of one guard record. -/
  | rampTimerExpiry (output : Nat)
  /-- PERIOD_BOUNDARY (R104). -/
  | periodBoundary
  /-- INPUT_HOLD_EXPIRY (R129) of one required dispatch input. -/
  | inputHoldExpiry (input : ReqInput)
  /-- CYCLE_TIMER_EXPIRY (R132). -/
  | cycleTimerExpiry
  /-- WRITE (R182). -/
  | write (frame : Frame)
  /-- READ (R184). -/
  | read (frame : Frame)
  /-- START (R187). -/
  | start (frame : Frame)
  /-- STOP (R191). -/
  | stop (frame : Frame)
  /-- TIME (R192). -/
  | time (frame : Frame)
  /-- SUBSTITUTE (R10). -/
  | substitute (frame : Frame)
  /-- UNSUBSTITUTE (R11). -/
  | unsubstitute (frame : Frame)
  /-- LOCK (R193). -/
  | lock (frame : Frame)
  /-- RESET (R194). -/
  | reset (frame : Frame)
  /-- RELEASE (R75). -/
  | release (frame : Frame)
  /-- CLEAR (R205). -/
  | clear (frame : Frame)
  /-- FORCE (R206). -/
  | force (frame : Frame)
  /-- PORT-RESTART (R173). -/
  | portRestart (frame : Frame)
  /-- PORT-RATE (R164). -/
  | portRate (frame : Frame)
  /-- REARM (R159). -/
  | rearm (frame : Frame)
  /-- DISPATCH ENABLE (R127). -/
  | dispatchEnable (frame : Frame)
  /-- DISPATCH DISABLE (R127). -/
  | dispatchDisable (frame : Frame)
  /-- DISPATCH RUN (R127). -/
  | dispatchRun (frame : Frame)
  /-- DISPATCH HOLD (R127). -/
  | dispatchHold (frame : Frame)
  /-- COUNTER-CLEAR (R186). -/
  | counterClear (frame : Frame)
  /-- POWER_ON_RESET (R196): RESET_N goes low. -/
  | powerOnReset
deriving DecidableEq, Repr

end Sys2Proof
end

