-- ==== Sys2Proof/Decode.lean ====
section
/-! DEFINITION. The reading of a table word. Every row of spec/opcode_table.json has an empty list of fields and no
fixed bits: the K46 has no instruction words, its commands reach it as frames and events (00_scope). So no word
spells a command. -/

namespace Sys2Proof

/-- The command that a table word spells: none, since no row of the table gives bits. -/
def decodeTableWord (_nbits _w : Nat) : Option Instr := none

end Sys2Proof
end

