-- ==== Sys2Proof/Config.lean ====
section
/-! DEFINITION. The fixed sizes and limits of the part, each with the rule that states it. The K46 has no option
that an implementation may choose, and the spec leaves no instruction's result undefined, so there is no opaque
constant here; the model's own figure, `cycleBound`, is named in the assumption log. -/

namespace Sys2Proof.Config

/-- Point records 0..1023 (R1). -/
abbrev points : Nat := 1024
/-- Guarded output records 0..95 (R67). -/
abbrev guards : Nat := 96
/-- Channel records 0..15 (R94). -/
abbrev channels : Nat := 16
/-- Milliseconds of one day of the plant clock (R17). -/
abbrev msPerDay : Nat := 86400000
/-- Milliseconds of one half-hour period (R18). -/
abbrev msPerPeriod : Nat := 1800000
/-- Days after which the day number wraps (R17). -/
abbrev dayWrap : Nat := 65536
/-- Where every counter of the part stops (00_scope, Conventions; R185). -/
abbrev counterTop : Nat := 65535
/-- Entries of the upstream report queue (R30). -/
abbrev upstreamCap : Nat := 128
/-- Frames of the up pass-through queue (R29). -/
abbrev upPassCap : Nat := 8
/-- Frames of the S-port reply outbox (R36). -/
abbrev outboxCap : Nat := 16
/-- Entries of the order queue (R37). -/
abbrev orderQueueCap : Nat := 32
/-- Frames of a port's receive buffer (R167). -/
abbrev rxCap : Nat := 16
/-- Receive buffer occupancy from which a store pauses the peer (R169). -/
abbrev pauseLevel : Nat := 12
/-- Receive buffer occupancy down to which a take lets the peer resume (R169). -/
abbrev resumeLevel : Nat := 4
/-- Frames of the notice outbox (R204). -/
abbrev noticeCap : Nat := 16
/-- Records of the recorder buffer (R148). -/
abbrev recorderCap : Nat := 256
/-- Records of a half-hour ring (R106). -/
abbrev halfRingCap : Nat := 48
/-- Records of a day ring (R111). -/
abbrev dayRingCap : Nat := 31
/-- The pause timer in ms (R170). -/
abbrev pauseTime : Nat := 20
/-- The link-down timer in ms (R171). -/
abbrev linkTime : Nat := 2
/-- Report entries of one upstream REPORT frame (R34). -/
abbrev reportEntries : Nat := 16
/-- Order entries of one packed ORDER frame (R62). -/
abbrev orderEntries : Nat := 8
/-- Largest steam flow and concentration the part computes with (R100, R133). -/
abbrev quantityTop : Int := 10000000
/-- The model's own figure: how many dispatch cycle occasions one event acts on before a further one is left owed
(DESIGN CHOICE, log entry 12). -/
abbrev cycleBound : Nat := 8

end Sys2Proof.Config
end

