-- ==== Sys2Proof/Machine/State.lean ====
section
/-! DEFINITION. The state of the K46 as plain data: every register, record, queue, slot, timer, counter and port item
that the spec names, each structure with the rule that names it, and the machine right after a power-on reset.

A timer is the elapsed-time moment (ms) at which it expires, or `none` while it is stopped (R20). The pending queue,
`now`, `held`, `handed`, `owed` and `updated` are the model's own fields (log entries 1, 2, 3, 5 and 12). -/

namespace Sys2Proof.Machine

/-! ### How a step can stop -/

/-- Why the machine stops. The spec names no condition under which the part stops and no effect it leaves undefined,
so there is no fault: nothing raises one (safe). -/
inductive Fault : Type where
deriving DecidableEq, Repr

/-- Why a command has no meaning in the model. -/
inductive Refusal where
  /-- Raised by `exec`'s arm of a row that has no meaning yet; no row is left so. Safe: the model stops. -/
  | notModelled (mnemonic : String)
deriving DecidableEq, Repr

/-! ### Points and plant time (chapter 1) -/

/-- Quality codes 0 to 4 (00_scope, Quality codes). -/
inductive Quality where
  | good | uncertain | bad | stale | substituted
deriving DecidableEq, Repr

/-- Freshness state of a point (R4). -/
inductive Freshness where
  | never | fresh | expired
deriving DecidableEq, Repr

/-- Class of a point (R1). -/
inductive PointClass where
  | routine | essential
deriving DecidableEq, Repr

/-- Owner of a point: the part itself or a station 1..254 (R1). -/
inductive Owner where
  | self | station (n : Nat)
deriving DecidableEq, Repr

/-- A time stamp: the clock reading and the unset mark (R21). -/
structure Stamp where
  day   : Nat
  ms    : Nat
  unset : Bool
deriving DecidableEq, Repr

/-- A point record (R1). `timer` is the freshness timer; `updated` is the elapsed moment of the last accepted update,
from which R2 re-times it. -/
structure Point where
  configured : Bool
  owner      : Owner
  cls        : PointClass
  limit      : Nat
  low        : Value
  high       : Value
  value      : Value
  quality    : Quality
  fresh      : Freshness
  subActive  : Bool
  subValue   : Value
  lastUpdate : Option Stamp
  foreign    : Nat
  timer      : Option Nat
  updated    : Nat
deriving DecidableEq, Repr

/-- An unconfigured point record, as at power-on (R2). -/
def Point.blank : Point :=
  { configured := false, owner := .self, cls := .routine, limit := 0, low := 0, high := 0, value := 0,
    quality := .stale, fresh := .never, subActive := false, subValue := 0, lastUpdate := none, foreign := 0,
    timer := none, updated := 0 }

/-- The plant clock (R17). `handed` is the period (day, index) that the clock last stood in as handed to the emission
unit: the next boundary leaves it (R18). -/
structure Clock where
  day    : Nat
  ms     : Nat
  unset  : Bool
  handed : Nat × Nat
deriving DecidableEq, Repr

/-- The clock at power-on: day 0, millisecond 0, TIME-UNSET (R17). -/
def Clock.powerOn : Clock := { day := 0, ms := 0, unset := true, handed := (0, 0) }

/-! ### Forwarding (chapter 2) -/

/-- A station window (R22). -/
structure Window where
  enable : Bool
  base   : Nat
  limit  : Nat
deriving DecidableEq, Repr

/-- An entry of the upstream report queue (R30). -/
structure UpEntry where
  point : Nat
  value : Value
  code  : Nat
  cls   : PointClass
deriving DecidableEq, Repr

/-- A trip order (R76). -/
structure TripOrder where
  record : Nat
  point  : Nat
  value  : Value
deriving DecidableEq, Repr

/-- What a frame in the reply outbox or in flight carries for its owner: nothing more, a pending RESET (R194), a pending
S-port restart (R174), a trip order (R66), or the query of a table entry under a generation (R48). -/
inductive SentItem where
  | plain | resetDone | restartDone
  | trip (order : TripOrder)
  | query (entry gen : Nat)
deriving DecidableEq, Repr

/-- A frame placed in the reply outbox or in flight, with what its completion means. -/
structure Sending where
  frame : Frame
  item  : SentItem
deriving DecidableEq, Repr

/-- An entry of the order queue (R37). -/
inductive QueueEntry where
  | order (dest point : Nat) (value : Value) (origin : Nat) (guarded : Bool) (seq : Seq)
  | pass (frame : Frame) (seq : Seq)
deriving DecidableEq, Repr

/-- The forwarding counters (R42). -/
structure FwdCounters where
  addressConflict : Nat
  sourceWindow    : Nat
  toPartKind      : Nat
  broadcastQuery  : Nat
  misroute        : Nat
  fieldSource     : Nat
  fieldToPart     : Nat
  upPassDrop      : Nat
  thinningRefusal : Nat
  upstreamLoss    : Nat
  busy            : Nat
  mismatch        : Nat
deriving DecidableEq, Repr

def FwdCounters.zero : FwdCounters := ⟨0, 0, 0, 0, 0, 0, 0, 0, 0, 0, 0, 0⟩

/-- The forwarding unit (R22, R29, R30, R32, R34, R36, R37, R42). -/
structure Forwarding where
  windows    : List Window
  up         : List UpEntry
  thinning   : Bool
  highMark   : Nat
  lowMark    : Nat
  upFrameNo  : Nat
  upPass     : List Frame
  outbox     : List Sending
  orders     : List QueueEntry
  acceptance : Seq
  counters   : FwdCounters
deriving DecidableEq, Repr

def Forwarding.powerOn : Forwarding :=
  { windows := List.replicate 4 ⟨false, 0, 0⟩, up := [], thinning := false, highMark := 96, lowMark := 64,
    upFrameNo := 0, upPass := [], outbox := [], orders := [], acceptance := 0, counters := .zero }

/-! ### Delayed queries (chapter 3) -/

/-- State of a query table entry (R43). -/
inductive QueryState where
  | free | waitingSend | sent | done | failed
deriving DecidableEq, Repr

/-- A stored answer: point, quality code, value and answer status as carried (R43, R50). -/
structure Answer where
  point  : Nat
  code   : Nat
  value  : Value
  status : Nat
deriving DecidableEq, Repr

/-- A query table entry (R43). -/
structure QueryEntry where
  state        : QueryState
  origin       : Nat
  dest         : Nat
  point        : Nat
  tag          : Nat
  attempts     : Nat
  inFlight     : Bool
  gen          : Nat
  answer       : Option Answer
  seq          : Seq
  answerTimer  : Option Nat
  discardTimer : Option Nat
deriving DecidableEq, Repr

/-- A FREE entry of a generation; its key, count, answer and number read as 0 (R43). -/
def QueryEntry.freed (gen : Nat) (inFlight : Bool) : QueryEntry :=
  { state := .free, origin := 0, dest := 0, point := 0, tag := 0, attempts := 0, inFlight := inFlight, gen := gen,
    answer := none, seq := 0, answerTimer := none, discardTimer := none }

/-- The query table counters (R57). -/
structure QueryCounters where
  queryBusy  : Nat
  lateAnswer : Nat
  resend     : Nat
  noAnswer   : Nat
  discard    : Nat
deriving DecidableEq, Repr

/-- The query table, its settings and counters (R43, R57). `long` is the discard selection. -/
structure QueryTable where
  entries      : List QueryEntry
  attemptLimit : Nat
  timeout      : Nat
  long         : Bool
  counters     : QueryCounters
deriving DecidableEq, Repr

def QueryTable.powerOn : QueryTable :=
  { entries := List.replicate 8 (.freed 0 false), attemptLimit := 4, timeout := 100, long := false,
    counters := ⟨0, 0, 0, 0, 0⟩ }

/-! ### Field transmit arbitration (chapter 4) -/

/-- Level of a requester (R58). -/
inductive Level where
  | high | low | masked
deriving DecidableEq, Repr

/-- The four requesters of the ring, in ring order (R60). -/
inductive Requester where
  | supervisory | dispatch | step | query
deriving DecidableEq, Repr

/-- The five grant counters (R58). -/
structure GrantCounters where
  trip        : Nat
  supervisory : Nat
  dispatch    : Nat
  step        : Nat
  query       : Nat
deriving DecidableEq, Repr

/-- The field arbiter (R58). -/
structure Arbiter where
  supervisory : Level
  dispatch    : Level
  step        : Level
  query       : Level
  highPtr     : Requester
  lowPtr      : Requester
  frameNo     : Nat
  grants      : GrantCounters
deriving DecidableEq, Repr

def Arbiter.powerOn : Arbiter :=
  { supervisory := .high, dispatch := .high, step := .low, query := .low, highPtr := .supervisory,
    lowPtr := .supervisory, frameNo := 0, grants := ⟨0, 0, 0, 0, 0⟩ }

/-! ### Output guard (chapter 5) -/

/-- The two grate lines. -/
inductive LineId where
  | a | b
deriving DecidableEq, Repr

/-- Owner of a guarded output (R67). -/
inductive GuardOwner where
  | supervisory | dispatch | shared
deriving DecidableEq, Repr

/-- Trip action (R67). -/
inductive TripAction where
  | safe | hold
deriving DecidableEq, Repr

/-- State of a guarded output (R67). -/
inductive OutputState where
  | clear | tripped | latched
deriving DecidableEq, Repr

/-- Relation of an interlock term (R68). -/
inductive Relation where
  | above | below | notGood
deriving DecidableEq, Repr

/-- An interlock term with its runtime active flag (R68). -/
structure Term where
  used       : Bool
  point      : Nat
  relation   : Relation
  threshold  : Value
  hysteresis : Value
  failActive : Bool
  active     : Bool
deriving DecidableEq, Repr

def Term.blank : Term :=
  { used := false, point := 0, relation := .above, threshold := 0, hysteresis := 0, failActive := false, active := false }

/-- A guarded output record (R67): configuration, then runtime; `none` stands for UNKNOWN and for an absent last
issue; `rampTimer` is the output's ramp timer (R81). -/
structure GuardRec where
  configured : Bool
  point      : Nat
  line       : Option LineId
  restricted : Bool
  owner      : GuardOwner
  low        : Value
  rhigh      : Value
  high       : Value
  safe       : Value
  action     : TripAction
  latching   : Bool
  rate       : Nat
  interval   : Nat
  terms      : List Term
  state      : OutputState
  target     : Option Value
  issued     : Option Value
  lastIssue  : Option Nat
  step       : Nat
  rampTimer  : Option Nat
  clamped    : Nat
  held       : Nat
  owned      : Nat
  trips      : Nat
deriving DecidableEq, Repr

/-- An unconfigured guard record, as at power-on (R72). -/
def GuardRec.blank : GuardRec :=
  { configured := false, point := 0, line := some .a, restricted := false, owner := .supervisory, low := 0, rhigh := 0,
    high := 0, safe := 0, action := .safe, latching := false, rate := 0, interval := 100,
    terms := List.replicate 4 .blank, state := .clear, target := none, issued := none, lastIssue := none, step := 0,
    rampTimer := none, clamped := 0, held := 0, owned := 0, trips := 0 }

/-- A pending step of a step slot (R82). -/
structure PendingStep where
  record : Nat
  value  : Value
  fromVal : Value
deriving DecidableEq, Repr

/-- The output guard (R67): the records, the trip queue oldest first, and the pending steps of the step slots in their
written order, at most one for each record. -/
structure Guard where
  recs  : List GuardRec
  trips : List TripOrder
  steps : List PendingStep
deriving DecidableEq, Repr

def Guard.powerOn : Guard := { recs := List.replicate Config.guards .blank, trips := [], steps := [] }

/-! ### Emission channels (chapter 6) -/

/-- Emission state of a line (R91). -/
inductive EmissionState where
  | normal | warn | restrict
deriving DecidableEq, Repr

/-- A line record (R91). -/
structure LineRec where
  configured : Bool
  opPoint    : Nat
  statePoint : Option Nat
  operating  : Bool
  state      : EmissionState
deriving DecidableEq, Repr

def LineRec.powerOn : LineRec :=
  { configured := false, opPoint := 0, statePoint := none, operating := true, state := .normal }

/-- Status of a half-hour or a day (R105, R110, R113). -/
inductive PeriodStatus where
  | off | valid | invalid | cut
deriving DecidableEq, Repr

/-- A half-hour record (R106). -/
structure HalfRec where
  day      : Nat
  index    : Nat
  status   : PeriodStatus
  average  : Option Value
  valid    : Nat
  invalid  : Nat
  minmax   : Option (Value × Value)
  exceeded : Bool
deriving DecidableEq, Repr

/-- A day record (R111). -/
structure DayRec where
  day       : Nat
  status    : PeriodStatus
  average   : Option Value
  valid     : Nat
  invalid   : Nat
  off       : Nat
  overLimit : Nat
  exceeded  : Bool
  signature : Nat
deriving DecidableEq, Repr

/-- Configuration fields of a channel (R94). `exceptions` is the notice mode. -/
structure ChannelCfg where
  configured : Bool
  line       : LineId
  pollutant  : Nat
  o2         : Nat
  h2o        : Option Nat
  o2Ref      : Nat
  o2Cap      : Nat
  minValid   : Nat
  halfLimit  : Nat
  dayLimit   : Nat
  warnPct    : Nat
  warnMin    : Nat
  allowance  : Nat
  enforcing  : Bool
  exceptions : Bool
  avgPoint   : Option Nat
deriving DecidableEq, Repr

def ChannelCfg.powerOn : ChannelCfg :=
  { configured := false, line := .a, pollutant := 0, o2 := 0, h2o := none, o2Ref := 300, o2Cap := 1500, minValid := 1,
    halfLimit := 1, dayLimit := 1, warnPct := 50, warnMin := 1, allowance := 0, enforcing := false, exceptions := false,
    avgPoint := none }

/-- Runtime fields of a channel (R95). `minmax` is min and max, absent together while the valid count is 0. -/
structure ChannelRun where
  opened     : Bool
  day        : Nat
  index      : Nat
  valid      : Nat
  invalid    : Nat
  sum        : Int
  minmax     : Option (Value × Value)
  operated   : Bool
  warn       : Bool
  latch      : Bool
  warnLevel  : Nat
  accDay     : Nat
  accValid   : Nat
  accInvalid : Nat
  accOff     : Nat
  accSum     : Int
  accOver    : Nat
  concClamp  : Nat
  countFull  : Nat
deriving DecidableEq, Repr

/-- The runtime fields of an IDLE channel with a warn level and counters (R95). -/
def ChannelRun.idle (warnLevel concClamp countFull : Nat) : ChannelRun :=
  { opened := false, day := 0, index := 0, valid := 0, invalid := 0, sum := 0, minmax := none, operated := false,
    warn := false, latch := false, warnLevel := warnLevel, accDay := 0, accValid := 0, accInvalid := 0, accOff := 0,
    accSum := 0, accOver := 0, concClamp := concClamp, countFull := countFull }

/-- A channel record with its rings, newest record first (R94, R95, R106, R111). -/
structure Channel where
  cfg  : ChannelCfg
  run  : ChannelRun
  half : List HalfRec
  days : List DayRec
deriving DecidableEq, Repr

def Channel.powerOn : Channel := { cfg := .powerOn, run := .idle 0 0 0, half := [], days := [] }

/-- The emission unit: lines A and B and the 16 channels. -/
structure Emission where
  lineA    : LineRec
  lineB    : LineRec
  channels : List Channel
deriving DecidableEq, Repr

def Emission.powerOn : Emission :=
  { lineA := .powerOn, lineB := .powerOn, channels := List.replicate Config.channels .powerOn }

/-! ### Steam dispatch (chapter 7) -/

/-- The structural fields of one line in the dispatch table (R119). -/
structure LineShare where
  min    : Nat
  max    : Nat
  warn   : Nat
  trip   : Nat
deriving DecidableEq, Repr

/-- Structural fields of the dispatch table (R119); `outputs` in the order turbine steam, extraction steam, bypass
steam, line A target, line B target. -/
structure DispatchCfg where
  configured : Bool
  fa         : Nat
  fb         : Nat
  trip       : Nat
  heat       : Nat
  grid       : Nat
  outputs    : List Nat
  steamPoint : Option Nat
  powerPoint : Option Nat
  statePoint : Option Nat
  turbineMin : Nat
  turbineMax : Nat
  extMax     : Nat
  kq         : Nat
  ke         : Nat
  kx         : Nat
  lineA      : LineShare
  lineB      : LineShare
deriving DecidableEq, Repr

def DispatchCfg.powerOn : DispatchCfg :=
  { configured := false, fa := 0, fb := 0, trip := 0, heat := 0, grid := 0, outputs := [0, 0, 0, 0, 0],
    steamPoint := none, powerPoint := none, statePoint := none, turbineMin := 0, turbineMax := 0, extMax := 0,
    kq := 1, ke := 1, kx := 1, lineA := ⟨0, 0, 0, 0⟩, lineB := ⟨0, 0, 0, 0⟩ }

/-- Dispatch mode (R120). -/
inductive Mode where
  | heatLed | powerLed
deriving DecidableEq, Repr

/-- Operating fields of the dispatch table (R120). -/
structure DispatchOper where
  mode      : Mode
  shareA    : Nat
  ramp      : Nat
  interval  : Nat
  holdLimit : Nat
  deadbands : List Nat
deriving DecidableEq, Repr

def DispatchOper.powerOn : DispatchOper :=
  { mode := .heatLed, shareA := 50, ramp := 100, interval := 1000, holdLimit := 5000, deadbands := [10, 10, 10, 10, 10] }

/-- Dispatch state (R122). -/
inductive DispatchState where
  | stopped | run | hold
deriving DecidableEq, Repr

/-- Hold cause (R122); absent is `none`. -/
inductive HoldCause where
  | input | conflict | command
deriving DecidableEq, Repr

/-- State of a required input (R129). -/
inductive InputState where
  | usable | holding | expired
deriving DecidableEq, Repr

/-- Input record of a required input (R129). -/
structure InputRec where
  last  : Option Value
  state : InputState
  timer : Option Nat
deriving DecidableEq, Repr

def InputRec.powerOn : InputRec := { last := none, state := .expired, timer := none }

/-- Outcome of a cycle (chapter 7.4). -/
inductive CycleOutcome where
  | normal | trip | lowSteam
deriving DecidableEq, Repr

/-- What the dispatch record holds of one line (R144). -/
structure LineResult where
  operating : Bool
  state     : EmissionState
  effMax    : Value
  target    : Value
deriving DecidableEq, Repr

/-- What a cycle hands for one output, and the guard's decision (R144): not handed, placed or dropped. -/
inductive Handed where
  | no | placed | dropped
deriving DecidableEq, Repr

/-- The dispatch record of one cycle (R144). -/
structure CycleRecord where
  number     : Nat
  outcome    : CycleOutcome
  first      : Bool
  fa         : Value
  fb         : Value
  trip       : Value
  faHeld     : Bool
  fbHeld     : Bool
  tripHeld   : Bool
  heat       : Value
  grid       : Value
  heatHeld   : Bool
  gridHeld   : Bool
  mode       : Mode
  shareA     : Nat
  avail      : Value
  extReq     : Option Value
  condReq    : Option Value
  turbAvail  : Option Value
  ext        : Option Value
  cond       : Option Value
  target     : Option Value
  previous   : Option Value
  turbine    : Value
  extraction : Value
  condensing : Value
  bypass     : Value
  power      : Value
  total      : Option Value
  lineA      : LineResult
  lineB      : LineResult
  handed     : List Handed
deriving DecidableEq, Repr

/-- A pending order of a dispatch slot (R143). -/
structure PendingOrder where
  output : Nat
  value  : Value
  urgent : Bool
deriving DecidableEq, Repr

/-- The dispatch unit (R122, R129, R131, R143, R146): table, state, inputs, the pending orders of the five slots in
their written order, the last record and the counters. `tripSeen` is the trip point's effective value at its previous
wake; `owed` says that a cycle occasion is still to be acted on. -/
structure DispatchUnit where
  cfg         : DispatchCfg
  oper        : DispatchOper
  state       : DispatchState
  enable      : Bool
  cause       : Option HoldCause
  first       : Bool
  timer       : Option Nat
  lastOrdered : List (Option Value)
  cycleNo     : Nat
  record      : Option CycleRecord
  slots       : List PendingOrder
  fa          : InputRec
  fb          : InputRec
  trip        : InputRec
  tripSeen    : Option Value
  heat        : Option Value
  grid        : Option Value
  cycles      : Nat
  holds       : Nat
  owed        : Bool
deriving DecidableEq, Repr

def DispatchUnit.powerOn : DispatchUnit :=
  { cfg := .powerOn, oper := .powerOn, state := .stopped, enable := false, cause := none, first := false, timer := none,
    lastOrdered := [none, none, none, none, none], cycleNo := 0, record := none, slots := [], fa := .powerOn,
    fb := .powerOn, trip := .powerOn, tripSeen := none, heat := none, grid := none, cycles := 0, holds := 0,
    owed := false }

/-! ### Trip recorder (chapter 8) -/

/-- Recorder state (R148). -/
inductive RecorderState where
  | off | armed | post | frozen
deriving DecidableEq, Repr

/-- Origin of a record (R149). -/
inductive RecOrigin where
  | sPort | fPort | guard | dispatch | part
deriving DecidableEq, Repr

/-- Outcome of a record (R149). -/
inductive RecOutcome where
  | passed | clamped | ramped | held | owned | busy | tripSafe
deriving DecidableEq, Repr

/-- A trigger mark (R149). -/
inductive TriggerMark where
  | comparator (n : Nat) | outputTripped | lineRestrict | portOverrun | force
deriving DecidableEq, Repr

/-- A record of the buffer (R149). -/
structure RecEntry where
  number  : Nat
  time    : Stamp
  origin  : RecOrigin
  kind    : Option Kind
  src     : Option Nat
  dest    : Option Nat
  count   : Nat
  point   : Option Nat
  value   : Option Value
  outcome : Option RecOutcome
  marks   : List TriggerMark
deriving DecidableEq, Repr

/-- Relation of a comparator (R154). -/
inductive CmpRelation where
  | any | equal | above | below
deriving DecidableEq, Repr

/-- A comparator (R154). `kinds` has bit 0 for REPORT and bit 1 for ORDER. -/
structure Comparator where
  enable   : Bool
  pattern  : Nat
  mask     : Nat
  kinds    : BitVec 2
  relation : CmpRelation
  value    : Value
deriving DecidableEq, Repr

/-- A recorder configuration (R150). `kindSel` has bit n for kind code n + 1; `outcomeSel` bits GUARD, DISPATCH, PART;
`sources` bits OUTPUT-TRIPPED, LINE-RESTRICT, PORT-OVERRUN, FORCE. -/
structure RecorderCfg where
  comparators : List Comparator
  kindSel     : BitVec 7
  outcomeSel  : BitVec 3
  postCount   : Nat
  freezeStop  : Bool
  sources     : BitVec 4
deriving DecidableEq, Repr

def RecorderCfg.powerOn : RecorderCfg :=
  { comparators := List.replicate 4 ⟨false, 0, 0, 0, .any, 0⟩, kindSel := 3, outcomeSel := 7, postCount := 128,
    freezeStop := false, sources := 15 }

/-- The trip recorder (R148, R150), the buffer newest record first. `table` is the recorder configuration table as WRITE
leaves it and READ shows it; `cfg` is the configuration that governs, the table as the last REARM found it (R150). -/
structure Recorder where
  state    : RecorderState
  buffer   : List RecEntry
  post     : Nat
  number   : Nat
  triggers : Nat
  missed   : Nat
  table    : RecorderCfg
  cfg      : RecorderCfg
deriving DecidableEq, Repr

def Recorder.powerOn : Recorder :=
  { state := .off, buffer := [], post := 0, number := 0, triggers := 0, missed := 0, table := .powerOn, cfg := .powerOn }

/-! ### Segment ports (chapter 9) -/

/-- The four rates (R163). -/
inductive Rate where
  | r2_5 | r5 | r10 | r20
deriving DecidableEq, Repr

/-- Port state (R163). -/
inductive PortState where
  | active | paused | down | disabled
deriving DecidableEq, Repr

/-- The flow symbol waiting for the next gap (R169). -/
inductive FlowSymbol where
  | none | pause | resume
deriving DecidableEq, Repr

/-- The port counters (R175). -/
structure PortCounters where
  fcsError       : Nat
  lengthError    : Nat
  kindError      : Nat
  overrun        : Nat
  framesReceived : Nat
  framesSent     : Nat
  pauseSent      : Nat
  pauseReceived  : Nat
  linkDown       : Nat
deriving DecidableEq, Repr

def PortCounters.zero : PortCounters := ⟨0, 0, 0, 0, 0, 0, 0, 0, 0⟩

/-- What stands at a port's receiver (R165): no frame, a frame whose start delimiter has arrived and whose end has not, or
such a frame discarded by a restart or RESET, whose rest is still to arrive. -/
inductive Reception where
  | none | inFrame | discarding
deriving DecidableEq, Repr

/-- A port (R163). `tx` is the frame in flight (SENDING) or none (IDLE); `holding` is the flow state; `restarts` are the
pending restarts of the S-port, oldest first, each with the new rate of a PORT-RATE (R174). -/
structure PortRec where
  rate       : Rate
  state      : PortState
  rx         : List Frame
  overrun    : Bool
  holding    : Bool
  symbol     : FlowSymbol
  tx         : Option Sending
  pauseTimer : Option Nat
  linkTimer  : Option Nat
  receiving  : Reception
  restarts   : List (Option Rate)
  counters   : PortCounters
deriving DecidableEq, Repr

/-- A port at power-on and at RESET, its link-down timer started at an elapsed moment (R163, R177). -/
def PortRec.powerOn (now : Nat) : PortRec :=
  { rate := .r10, state := .active, rx := [], overrun := false, holding := false, symbol := .none, tx := none,
    pauseTimer := none, linkTimer := some (now + Config.linkTime), receiving := .none, restarts := [],
    counters := .zero }

/-! ### Setup (chapter 10) -/

/-- Part state (R179). -/
inductive PartState where
  | setup | run
deriving DecidableEq, Repr

/-- The part record (R179). -/
structure Part where
  station       : Nat
  strap         : Nat
  state         : PartState
  lock          : Bool
  signature     : Nat
  collector     : Nat
  pendingResets : Nat
deriving DecidableEq, Repr

def Part.powerOn (station strap : Nat) : Part :=
  { station := station, strap := strap, state := .setup, lock := false, signature := 0, collector := 0,
    pendingResets := 0 }

/-! ### Attention (chapter 11) -/

/-- The 25 attention flags in index order (R198). -/
inductive Flag where
  | sOverrun | fOverrun | sLinkDown | fLinkDown | thinning | outputLatched | emissionWarn | emissionRestrict
  | dispatchHold | turbineTrip | demandStale | recorderFrozen | timeUnset
  | frameErrors | misroute | upstreamLoss | addressConflict | queryDiscard | queryNoAnswer | pointStale | outputTrip
  | orderHeld | periodClosed | periodCut | dayClosed
deriving DecidableEq, Repr

/-- What the attention unit holds for a flag (R198): set, forced mark, enable, clear mode LATCH, condition copy. -/
structure FlagRec where
  isSet  : Bool
  forced : Bool
  enable : Bool
  latch  : Bool
  cond   : Bool
deriving DecidableEq, Repr

/-- The attention unit (R198, R203, R204), the notice outbox oldest first. -/
structure Attention where
  flags    : List FlagRec
  overflow : Bool
  noticeNo : Nat
  outbox   : List Frame
deriving DecidableEq, Repr

/-- The attention unit at power-on and at RESET: TIME-UNSET, index 12, follows the clock (R199). -/
def Attention.powerOn (unset : Bool) : Attention :=
  { flags := (List.replicate 25 (⟨false, false, true, false, false⟩ : FlagRec)).set 12 ⟨unset, false, true, false, unset⟩,
    overflow := false, noticeNo := 0, outbox := [] }

/-! ### The whole machine -/

/-- The state of the part. `held` says that RESET_N is low (R196); `now` is the elapsed time in ms; `pending` is the
queue of commands that wait, first in, first out. -/
structure State where
  held       : Bool
  now        : Nat
  part       : Part
  clock      : Clock
  points     : List Point
  fwd        : Forwarding
  query      : QueryTable
  arbiter    : Arbiter
  guard      : Guard
  emission   : Emission
  dispatch   : DispatchUnit
  recorder   : Recorder
  sPort      : PortRec
  fPort      : PortRec
  attention  : Attention
  pending    : List Instr
deriving DecidableEq, Repr

/-- Every block at its power-on values with a station number, its strap value and a queue (R196). -/
def State.powerOn (station strap : Nat) (pending : List Instr) : State :=
  { held := false, now := 0, part := .powerOn station strap, clock := .powerOn,
    points := List.replicate Config.points .blank, fwd := .powerOn, query := .powerOn, arbiter := .powerOn,
    guard := .powerOn, emission := .powerOn, dispatch := .powerOn, recorder := .powerOn, sPort := .powerOn 0,
    fPort := .powerOn 0, attention := .powerOn true, pending := pending }

/-- The machine right after a power-on reset (R196). The spec leaves the straps to the board: the model's strap value
is 0, which R196 clamps to station 254 (DESIGN CHOICE, log entry 4). -/
def State.reset : State := State.powerOn 254 0 []

end Sys2Proof.Machine
end

