-- ==== Sys2Proof/Machine/Ops.lean ====
section
/-! DEFINITION. The named operations over the state that every block uses: saturating counters, bytes and check
sequences, records by index, plant time and elapsed time, and clamping. -/

namespace Sys2Proof.Machine

open Sys2Proof

/-! ### Counters and clamping -/

/-- A counter advanced by one; it stops at 65,535 and does not wrap (00_scope, Conventions; R185). -/
def bump (n : Nat) : Nat := min (n + 1) Config.counterTop

/-- A value outside a range replaced by the nearest end of it (00_scope, Clamp). -/
def clampTo (lo hi v : Int) : Int := if v < lo then lo else if hi < v then hi else v

/-- The least integer not below `a / b` for positive `b` (00_scope, ceil). -/
def ceilDiv (a b : Int) : Int := -((-a) / b)

/-- `n / d` rounded half up, as floor((2n + d) / (2d)) (00_scope, Conventions). -/
def roundHalfUp (n d : Int) : Int := (2 * n + d) / (2 * d)

/-! ### Bytes (R208: most significant byte first) -/

/-- The low byte of a number. -/
def byteOf (n : Nat) : Byte := BitVec.ofNat 8 n

/-- The `k` low bytes of a number, most significant first. -/
def bytesOf : Nat → Nat → List Byte
  | 0, _ => []
  | k + 1, n => byteOf (n / 256 ^ k) :: bytesOf k n

/-- A signed value as 32-bit two's complement. -/
def signedBytes (v : Value) : List Byte := bytesOf 4 (v % 4294967296).toNat

/-- A signed value as 64-bit two's complement. -/
def signedBytes8 (v : Int) : List Byte := bytesOf 8 (v % 18446744073709551616).toNat

/-- A yes/no field: 1 for yes and 0 for no. -/
def yesNo (b : Bool) : Nat := if b then 1 else 0

/-- The number that bytes spell, most significant first. -/
def natOf (bs : List Byte) : Nat := bs.foldl (fun acc b => acc * 256 + b.toNat) 0

/-- The number in `len` bytes at an offset. -/
def natAt (bs : List Byte) (off len : Nat) : Nat := natOf ((bs.drop off).take len)

/-- The signed value that a 32-bit number stands for in two's complement. -/
def signed32 (n : Nat) : Value := if n < 2147483648 then n else (n : Int) - 4294967296

/-- The signed 32-bit value at an offset. -/
def valueAt (bs : List Byte) (off : Nat) : Value := signed32 (natAt bs off 4)

/-! ### Check sequences -/

/-- One bit of a CRC of width `w` with generator polynomial `poly`, most significant bit first. -/
def crcBit (w poly reg bit : Nat) : Nat :=
  let top := (reg / 2 ^ (w - 1) + bit) % 2
  let shifted := (reg * 2) % 2 ^ w
  if top = 1 then shifted ^^^ poly else shifted

/-- One byte of a CRC, its most significant bit first. -/
def crcByte (w poly reg : Nat) (b : Byte) : Nat :=
  [7, 6, 5, 4, 3, 2, 1, 0].foldl (fun r i => crcBit w poly r (b.toNat / 2 ^ i % 2)) reg

/-- The frame check sequence: polynomial x^16 + x^12 + x^5 + 1, initial value all ones, no final inversion (R165). -/
def fcsOf (bs : List Byte) : Nat := bs.foldl (crcByte 16 0x1021) 0xFFFF

/-- The CRC-32 of the signature: polynomial 04C11DB7 hexadecimal, initial value all ones, final inversion (R189). -/
def crc32 (bs : List Byte) : Nat := bs.foldl (crcByte 32 0x04C11DB7) 0xFFFFFFFF ^^^ 0xFFFFFFFF

/-! ### Records by index -/

/-- A point record; a number with no record reads as an unconfigured one (R1). -/
def State.point (s : State) (p : Nat) : Point := s.points.getD p .blank

/-- The state with a point record changed. -/
def State.modPoint (s : State) (p : Nat) (f : Point → Point) : State := { s with points := s.points.modify p f }

/-- A guard record. -/
def State.guardRec (s : State) (i : Nat) : GuardRec := s.guard.recs.getD i .blank

/-- The state with a guard record changed. -/
def State.modGuard (s : State) (i : Nat) (f : GuardRec → GuardRec) : State :=
  { s with guard := { s.guard with recs := s.guard.recs.modify i f } }

/-- A query table entry. -/
def State.queryEntry (s : State) (i : Nat) : QueryEntry := s.query.entries.getD i (.freed 0 false)

/-- The state with a query table entry changed. -/
def State.modQuery (s : State) (i : Nat) (f : QueryEntry → QueryEntry) : State :=
  { s with query := { s.query with entries := s.query.entries.modify i f } }

/-- A channel record. -/
def State.channel (s : State) (c : Nat) : Channel := s.emission.channels.getD c .powerOn

/-- The state with a channel record changed. -/
def State.modChannel (s : State) (c : Nat) (f : Channel → Channel) : State :=
  { s with emission := { s.emission with channels := s.emission.channels.modify c f } }

/-- A line record. -/
def State.line (s : State) : LineId → LineRec
  | .a => s.emission.lineA
  | .b => s.emission.lineB

/-- The state with a line record changed. -/
def State.modLine (s : State) (l : LineId) (f : LineRec → LineRec) : State :=
  match l with
  | .a => { s with emission := { s.emission with lineA := f s.emission.lineA } }
  | .b => { s with emission := { s.emission with lineB := f s.emission.lineB } }

/-- A port. -/
def State.port (s : State) : Port → PortRec
  | .sPort => s.sPort
  | .fPort => s.fPort

/-- The state with a port changed. -/
def State.modPort (s : State) (p : Port) (f : PortRec → PortRec) : State :=
  match p with
  | .sPort => { s with sPort := f s.sPort }
  | .fPort => { s with fPort := f s.fPort }

/-- The state with a flag's record changed. -/
def State.modFlag (s : State) (i : Nat) (f : FlagRec → FlagRec) : State :=
  { s with attention := { s.attention with flags := s.attention.flags.modify i f } }

/-- The state with the forwarding counters changed. -/
def State.countFwd (s : State) (f : FwdCounters → FwdCounters) : State :=
  { s with fwd := { s.fwd with counters := f s.fwd.counters } }

/-- The state with a port's counters changed. -/
def State.countPort (s : State) (p : Port) (f : PortCounters → PortCounters) : State :=
  s.modPort p (fun r => { r with counters := f r.counters })

/-! ### Plant time and elapsed time -/

/-- The absolute time of a reading: day × 86,400,000 + millisecond of day (R17). -/
def absTime (day ms : Nat) : Nat := day * Config.msPerDay + ms

/-- The whole circle of plant time, 65,536 days (R17). -/
def circle : Nat := Config.dayWrap * Config.msPerDay

/-- The distance between two readings, taken the shorter way round the circle, without its sign (R17). -/
def clockDistance (d1 m1 d2 m2 : Nat) : Nat :=
  let fwd := (absTime d2 m2 + circle - absTime d1 m1) % circle
  min fwd (circle - fwd)

/-- The clock after `d` milliseconds of elapsed time; day 65535 is followed by day 0 (R17). -/
def Clock.advance (c : Clock) (d : Nat) : Clock :=
  let t := (absTime c.day c.ms + d) % circle
  { c with day := t / Config.msPerDay, ms := t % Config.msPerDay }

/-- The period (day, index) of a reading: index floor(ms / 1,800,000) (R18). -/
def periodOf (day ms : Nat) : Nat × Nat := (day, ms / Config.msPerPeriod)

/-- The period after a period (R18). -/
def nextPeriod (p : Nat × Nat) : Nat × Nat :=
  if p.2 < 47 then (p.1, p.2 + 1) else ((p.1 + 1) % Config.dayWrap, 0)

/-- `d` milliseconds of elapsed time pass: the clock advances with them (R17, R20). -/
def elapse (d : Nat) (s : State) : State := { s with now := s.now + d, clock := s.clock.advance d }

/-- The time stamp of an event taken now (R21). -/
def stampNow (s : State) : Stamp := { day := s.clock.day, ms := s.clock.ms, unset := s.clock.unset }

/-- A plant time on the line: day, millisecond of day with the unset mark in bit 31 (R208). -/
def stampBytes (t : Stamp) : List Byte :=
  bytesOf 2 t.day ++ bytesOf 4 (t.ms + if t.unset then 2147483648 else 0)

/-! ### Stations -/

/-- Whether a station lies inside a window (R22: 0 and 255 never do). -/
def Window.holds (w : Window) (station : Nat) : Bool :=
  w.enable && decide (w.base ≤ station) && decide (station ≤ w.limit) && decide (station ≠ 0) && decide (station ≠ 255)

/-- Whether a station lies on the field side: inside at least one window (R22). -/
def fieldSide (s : State) (station : Nat) : Bool := s.fwd.windows.any (·.holds station)

/-- The owner station of a point, 0 where the part owns it (R61). -/
def ownerStation (s : State) (p : Nat) : Nat :=
  match (s.point p).owner with
  | .self => 0
  | .station n => n

end Sys2Proof.Machine
end

