-- ==== Sys2Proof/Machine/Operands.lean ====
section
/-! DEFINITION. The operand forms of the part: frames on the line and their receive checks (R166, R208), the entries
of REPORT, ORDER, QUERY and ANSWER frames, the heads and blocks of SETUP frames (R209), and the frames that the part
itself forms. -/

namespace Sys2Proof.Machine

open Sys2Proof

/-! ### Headers -/

/-- Kind codes REPORT 1 to SETUP 7 (R208). -/
def kindCode : Kind → Nat
  | .report => 1
  | .order => 2
  | .query => 3
  | .answer => 4
  | .status => 5
  | .notice => 6
  | .setup => 7

/-- The kind of a kind code; 0 and 8..15 are none (R208). -/
def kindOfCode : Nat → Option Kind
  | 1 => some .report
  | 2 => some .order
  | 3 => some .query
  | 4 => some .answer
  | 5 => some .status
  | 6 => some .notice
  | 7 => some .setup
  | _ => none

/-- Whether an entry count lies in the range of a kind (R166, R208). -/
def countInRange (k : Kind) (count : Nat) : Bool :=
  match k with
  | .report => decide (1 ≤ count ∧ count ≤ 16)
  | .order => decide (1 ≤ count ∧ count ≤ 8)
  | .query => decide (count = 1)
  | .answer => decide (count = 1)
  | .status => decide (1 ≤ count ∧ count ≤ 8)
  | .notice => decide (1 ≤ count ∧ count ≤ 16)
  | .setup => decide (1 ≤ count ∧ count ≤ 16)

/-- The body length of a kind and count (R208). -/
def bodyLength (k : Kind) (count : Nat) : Nat :=
  match k with
  | .query => 2
  | .answer => 7
  | _ => 6 * count

/-- The header and body of a frame as bytes (R208). -/
def headerAndBody (f : Frame) : List Byte :=
  byteOf f.dest :: byteOf f.src :: byteOf (kindCode f.kind * 16 + (f.count - 1)) :: byteOf f.tag :: f.body

/-- A frame as the line carries it, with its check sequence, high byte first (R165, R208). -/
def frameBytes (f : Frame) : List Byte :=
  let hb := headerAndBody f
  hb ++ bytesOf 2 (fcsOf hb)

/-- What the receive checks of R166 find: the cause of a failure, or the frame. -/
inductive Checked where
  | fcsError | lengthError | kindError
  | good (f : Frame)
deriving DecidableEq, Repr

/-- The receive checks, in the order of R166: check sequence, length, kind. A frame whose kind code or entry count is
bad is not judged for length and fails as a kind error. -/
def checkFrame (cutOff : Bool) (bytes : List Byte) : Checked :=
  let hb := bytes.take (bytes.length - 2)
  if cutOff || decide (bytes.length < 6) || decide (fcsOf hb ≠ natAt bytes (bytes.length - 2) 2) then .fcsError
  else
    let kc := natAt bytes 2 1
    let count := kc % 16 + 1
    let src := natAt bytes 1 1
    match kindOfCode (kc / 16) with
    | none => .kindError
    | some k =>
      if countInRange k count then
        if bytes.length ≠ 4 + bodyLength k count + 2 then .lengthError
        else if src = 0 then .kindError
        else .good { dest := natAt bytes 0 1, src := src, kind := k, count := count, tag := natAt bytes 3 1,
                     body := hb.drop 4 }
      else .kindError

/-! ### Entries of received frames -/

/-- The point number of a point word: its lower 12 bits (R208). -/
def pointOfWord (w : Nat) : Nat := w % 4096

/-- The upper four bits of a point word: a quality code or form mark (R208). -/
def codeOfWord (w : Nat) : Nat := w / 4096

/-- A point word (R208). -/
def pointWord (code point : Nat) : List Byte := bytesOf 2 (code * 4096 + point)

/-- A report entry as the frame carries it. -/
structure ReportEntry where
  point : Nat
  code  : Nat
  value : Value
deriving DecidableEq, Repr

/-- The `i`-th entry of a REPORT (R208). -/
def reportEntryAt (f : Frame) (i : Nat) : ReportEntry :=
  { point := pointOfWord (natAt f.body (6 * i) 2), code := codeOfWord (natAt f.body (6 * i) 2),
    value := valueAt f.body (6 * i + 2) }

/-- The entries of a REPORT, in frame order. -/
def reportEntries (f : Frame) : List ReportEntry := (List.range f.count).map (reportEntryAt f)

/-- The `i`-th entry of an ORDER, its point and value; the upper bits of the point word are not examined (R208). -/
def orderEntryAt (f : Frame) (i : Nat) : Nat × Value :=
  (pointOfWord (natAt f.body (6 * i) 2), valueAt f.body (6 * i + 2))

/-- The entries of an ORDER, in frame order. -/
def orderEntries (f : Frame) : List (Nat × Value) := (List.range f.count).map (orderEntryAt f)

/-- The point of a QUERY (R208). -/
def queryPoint (f : Frame) : Nat := pointOfWord (natAt f.body 0 2)

/-- The entry of an ANSWER (R208). -/
def answerOf (f : Frame) : Answer :=
  { point := pointOfWord (natAt f.body 0 2), code := codeOfWord (natAt f.body 0 2), value := valueAt f.body 2,
    status := natAt f.body 6 1 }

/-- The operation code of a SETUP frame: byte 0 of its head (R209). -/
def setupOp (f : Frame) : Nat := natAt f.body 0 1

/-- A byte of a SETUP frame's head. -/
def headByte (f : Frame) (i : Nat) : Nat := natAt f.body i 1

/-- A 2-byte operand of a SETUP frame's head. -/
def headWord (f : Frame) (i : Nat) : Nat := natAt f.body i 2

/-- One item of a WRITE: group, field offset, 32-bit value (R209). -/
structure Item where
  group  : Nat
  offset : Nat
  value  : Nat
deriving DecidableEq, Repr

/-- The items of a WRITE: the blocks after the head (R209). -/
def writeItems (f : Frame) : List Item :=
  (List.range (f.count - 1)).map (fun i =>
    { group := natAt f.body (6 * (i + 1)) 1, offset := natAt f.body (6 * (i + 1) + 1) 1,
      value := natAt f.body (6 * (i + 1) + 2) 4 })

/-- Station windows and kinds decide a frame's route; broadcast is station 255 (00_scope). -/
def broadcast : Nat := 255

/-! ### Frames that the part forms -/

/-- The STATUS codes, in the order of the STATUS code table (R208). -/
inductive Status where
  | done | pending | busy | owned | held | mismatch | refusedState | refusedLocked | badTable | badIndex | badValue
  | checkFailed | stillActive | unknownPoint
deriving DecidableEq, Repr

/-- STATUS codes numbered DONE 0 to UNKNOWN-POINT 13 (R208). -/
def statusCode : Status → Nat
  | .done => 0
  | .pending => 1
  | .busy => 2
  | .owned => 3
  | .held => 4
  | .mismatch => 5
  | .refusedState => 6
  | .refusedLocked => 7
  | .badTable => 8
  | .badIndex => 9
  | .badValue => 10
  | .checkFailed => 11
  | .stillActive => 12
  | .unknownPoint => 13

/-- Quality codes (00_scope, Quality codes). -/
def qualityCode : Quality → Nat
  | .good => 0
  | .uncertain => 1
  | .bad => 2
  | .stale => 3
  | .substituted => 4

/-- A STATUS frame of the result form in reply to a frame: one block for each point and code (R209). -/
def resultStatus (s : State) (f : Frame) (results : List (Nat × Status)) : Frame :=
  { dest := f.src, src := s.part.station, kind := .status, count := results.length, tag := f.tag,
    body := results.flatMap (fun r => pointWord 0 r.1 ++ [byteOf (statusCode r.2), 0, 0, 0]) }

/-- Bytes padded with zeros to whole 6-byte blocks (R209). -/
def padBlocks (bs : List Byte) : List Byte := bs ++ List.replicate ((6 - bs.length % 6) % 6) 0

/-- A STATUS frame of the setup form in reply to a SETUP frame: head block, then the data padded to whole blocks
(R209). -/
def setupStatus (s : State) (f : Frame) (code : Status) (next returned : Nat) (data : List Byte) : Frame :=
  let body := [byteOf 16, byteOf (setupOp f), byteOf (statusCode code)] ++ bytesOf 2 next ++ [byteOf returned] ++
    padBlocks data
  { dest := f.src, src := s.part.station, kind := .status, count := body.length / 6, tag := f.tag, body := body }

/-- An answer entry (R208). -/
def answerBytes (a : Answer) : List Byte := pointWord a.code a.point ++ signedBytes a.value ++ [byteOf a.status]

/-- An ANSWER frame in reply to a QUERY (R16, R53). -/
def answerFrame (s : State) (f : Frame) (a : Answer) : Frame :=
  { dest := f.src, src := s.part.station, kind := .answer, count := 1, tag := f.tag, body := answerBytes a }

/-- An ORDER frame (R61, R62). -/
def orderFrame (dest src tag : Nat) (entries : List (Nat × Value)) : Frame :=
  { dest := dest, src := src, kind := .order, count := entries.length, tag := tag,
    body := entries.flatMap (fun e => pointWord 0 e.1 ++ signedBytes e.2) }

/-- A QUERY frame (R48). -/
def queryFrame (dest src tag point : Nat) : Frame :=
  { dest := dest, src := src, kind := .query, count := 1, tag := tag, body := pointWord 0 point }

/-- An upstream REPORT frame (R34). -/
def reportFrame (dest src tag : Nat) (entries : List UpEntry) : Frame :=
  { dest := dest, src := src, kind := .report, count := entries.length, tag := tag,
    body := entries.flatMap (fun e => pointWord e.code e.point ++ signedBytes e.value) }

/-- A frame placed in the S-port reply outbox (R36). -/
def placeReply (f : Frame) (item : SentItem) (s : State) : State :=
  { s with fwd := { s.fwd with outbox := s.fwd.outbox ++ [{ frame := f, item := item }] } }

/-- The STATUS reply of a SETUP operation that carries no data (R180). -/
def replySetup (f : Frame) (code : Status) (s : State) : State :=
  placeReply (setupStatus s f code 0 0 []) .plain s

end Sys2Proof.Machine
end

