-- ==== Sys2Proof/Machine/Flags.lean ====
section
/-! DEFINITION. The attention unit: how a flag rises and falls, and the notices (chapter 11). Every block raises its
events and begins or ends its conditions through these operations alone. -/

namespace Sys2Proof.Machine

open Sys2Proof

/-- The flag index of R198. -/
def Flag.index : Flag → Nat
  | .sOverrun => 0
  | .fOverrun => 1
  | .sLinkDown => 2
  | .fLinkDown => 3
  | .thinning => 4
  | .outputLatched => 5
  | .emissionWarn => 6
  | .emissionRestrict => 7
  | .dispatchHold => 8
  | .turbineTrip => 9
  | .demandStale => 10
  | .recorderFrozen => 11
  | .timeUnset => 12
  | .frameErrors => 13
  | .misroute => 14
  | .upstreamLoss => 15
  | .addressConflict => 16
  | .queryDiscard => 17
  | .queryNoAnswer => 18
  | .pointStale => 19
  | .outputTrip => 20
  | .orderHeld => 21
  | .periodClosed => 22
  | .periodCut => 23
  | .dayClosed => 24

/-- The number of flags (R198). -/
def flagCount : Nat := 25

/-- Whether a flag index is that of a CONDITION flag: 0 to 12 (R198). -/
def isCondition (i : Nat) : Bool := decide (i ≤ 12)

/-- A flag's record by index. -/
def State.flag (s : State) (i : Nat) : FlagRec := s.attention.flags.getD i ⟨false, false, false, false, false⟩

/-- A flag set: bit n stands for flag index n (R208). -/
def flagBits (p : FlagRec → Bool) (fs : List FlagRec) : Nat := fs.foldr (fun r acc => yesNo (p r) + 2 * acc) 0

/-- The NOTICE made for a flag as the state stands: three blocks (R203, R209). Its destination is filled in when its
transmission begins (R204). -/
def noticeFrame (s : State) (i : Nat) : Frame :=
  { dest := 0, src := s.part.station, kind := .notice, count := 3, tag := s.attention.noticeNo,
    body := [byteOf i, byteOf (yesNo s.attention.overflow)] ++ bytesOf 4 (flagBits (·.isSet) s.attention.flags) ++
      bytesOf 4 (flagBits (·.forced) s.attention.flags) ++ stampBytes (stampNow s) ++ [0, 0] }

/-- A notice is placed while the collector station is not 0; a full outbox sets the overflow mark instead, and placing
clears the mark and advances the notice number (R203, R204). -/
def placeNotice (i : Nat) (s : State) : State :=
  if s.part.collector = 0 then s
  else if Config.noticeCap ≤ s.attention.outbox.length then
    { s with attention := { s.attention with overflow := true } }
  else
    { s with attention := { s.attention with
        outbox := s.attention.outbox ++ [noticeFrame s i], overflow := false,
        noticeNo := (s.attention.noticeNo + 1) % 256 } }

/-- A flag found clear is set, a rise, and an enabled one places its notice; a flag found set stays as it is
(R201, R202, R203). -/
def riseAt (i : Nat) (s : State) : State :=
  if (s.flag i).isSet then s
  else
    let s1 := s.modFlag i (fun r => { r with isSet := true })
    if (s.flag i).enable then placeNotice i s1 else s1

/-- An event named for an EVENT flag (R201). -/
def raiseFlag (fl : Flag) (s : State) : State := riseAt fl.index s

/-- The condition of a CONDITION flag as its owner now holds it: a beginning is a rise, an end clears an AUTO flag that
is not forced, and no change does nothing (R202). -/
def setCondition (fl : Flag) (holds : Bool) (s : State) : State :=
  let i := fl.index
  if (s.flag i).cond = holds then s
  else
    let s1 := s.modFlag i (fun r => { r with cond := holds })
    if holds then riseAt i s1
    else if (s1.flag i).latch || (s1.flag i).forced then s1
    else s1.modFlag i (fun r => { r with isSet := false })

end Sys2Proof.Machine
end

