-- ==== Sys2Proof/Machine/Recording.lean ====
section
/-! DEFINITION. The trip recorder's operations: entering a record, taking a trigger, the comparators, and the outcome
and marker records of the other blocks (chapter 8). -/

namespace Sys2Proof.Machine

open Sys2Proof

/-- The recorder freezes, and the RECORDER-FROZEN condition begins (R148, R156, R157). -/
def freezeRecorder (s : State) : State :=
  setCondition .recorderFrozen true { s with recorder := { s.recorder with state := .frozen, post := 0 } }

/-- A record is put at the newest end with the present record number and time; the oldest of 256 makes room (R153). -/
def pushRecord (r : RecEntry) (s : State) : State :=
  { s with recorder := { s.recorder with
      buffer := ({ r with number := s.recorder.number, time := stampNow s } :: s.recorder.buffer).take
        Config.recorderCap,
      number := (s.recorder.number + 1) % 65536 } }

/-- A record that is no trigger: entered in ARMED and POST, counting down in POST (R153, R157). -/
def enterRecord (r : RecEntry) (s : State) : State :=
  match s.recorder.state with
  | .off => s
  | .frozen => s
  | .armed => pushRecord r s
  | .post =>
    let s1 := pushRecord r s
    if s1.recorder.post ≤ 1 then freezeRecorder s1
    else { s1 with recorder := { s1.recorder with post := s1.recorder.post - 1 } }

/-- A record that carries a trigger: ignored in OFF, starts the post count in ARMED, counts down in POST, is counted as
missed in FROZEN (R156, R157, R158). -/
def enterTrigger (r : RecEntry) (s : State) : State :=
  match s.recorder.state with
  | .off => s
  | .frozen => { s with recorder := { s.recorder with missed := bump s.recorder.missed } }
  | .armed =>
    let s1 := pushRecord r s
    let s2 := { s1 with recorder := { s1.recorder with triggers := bump s1.recorder.triggers } }
    if s2.recorder.cfg.postCount = 0 then freezeRecorder s2
    else { s2 with recorder := { s2.recorder with state := .post, post := s2.recorder.cfg.postCount } }
  | .post =>
    enterRecord r { s with recorder := { s.recorder with triggers := bump s.recorder.triggers } }

/-- Whether an entry's point agrees with a comparator and its value stands in the relation (R154). -/
def comparatorAdmits (c : Comparator) (point : Nat) (value : Value) : Bool :=
  decide (point &&& c.mask = c.pattern &&& c.mask) &&
    match c.relation with
    | .any => true
    | .equal => decide (value = c.value)
    | .above => decide (value > c.value)
    | .below => decide (value < c.value)

/-- Whether an enabled comparator matches an offered frame: any entry of a REPORT or ORDER of an enabled kind (R154). -/
def comparatorMatches (c : Comparator) (f : Frame) : Bool :=
  c.enable &&
    match f.kind with
    | .report => c.kinds.getLsbD 0 && (reportEntries f).any (fun e => comparatorAdmits c e.point e.value)
    | .order => c.kinds.getLsbD 1 && (orderEntries f).any (fun e => comparatorAdmits c e.1 e.2)
    | _ => false

/-- The marks of the comparators that a frame matches, in comparator order (R154). -/
def comparatorMarks (s : State) (f : Frame) : List TriggerMark :=
  ((List.range 4).zip s.recorder.cfg.comparators).filterMap (fun (n, c) =>
    if comparatorMatches c f then some (.comparator n) else none)

/-- The first entry's point and value as a frame record keeps them (R151). -/
def recordedEntry (f : Frame) : Option Nat × Option Value :=
  match f.kind with
  | .report => (some (reportEntryAt f 0).point, some (reportEntryAt f 0).value)
  | .order => (some (orderEntryAt f 0).1, some (orderEntryAt f 0).2)
  | .answer => (some (answerOf f).point, some (answerOf f).value)
  | .query => (some (queryPoint f), none)
  | _ => (none, none)

/-- The record of an offered frame (R149, R151); the number and time are set when it is entered. -/
def frameRecord (origin : RecOrigin) (f : Frame) (marks : List TriggerMark) : RecEntry :=
  { number := 0, time := ⟨0, 0, false⟩, origin := origin, kind := some f.kind, src := some f.src, dest := some f.dest,
    count := f.count, point := (recordedEntry f).1, value := (recordedEntry f).2, outcome := none, marks := marks }

/-- A taken frame is offered: a frame that a comparator matches is a trigger, another is entered if its kind is
selected (R151). -/
def offerFrame (p : Port) (f : Frame) (s : State) : State :=
  let origin := match p with | .sPort => RecOrigin.sPort | .fPort => RecOrigin.fPort
  let marks := comparatorMarks s f
  if marks ≠ [] then enterTrigger (frameRecord origin f marks) s
  else if s.recorder.cfg.kindSel.getLsbD (kindCode f.kind - 1) then enterRecord (frameRecord origin f []) s
  else s

/-- The record of a guard outcome: kind ORDER, entry count 1 (R152). -/
def outcomeRecord (origin : RecOrigin) (o : RecOutcome) (src dest point : Nat) (value : Value)
    (marks : List TriggerMark) : RecEntry :=
  { number := 0, time := ⟨0, 0, false⟩, origin := origin, kind := some .order, src := some src, dest := some dest,
    count := 1, point := some point, value := some value, outcome := some o, marks := marks }

/-- The outcome selection bit of an origin; BUSY outcomes, of origin S-PORT, follow the kind selection for ORDER (R150,
R152). -/
def outcomeSelected (s : State) : RecOrigin → Bool
  | .guard => s.recorder.cfg.outcomeSel.getLsbD 0
  | .dispatch => s.recorder.cfg.outcomeSel.getLsbD 1
  | .part => s.recorder.cfg.outcomeSel.getLsbD 2
  | _ => s.recorder.cfg.kindSel.getLsbD 1

/-- A guard outcome is handed to the recorder (R152). -/
def recordOutcome (origin : RecOrigin) (o : RecOutcome) (src dest point : Nat) (value : Value) (s : State) : State :=
  if outcomeSelected s origin then enterRecord (outcomeRecord origin o src dest point value []) s else s

/-- The BUSY outcome of a refused ORDER frame (R38, R152). -/
def recordBusy (f : Frame) (s : State) : State :=
  if outcomeSelected s .sPort then
    enterRecord { frameRecord .sPort f [] with outcome := some .busy } s
  else s

/-- A marker record (R155). -/
def markerRecord (point : Option Nat) (value : Option Value) (mark : TriggerMark) : RecEntry :=
  { number := 0, time := ⟨0, 0, false⟩, origin := .part, kind := none, src := none, dest := none, count := 0,
    point := point, value := value, outcome := none, marks := [mark] }

/-- The source enable bit of a trigger source (R150). -/
def sourceEnabled (s : State) : TriggerMark → Bool
  | .comparator _ => true
  | .outputTripped => s.recorder.cfg.sources.getLsbD 0
  | .lineRestrict => s.recorder.cfg.sources.getLsbD 1
  | .portOverrun => s.recorder.cfg.sources.getLsbD 2
  | .force => s.recorder.cfg.sources.getLsbD 3

/-- A trigger that marks a marker record; a disabled source's trigger is ignored (R155). -/
def markerTrigger (point : Option Nat) (value : Option Value) (mark : TriggerMark) (s : State) : State :=
  if sourceEnabled s mark then enterTrigger (markerRecord point value mark) s else s

/-- The TRIP-SAFE outcome of a trip with action SAFE: marked and a trigger while OUTPUT-TRIPPED is enabled, otherwise
under the PART selection (R155). -/
def recordTripSafe (point : Nat) (value : Value) (s : State) : State :=
  if sourceEnabled s .outputTripped then
    enterTrigger (outcomeRecord .part .tripSafe s.part.station (ownerStation s point) point value [.outputTripped]) s
  else recordOutcome .part .tripSafe s.part.station (ownerStation s point) point value s

end Sys2Proof.Machine
end

