-- ==== Sys2Proof/Machine/Upstream.lean ====
section
/-! DEFINITION. The upstream report queue: coalescing, thinning and loss of handed entries, and the upstream REPORT
frame (R30 to R34). -/

namespace Sys2Proof.Machine

open Sys2Proof

/-- The THINNING state; the attention flag follows it (R32). -/
def setThinning (b : Bool) (s : State) : State :=
  setCondition .thinning b { s with fwd := { s.fwd with thinning := b } }

/-- The class the point table gives for an entry (R30). -/
def upstreamClass (s : State) (p : Nat) : PointClass :=
  if (s.point p).configured then (s.point p).cls else .routine

/-- An entry for a point already queued takes the new value, code and class in place (R31). -/
def coalesce (e : UpEntry) (q : List UpEntry) : List UpEntry := q.map (fun x => if x.point = e.point then e else x)

/-- An entry handed to the upstream report queue: coalesced (R31), refused by thinning (R32), lost at a full queue
(R33), or given a new place, which may begin THINNING (R32). -/
def handUpstream (e : UpEntry) (s : State) : State :=
  if s.fwd.up.any (fun x => decide (x.point = e.point)) then
    { s with fwd := { s.fwd with up := coalesce e s.fwd.up } }
  else if e.cls = .routine ∧ (s.fwd.thinning = true ∨ Config.upstreamCap ≤ s.fwd.up.length) then
    s.countFwd (fun c => { c with thinningRefusal := bump c.thinningRefusal })
  else if Config.upstreamCap ≤ s.fwd.up.length then
    raiseFlag .upstreamLoss (s.countFwd (fun c => { c with upstreamLoss := bump c.upstreamLoss }))
  else
    let s1 := { s with fwd := { s.fwd with up := s.fwd.up ++ [e] } }
    if s1.fwd.highMark ≤ s1.fwd.up.length then setThinning true s1 else s1

/-- The state judged after a removal: THINNING ends at or below the low watermark (R32). -/
def judgeRemoval (s : State) : State :=
  if s.fwd.up.length ≤ s.fwd.lowMark then setThinning false s else s

/-- The state judged against new watermarks at once (R32). -/
def judgeWatermarks (s : State) : State :=
  if s.fwd.highMark ≤ s.fwd.up.length then setThinning true s
  else if s.fwd.up.length ≤ s.fwd.lowMark then setThinning false s
  else s

/-- The upstream REPORT frame that the head entries form, up to 16 (R34). -/
def upstreamFrame (s : State) : Frame :=
  reportFrame s.part.collector s.part.station s.fwd.upFrameNo (s.fwd.up.take Config.reportEntries)

/-- The head entries leave the queue into their frame, and the upstream frame number advances (R34). -/
def removeUpstream (s : State) : State :=
  judgeRemoval { s with fwd := { s.fwd with
    up := s.fwd.up.drop Config.reportEntries, upFrameNo := (s.fwd.upFrameNo + 1) % 256 } }

end Sys2Proof.Machine
end

