-- ==== Sys2Proof/Machine/Query.lean ====
section
/-! DEFINITION. The query table: taking a supervisory query, matching a field answer, the two timers, and delivery
(chapter 3). -/

namespace Sys2Proof.Machine

open Sys2Proof

/-- One sequence number was taken before another: their difference modulo 2^32, read as signed, is negative (R37). -/
def Seq.before (a b : Seq) : Bool := (a - b).slt 0

/-- The query table counters changed. -/
def State.countQuery (s : State) (f : QueryCounters → QueryCounters) : State :=
  { s with query := { s.query with counters := f s.query.counters } }

/-- Whether an entry that is not FREE has the key of a query: origin, destination, point and tag (R45). -/
def QueryEntry.hasKey (e : QueryEntry) (f : Frame) : Bool :=
  decide (e.state ≠ .free) && decide (e.origin = f.src) && decide (e.dest = f.dest) &&
    decide (e.point = queryPoint f) && decide (e.tag = f.tag)

/-- The entry that holds a query's key, if one does (R45). -/
def keyedEntry (s : State) (f : Frame) : Option Nat :=
  (List.range 8).find? (fun i => (s.queryEntry i).hasKey f)

/-- The lowest-numbered FREE entry (R45). -/
def freeEntry (s : State) : Option Nat := (List.range 8).find? (fun i => decide ((s.queryEntry i).state = .free))

/-- An entry allocated to a new query (R46). -/
def QueryEntry.allocated (e : QueryEntry) (f : Frame) (seq : Seq) : QueryEntry :=
  { state := .waitingSend, origin := f.src, dest := f.dest, point := queryPoint f, tag := f.tag, attempts := 0,
    inFlight := false, gen := (e.gen + 1) % 32, answer := none, seq := seq, answerTimer := none, discardTimer := none }

/-- The send tag of an entry: index × 32 + generation (R46). -/
def sendTag (i : Nat) (e : QueryEntry) : Nat := i * 32 + e.gen

/-- A STATUS reply with one result entry, the query's point and a code (R45). -/
def replyQuery (f : Frame) (code : Status) (s : State) : State :=
  placeReply (resultStatus s f [(queryPoint f, code)]) .plain s

/-- A supervisory QUERY for a field station: the first case of R45 that applies, with its one reply (R45, R46, R53). -/
def takeQuery (f : Frame) (s : State) : State :=
  match keyedEntry s f with
  | some i =>
    let e := s.queryEntry i
    match e.state with
    | .waitingSend => replyQuery f .pending s
    | .sent => replyQuery f .pending s
    | _ =>
      (placeReply (answerFrame s f (e.answer.getD ⟨e.point, 2, 0, 2⟩)) .plain s).modQuery i
        (fun e => .freed e.gen e.inFlight)
  | none =>
    match freeEntry s with
    | some i =>
      let s1 := s.modQuery i (fun e => e.allocated f s.fwd.acceptance)
      replyQuery f .pending { s1 with fwd := { s1.fwd with acceptance := s1.fwd.acceptance + 1 } }
    | none => replyQuery f .busy (s.countQuery (fun c => { c with queryBusy := bump c.queryBusy }))

/-- The entry index and generation that an answer's tag names (R49). -/
def answerEntry (f : Frame) : Nat × Nat := (f.tag / 32, f.tag % 32)

/-- Whether an answer matches the entry its tag names (R49). -/
def answerMatches (s : State) (f : Frame) : Bool :=
  let e := s.queryEntry (answerEntry f).1
  decide (e.state ≠ .free) && decide (e.gen = (answerEntry f).2) && decide (e.dest = f.src) &&
    decide (e.point = (answerOf f).point)

/-- The discard time selected (R43). -/
def discardTime (s : State) : Nat := if s.query.long then 20000 else 2000

/-- An entry that stores an answer and is DONE, or FAILED with NO-ANSWER, its discard timer started (R50, R51). -/
def QueryEntry.completed (e : QueryEntry) (st : QueryState) (a : Answer) (deadline : Nat) : QueryEntry :=
  { e with state := st, answer := some a, answerTimer := none, discardTimer := some deadline }

/-- An ANSWER from the field to the part (R49, R50). -/
def takeAnswer (f : Frame) (s : State) : State :=
  let i := (answerEntry f).1
  let late := s.countQuery (fun c => { c with lateAnswer := bump c.lateAnswer })
  if answerMatches s f then
    match (s.queryEntry i).state with
    | .sent => s.modQuery i (fun e => e.completed .done (answerOf f) (s.now + discardTime s))
    | .waitingSend => s.modQuery i (fun e => e.completed .done (answerOf f) (s.now + discardTime s))
    | _ => late
  else late

/-- An answer timer expires: the entry is sent again, or fails with NO-ANSWER (R51). -/
def answerExpires (i : Nat) (s : State) : State :=
  let e := s.queryEntry i
  if e.attempts < s.query.attemptLimit then
    (s.modQuery i (fun e => { e with state := .waitingSend, answerTimer := none })).countQuery
      (fun c => { c with resend := bump c.resend })
  else
    raiseFlag .queryNoAnswer
      ((s.modQuery i (fun e => e.completed .failed ⟨e.point, 2, 0, 2⟩ (s.now + discardTime s))).countQuery
        (fun c => { c with noAnswer := bump c.noAnswer }))

/-- A discard timer expires: the entry becomes FREE and QUERY-DISCARD is raised (R52). -/
def discardExpires (i : Nat) (s : State) : State :=
  raiseFlag .queryDiscard
    ((s.modQuery i (fun e => .freed e.gen e.inFlight)).countQuery (fun c => { c with discard := bump c.discard }))

/-- Whether an order queue entry is an order to a station, or broadcast, accepted before a number (R47). -/
def QueueEntry.holdsBack (station : Nat) (seq : Seq) : QueueEntry → Bool
  | .order d _ _ _ _ q => (decide (d = station) || decide (d = broadcast)) && Seq.before q seq
  | .pass f q => (decide (f.dest = station) || decide (f.dest = broadcast)) && Seq.before q seq

/-- Whether an entry is eligible for sending (R47). -/
def eligible (s : State) (e : QueryEntry) : Bool :=
  decide (e.state = .waitingSend) && !e.inFlight && !s.fwd.orders.any (fun o => o.holdsBack e.dest e.seq)

/-- The eligible entry with the lowest acceptance sequence number (R48, R65). -/
def eligibleEntry (s : State) : Option Nat :=
  (List.range 8).foldl (fun best i =>
    if eligible s (s.queryEntry i) then
      match best with
      | none => some i
      | some j => if Seq.before (s.queryEntry i).seq (s.queryEntry j).seq then some i else some j
    else best) none

/-- A query frame completes: in flight becomes no, and an entry still in WAITING-SEND under the same generation enters
SENT, counts an attempt and starts its answer timer (R48). A later use of the entry is left alone (log entry 13). -/
def queryCompletes (i gen : Nat) (s : State) : State :=
  if (s.queryEntry i).gen = gen then
    s.modQuery i (fun e =>
      if e.state = .waitingSend then
        { e with inFlight := false, state := .sent, attempts := min (e.attempts + 1) 15,
                 answerTimer := some (s.now + s.query.timeout) }
      else { e with inFlight := false })
  else s

/-- A query frame is aborted: in flight becomes no, no attempt is counted (R54). -/
def queryAborted (i gen : Nat) (s : State) : State :=
  if (s.queryEntry i).gen = gen then s.modQuery i (fun e => { e with inFlight := false }) else s

end Sys2Proof.Machine
end

