-- ==== Sys2Proof/Machine/Arbiter.lean ====
section
/-! DEFINITION. The field arbiter: the grant order, what each requester supplies, and what a grant does (chapter 4). -/

namespace Sys2Proof.Machine

open Sys2Proof

/-- The requester after a requester in the ring (R60). -/
def Requester.next : Requester → Requester
  | .supervisory => .dispatch
  | .dispatch => .step
  | .step => .query
  | .query => .supervisory

/-- The ring once round from a requester (R60). -/
def ringFrom (r : Requester) : List Requester := [r, r.next, r.next.next, r.next.next.next]

/-- The level of a requester (R58). -/
def Arbiter.level (a : Arbiter) : Requester → Level
  | .supervisory => a.supervisory
  | .dispatch => a.dispatch
  | .step => a.step
  | .query => a.query

/-- Whether a requester has work: it can supply a frame (R60, R62 to R65). -/
def hasWork (s : State) : Requester → Bool
  | .supervisory => !s.fwd.orders.isEmpty
  | .dispatch => !s.dispatch.slots.isEmpty
  | .step => !s.guard.steps.isEmpty
  | .query => (eligibleEntry s).isSome

/-- The first requester of a level with work, searching the ring once round from a pointer (R60). -/
def searchRing (s : State) (l : Level) (from_ : Requester) : Option Requester :=
  (ringFrom from_).find? (fun r => decide (s.arbiter.level r = l) && hasWork s r)

/-- What the arbiter grants: TRIP, or a requester of a group (R60). -/
inductive GrantChoice where
  | trip
  | ring (l : Level) (r : Requester)
deriving DecidableEq, Repr

/-- The grant order: TRIP, the HIGH group, the LOW group, none (R60). -/
def grantChoice (s : State) : Option GrantChoice :=
  if s.guard.trips ≠ [] then some .trip
  else match searchRing s .high s.arbiter.highPtr with
    | some r => some (.ring .high r)
    | none =>
      match searchRing s .low s.arbiter.lowPtr with
      | some r => some (.ring .low r)
      | none => none

/-- The pointer of the group that granted names the requester after the granted one (R60). -/
def Arbiter.movePtr (a : Arbiter) (l : Level) (r : Requester) : Arbiter :=
  match l with
  | .high => { a with highPtr := r.next }
  | .low => { a with lowPtr := r.next }
  | .masked => a

/-- The head entries of the order queue that go in one frame with a destination and origin: consecutive order entries
of the same two stations, at most 8 (R62). -/
def packedHead (dest origin : Nat) (q : List QueueEntry) : List QueueEntry :=
  (q.take Config.orderEntries).takeWhile (fun e =>
    match e with
    | .order d _ _ o _ _ => decide (d = dest) && decide (o = origin)
    | .pass _ _ => false)

/-- The point and value that an order queue entry sends (R62). -/
def QueueEntry.sent : QueueEntry → Nat × Value
  | .order _ p v _ _ _ => (p, v)
  | .pass _ _ => (0, 0)

/-- The F-port transmission begins (R66, R172). -/
def beginF (frame : Frame) (item : SentItem) (s : State) : State :=
  { s with fPort := { s.fPort with tx := some { frame := frame, item := item } } }

/-- A frame formed by the arbiter takes the field frame number as its tag, and the number advances (R66). -/
def advanceFrameNo (s : State) : State :=
  { s with arbiter := { s.arbiter with frameNo := (s.arbiter.frameNo + 1) % 256 } }

/-- The grant counters changed. -/
def countGrant (f : GrantCounters → GrantCounters) (s : State) : State :=
  { s with arbiter := { s.arbiter with grants := f s.arbiter.grants } }

/-- A TRIP grant: the oldest trip order goes out to the owner station of its point (R61, R66). -/
def grantTrip (s : State) : State :=
  match s.guard.trips with
  | [] => s
  | t :: rest =>
    beginF (orderFrame (ownerStation s t.point) s.part.station s.arbiter.frameNo [(t.point, t.value)]) (.trip t)
      (advanceFrameNo (countGrant (fun c => { c with trip := bump c.trip })
        { s with guard := { s.guard with trips := rest } }))

/-- A SUPERVISORY grant: packed head entries, or a pass-through frame unchanged (R62, R66). -/
def grantSupervisory (s : State) : State :=
  match s.fwd.orders with
  | [] => s
  | .pass f _ :: rest =>
    beginF f .plain (countGrant (fun c => { c with supervisory := bump c.supervisory })
      { s with fwd := { s.fwd with orders := rest } })
  | .order d _ _ o _ _ :: _ =>
    let packed := packedHead d o s.fwd.orders
    beginF (orderFrame d o s.arbiter.frameNo (packed.map (·.sent))) .plain
      (advanceFrameNo (countGrant (fun c => { c with supervisory := bump c.supervisory })
        { s with fwd := { s.fwd with orders := s.fwd.orders.drop packed.length } }))

/-- The point of a dispatch output (R119, R141). -/
def outputPoint (s : State) (k : Nat) : Nat := s.dispatch.cfg.outputs.getD k 0

/-- A DISPATCH grant: the slot with the first place goes out (R63, R66). -/
def grantDispatch (s : State) : State :=
  match s.dispatch.slots with
  | [] => s
  | o :: rest =>
    let p := outputPoint s o.output
    beginF (orderFrame (ownerStation s p) s.part.station s.arbiter.frameNo [(p, o.value)]) .plain
      (advanceFrameNo (countGrant (fun c => { c with dispatch := bump c.dispatch })
        { s with dispatch := { s.dispatch with slots := rest } }))

/-- A STEP grant: the step with the first place goes out (R64, R66). -/
def grantStep (s : State) : State :=
  match s.guard.steps with
  | [] => s
  | t :: rest =>
    let p := (s.guardRec t.record).point
    beginF (orderFrame (ownerStation s p) s.part.station s.arbiter.frameNo [(p, t.value)]) .plain
      (advanceFrameNo (countGrant (fun c => { c with step := bump c.step })
        { s with guard := { s.guard with steps := rest } }))

/-- A QUERY grant: the eligible entry's QUERY goes out under its send tag; its in flight becomes yes (R48, R65, R66). -/
def grantQuery (s : State) : State :=
  match eligibleEntry s with
  | none => s
  | some i =>
    let e := s.queryEntry i
    beginF (queryFrame e.dest s.part.station (sendTag i e) e.point) (.query i e.gen)
      ((countGrant (fun c => { c with query := bump c.query }) s).modQuery i (fun e => { e with inFlight := true }))

/-- What a granted requester supplies begins (R61 to R65). -/
def grantRequester (r : Requester) (s : State) : State :=
  match r with
  | .supervisory => grantSupervisory s
  | .dispatch => grantDispatch s
  | .step => grantStep s
  | .query => grantQuery s

/-- Whether a port may begin a frame: ACTIVE and its transmitter IDLE (R163). -/
def PortRec.mayBegin (p : PortRec) : Bool := decide (p.state = .active) && p.tx.isNone

/-- A grant event of the F-port, at which the arbiter makes a grant if the port may begin a frame (R59, R60). -/
def serveF (s : State) : State :=
  if s.fPort.mayBegin then
    match grantChoice s with
    | none => s
    | some .trip => grantTrip s
    | some (.ring l r) => grantRequester r { s with arbiter := s.arbiter.movePtr l r }
  else s

end Sys2Proof.Machine
end

