-- ==== Sys2Proof/Machine/Transmit.lean ====
section
/-! DEFINITION. What the two transmitters begin: the flow symbols (R169), the sources of the S-port (R35), and the
transmitter-free events (R59, R172). -/

namespace Sys2Proof.Machine

open Sys2Proof

/-! ### Flow control -/

/-- The flow symbol is sent at a gap: transmitter IDLE and the port not DISABLED; each PAUSE sent is counted (R169). -/
def sendFlow (p : Port) (s : State) : State :=
  let r := s.port p
  if r.tx.isNone ∧ r.state ≠ .disabled then
    match r.symbol with
    | .none => s
    | .resume => s.modPort p (fun r => { r with symbol := .none })
    | .pause =>
      s.modPort p (fun r => { r with
        symbol := .none, counters := { r.counters with pauseSent := bump r.counters.pauseSent } })
  else s

/-! ### The S-port -/

/-- The S-port transmission begins (R35, R172). -/
def beginS (snd : Sending) (s : State) : State := { s with sPort := { s.sPort with tx := some snd } }

/-- What the S-port transmitter finds to send, in the order of R35. -/
inductive SSource where
  | reply (snd : Sending) (rest : List Sending)
  | notice (f : Frame) (rest : List Frame)
  | upPass (f : Frame) (rest : List Frame)
  | upstream
deriving DecidableEq, Repr

/-- The first source of R35 that has a frame to give; notices and upstream reports are passed over while the collector
station is 0. -/
def sSource (s : State) : Option SSource :=
  match s.fwd.outbox with
  | snd :: rest => some (.reply snd rest)
  | [] =>
    match decide (s.part.collector = 0), s.attention.outbox with
    | false, f :: rest => some (.notice f rest)
    | _, _ =>
      match s.fwd.upPass with
      | f :: rest => some (.upPass f rest)
      | [] => if s.part.collector = 0 ∨ s.fwd.up = [] then none else some .upstream

/-- The frame of a source leaves its outbox or queue and its transmission begins; a notice goes to the collector station
of that moment (R29, R34, R35, R204). -/
def beginSource (s : State) : SSource → State
  | .reply snd rest => beginS snd { s with fwd := { s.fwd with outbox := rest } }
  | .notice f rest =>
    beginS ⟨{ f with dest := s.part.collector }, .plain⟩ { s with attention := { s.attention with outbox := rest } }
  | .upPass f rest => beginS ⟨f, .plain⟩ { s with fwd := { s.fwd with upPass := rest } }
  | .upstream => beginS ⟨upstreamFrame s, .plain⟩ (removeUpstream s)

/-- A transmitter-free event of the S-port, if the port may begin a frame (R35, R172). -/
def serveS (s : State) : State :=
  if s.sPort.mayBegin then
    match sSource s with
    | none => s
    | some src => beginSource s src
  else s

/-- The transmitter-free events of a moment: flow symbols go out at the gaps, and each transmitter that may begin a frame
takes the work present at that moment (R35, R59, R60, R169, R172). Every command ends with it, and a command that places
more than one piece of work passes it after each, so that the first to appear begins with only that work present (R60,
R65, log entry 17). -/
def serve (s : State) : State := serveF (serveS (sendFlow .fPort (sendFlow .sPort s)))

end Sys2Proof.Machine
end

