-- ==== Sys2Proof/Machine/Guard.lean ====
section
/-! DEFINITION. The output guard's operations: term evaluation, trips, orders for guarded outputs, ramps, RESTRICT
entry, and the guard's START and STOP actions (chapter 5). -/

namespace Sys2Proof.Machine

open Sys2Proof

/-! ### Effective value and quality of a point (R3) -/

/-- The effective quality of a point record. -/
def Point.effQuality (p : Point) : Quality :=
  if p.subActive then .substituted
  else match p.fresh with
    | .fresh => p.quality
    | _ => .stale

/-- The effective value of a point record. -/
def Point.effValue (p : Point) : Value := if p.subActive then p.subValue else p.value

/-- GOOD, UNCERTAIN and SUBSTITUTED are usable; BAD and STALE are not (00_scope, Quality codes). -/
def Quality.usable : Quality → Bool
  | .good => true
  | .uncertain => true
  | .substituted => true
  | .bad => false
  | .stale => false

/-! ### Terms and interlocks -/

/-- The active flag of a term evaluated from its point's effective value and quality (R68); sums are exact. -/
def evalTerm (t : Term) (v : Value) (q : Quality) : Bool :=
  match t.relation with
  | .notGood => !q.usable
  | .above =>
    if q.usable then (if t.active then decide (v > t.threshold - t.hysteresis) else decide (v > t.threshold))
    else t.failActive
  | .below =>
    if q.usable then (if t.active then decide (v < t.threshold + t.hysteresis) else decide (v < t.threshold))
    else t.failActive

/-- A term evaluated from the point table as it stands. -/
def evaluated (s : State) (t : Term) : Term :=
  { t with active := evalTerm t (s.point t.point).effValue (s.point t.point).effQuality }

/-- The interlock of an output: at least one used term is active (R68). -/
def GuardRec.interlock (g : GuardRec) : Bool := g.terms.any (fun t => t.used && t.active)

/-- OUTPUT-LATCHED holds while at least one output is LATCHED (R74). -/
def followLatched (s : State) : State :=
  setCondition .outputLatched (s.guard.recs.any (fun g => g.configured && decide (g.state = .latched))) s

/-! ### Withdrawals -/

/-- A pending step of a record, if its step slot holds one (R82). -/
def pendingStep (s : State) (i : Nat) : Option PendingStep := s.guard.steps.find? (fun p => decide (p.record = i))

/-- A pending step is withdrawn: the slot leaves the written order and the issued value returns to the step's from
value; the last issue and a running ramp timer stay (R82). -/
def withdrawStep (i : Nat) (s : State) : State :=
  match pendingStep s i with
  | none => s
  | some p =>
    { s with guard := { s.guard with
        steps := s.guard.steps.filter (fun q => decide (q.record ≠ i)),
        recs := s.guard.recs.modify i (fun g => { g with issued := some p.fromVal }) } }

/-- Whether an order queue entry is a guarded order for a point. -/
def QueueEntry.guardedFor (point : Nat) : QueueEntry → Bool
  | .order _ p _ _ guarded _ => guarded && decide (p = point)
  | .pass _ _ => false

/-- Whether an order queue entry is an order entry that names a point, whatever its guarded mark (R70). -/
def QueueEntry.names (point : Nat) : QueueEntry → Bool
  | .order _ p _ _ _ _ => decide (p = point)
  | .pass _ _ => false

/-- Whether an order queue entry carries the guarded mark. -/
def QueueEntry.isGuarded : QueueEntry → Bool
  | .order _ _ _ _ guarded _ => guarded
  | .pass _ _ => false

/-- The dispatch outputs whose point is a point, by their index in the order of R141. -/
def dispatchOutputs (s : State) (point : Nat) : List Nat :=
  if s.dispatch.cfg.configured then
    ((List.range 5).zip s.dispatch.cfg.outputs).filterMap (fun (k, p) => if p = point then some k else none)
  else []

/-- The guard withdraws a pending dispatch slot: it leaves the written order, and the output's last ordered value
becomes absent (R142, R143). -/
def withdrawSlot (k : Nat) (s : State) : State :=
  if s.dispatch.slots.any (fun o => decide (o.output = k)) then
    { s with dispatch := { s.dispatch with
        slots := s.dispatch.slots.filter (fun o => decide (o.output ≠ k)),
        lastOrdered := s.dispatch.lastOrdered.set k none } }
  else s

/-- Every order for an output is withdrawn from the places where orders wait, and its ramp timer stops (R73 step 1). -/
def withdrawOrders (i : Nat) (s : State) : State :=
  let point := (s.guardRec i).point
  let s1 := { s with fwd := { s.fwd with orders := s.fwd.orders.filter (fun e => !e.guardedFor point) } }
  let s2 := (dispatchOutputs s1 point).foldl (fun t k => withdrawSlot k t) s1
  let s3 := withdrawStep i s2
  s3.modGuard i (fun g => { g with rampTimer := none })

/-! ### Issues -/

/-- An issue: the issued value becomes the value placed, the last issue the present moment, and the ramp timer restarts
from it while the issued value differs from the target, else stops (R81, R83). -/
def issue (i : Nat) (v : Value) (s : State) : State :=
  s.modGuard i (fun g => { g with
    issued := some v, lastIssue := some s.now,
    rampTimer := if g.target = some v then none else some (s.now + g.interval) })

/-- A step written to a record's step slot: a pending one is replaced and keeps its place, an empty slot takes the last
(R64, R81, R85). -/
def writeStep (p : PendingStep) (s : State) : State :=
  { s with guard := { s.guard with
      steps := if s.guard.steps.any (fun q => decide (q.record = p.record)) then
          s.guard.steps.map (fun q => if q.record = p.record then p else q)
        else s.guard.steps ++ [p] } }

/-- A value written to a dispatch slot: a pending one is replaced and keeps its place, an empty slot takes the last
(R63, R83, R143). -/
def writeSlot (o : PendingOrder) (s : State) : State :=
  { s with dispatch := { s.dispatch with
      slots := if s.dispatch.slots.any (fun q => decide (q.output = o.output)) then
          s.dispatch.slots.map (fun q => if q.output = o.output then o else q)
        else s.dispatch.slots ++ [o] } }

/-! ### Trips -/

/-- A trip order is entered at the end of the trip queue, unless the queue already holds one for the record (R73 step 2,
R76). -/
def enterTripOrder (i : Nat) (s : State) : State :=
  if s.guard.trips.any (fun t => decide (t.record = i)) then s
  else
    let g := s.guardRec i
    { s with guard := { s.guard with trips := s.guard.trips ++ [⟨i, g.point, g.safe⟩] } }

/-- A trip order whose frame was aborted is entered again at the end of the trip queue, if its output is still TRIPPED
or LATCHED with trip action SAFE and the queue holds none for it; otherwise it is lost (R66, log entry 16). -/
def reenterTrip (t : TripOrder) (s : State) : State :=
  let g := s.guardRec t.record
  if (g.state = .tripped ∨ g.state = .latched) ∧ g.action = .safe ∧
      s.guard.trips.any (fun u => decide (u.record = t.record)) = false then
    { s with guard := { s.guard with trips := s.guard.trips ++ [t] } }
  else s

/-- An output trips (R73). A query that the withdrawal makes eligible is a grant event before the trip order is entered,
and the trip order is one once it is (R59, R65). The flags follow before the recorder has its record (log entry 8). -/
def tripOutput (i : Nat) (s : State) : State :=
  let s1 := serve (withdrawOrders i s)
  let g := s1.guardRec i
  let s2 := match g.action with
    | .safe => issue i g.safe ((enterTripOrder i s1).modGuard i (fun g => { g with target := some g.safe }))
    | .hold => s1.modGuard i (fun g => { g with target := g.issued })
  let s3 := s2.modGuard i (fun g => { g with state := .tripped, trips := bump g.trips })
  let s4 := raiseFlag .outputTrip (followLatched s3)
  serve (match g.action with
    | .safe => recordTripSafe g.point g.safe s4
    | .hold => markerTrigger (some g.point) g.issued .outputTripped s4)

/-- The interlock of a TRIPPED output becomes inactive: CLEAR, or LATCHED if latching (R74). -/
def interlockEnds (i : Nat) (s : State) : State :=
  followLatched (s.modGuard i (fun g => { g with state := if g.latching then .latched else .clear }))

/-- One output's terms on a woken point are evaluated, and its interlock is compared with its value before the wake
(R69). -/
def wakeOutput (p i : Nat) (s : State) : State :=
  let g := s.guardRec i
  if g.configured && g.terms.any (fun t => t.used && decide (t.point = p)) then
    let s1 := s.modGuard i (fun g => { g with
      terms := g.terms.map (fun t => if t.used && decide (t.point = p) then evaluated s t else t) })
    let now := (s1.guardRec i).interlock
    if now && !g.interlock && decide (g.state ≠ .tripped) then tripOutput i s1
    else if !now && g.interlock && decide (g.state = .tripped) then interlockEnds i s1
    else s1
  else s

/-- The guard's part of a wake: in RUN, the outputs act in ascending record index (R69). -/
def wakeGuard (p : Nat) (s : State) : State :=
  match s.part.state with
  | .setup => s
  | .run => (List.range Config.guards).foldl (fun t i => wakeOutput p i t) s

/-! ### Orders for a guarded output -/

/-- Whether an output's line is in RESTRICT. -/
def lineRestricted (s : State) (g : GuardRec) : Bool :=
  match g.line with
  | none => false
  | some l => decide ((s.line l).state = .restrict)

/-- The effective high of an output (R78). -/
def effectiveHigh (s : State) (g : GuardRec) : Value :=
  if g.restricted && lineRestricted s g then g.rhigh else g.high

/-- One step from the issued value toward the target, at most the output's step, then clamped into range; with rate 0
the target itself (R80). -/
def nextStep (g : GuardRec) (effHigh issued target : Value) : Value :=
  let moved :=
    if g.rate = 0 then target
    else if issued < target then min target (issued + g.step)
    else max target (issued - g.step)
  clampTo g.low effHigh moved

/-- The guarded output that names a point: the lowest-indexed configured record (R39). -/
def guardOf (s : State) (point : Nat) : Option Nat :=
  (List.range Config.guards).find? (fun i => (s.guardRec i).configured && decide ((s.guardRec i).point = point))

/-- Where an order for a guarded output comes from (section 5.4): an entry of a taken ORDER frame with its destination
and source, or a dispatch output with its urgent mark. -/
inductive OrderOrigin where
  | supervisory (dest src : Nat)
  | dispatch (output : Nat) (urgent : Bool)
deriving DecidableEq, Repr

/-- What the guard answers: placed or absorbed, refused HELD, refused OWNED, or dropped (R77, R79, R142). -/
inductive Decision where
  | taken | held | owned | dropped
deriving DecidableEq, Repr

/-- The origin of a decision's record (R84). -/
def OrderOrigin.recOrigin : OrderOrigin → RecOrigin
  | .supervisory _ _ => .guard
  | .dispatch _ _ => .dispatch

/-- A decision's outcome is handed to the recorder with the source and destination of R152. -/
def recordDecision (org : OrderOrigin) (o : RecOutcome) (point : Nat) (value : Value) (s : State) : State :=
  match org with
  | .supervisory dest src => recordOutcome .guard o src dest point value s
  | .dispatch _ _ => recordOutcome .dispatch o s.part.station (ownerStation s point) point value s

/-- The checks of R77 in their order: part state, ownership, trip state; `none` passes. -/
def orderRefusal (s : State) (g : GuardRec) : OrderOrigin → Option Decision
  | .supervisory _ _ =>
    if s.part.state = .setup then some .held
    else if g.owner = .dispatch ∧ s.dispatch.state = .run then some .owned
    else if g.state ≠ .clear then some .held
    else none
  | .dispatch _ _ =>
    if s.part.state = .setup then some .held
    else if g.state ≠ .clear then some .dropped
    else none

/-- A value is placed where its origin names: the order queue with the next acceptance number, or the output's dispatch
slot (R83). -/
def placeOrder (org : OrderOrigin) (point : Nat) (v : Value) (s : State) : State :=
  match org with
  | .supervisory dest src =>
    { s with fwd := { s.fwd with
        orders := s.fwd.orders ++ [.order dest point v src true s.fwd.acceptance],
        acceptance := s.fwd.acceptance + 1 } }
  | .dispatch output urgent => writeSlot ⟨output, v, urgent⟩ s

/-- Whether an entry is urgent. -/
def OrderOrigin.urgent : OrderOrigin → Bool
  | .supervisory _ _ => false
  | .dispatch _ u => u

/-- Whether at least one ramp interval has passed since the last issue, or there was none (R79); while the ramp timer
still runs, at the very moment of its expiry too, the order is absorbed and the expiry steps (R90). -/
def intervalPassed (s : State) (g : GuardRec) : Bool :=
  match g.lastIssue with
  | none => true
  | some t => g.rampTimer.isNone && decide (t + g.interval ≤ s.now)

/-- An order that passed R77: clamp and target (R78), then what is issued now (R79, R80), its place (R83) and its
outcome (R84). -/
def judgeOrder (org : OrderOrigin) (i : Nat) (given : Value) (s : State) : State :=
  let g := s.guardRec i
  let hi := effectiveHigh s g
  let v := clampTo g.low hi given
  let s1 := s.modGuard i (fun g => { g with
    target := some v, clamped := if v = given then g.clamped else bump g.clamped })
  if g.issued = some v ∨ g.rate = 0 ∨ g.issued = none ∨ org.urgent = true then
    recordDecision org (if v = given then .passed else .clamped) g.point v (issue i v (placeOrder org g.point v s1))
  else if intervalPassed s g then
    let w := nextStep g hi (g.issued.getD 0) v
    recordDecision org .ramped g.point w (issue i w (placeOrder org g.point w s1))
  else
    let s2 := s1.modGuard i (fun g => { g with
      rampTimer := if g.rampTimer = none then some (g.lastIssue.getD 0 + g.interval) else g.rampTimer })
    recordDecision org .ramped g.point given s2

/-- An order for a guarded output: a pending step is withdrawn first (R82), then the checks of R77 refuse it or it is
judged (R78 to R84). ORDER-HELD is raised before the outcome goes to the recorder (R77 and R84 give no order: DEDUCED, log
entry 8). -/
def guardOrder (org : OrderOrigin) (i : Nat) (given : Value) (s0 : State) : Decision × State :=
  let s := withdrawStep i s0
  let g := s.guardRec i
  match orderRefusal s g org with
  | none => (.taken, judgeOrder org i given s)
  | some .owned =>
    (.owned, recordDecision org .owned g.point given (s.modGuard i (fun g => { g with owned := bump g.owned })))
  | some .held =>
    let s1 := s.modGuard i (fun g => { g with held := bump g.held })
    (.held, recordDecision org .held g.point given
      (match org with
        | .supervisory _ _ => raiseFlag .orderHeld s1
        | .dispatch _ _ => s1))
  | some d =>
    (d, recordDecision org .held g.point given (s.modGuard i (fun g => { g with held := bump g.held })))

/-! ### Ramp timer -/

/-- What a ramp timer's expiry does: the next step into the step slot for a CLEAR output in RUN whose issued value
differs from its target, otherwise nothing (R81). -/
def rampExpires (i : Nat) (s : State) : State :=
  let g := s.guardRec i
  let s1 := s.modGuard i (fun g => { g with rampTimer := none })
  match g.issued, g.target with
  | some iss, some tgt =>
    if g.configured ∧ g.state = .clear ∧ s.part.state = .run ∧ iss ≠ tgt then
      let v := nextStep g (effectiveHigh s g) iss tgt
      recordOutcome .part .ramped s.part.station (ownerStation s g.point) g.point v
        (issue i v (writeStep ⟨i, v, iss⟩ s1))
    else s1
  | _, _ => s1

/-! ### RESTRICT entry -/

/-- An order queue entry rewritten to the restricted high if it exceeds it (R85 step 2). -/
def QueueEntry.restrictTo (point : Nat) (rh : Value) : QueueEntry → QueueEntry
  | .order d p v o g q => .order d p (if g = true ∧ p = point ∧ rh < v then rh else v) o g q
  | .pass f q => .pass f q

/-- What waits for an output is brought down to its restricted high: its target, its guarded entries of the order
queue, its dispatch slots and its step (R85 steps 1 to 4). -/
def restrictWaiting (i : Nat) (s : State) : State :=
  let g := s.guardRec i
  let rh := g.rhigh
  let outs := dispatchOutputs s g.point
  let s1 := s.modGuard i (fun g => { g with target := g.target.map (fun t => min t rh) })
  { s1 with
    fwd := { s1.fwd with orders := s1.fwd.orders.map (fun e => e.restrictTo g.point rh) }
    dispatch := { s1.dispatch with
      slots := s1.dispatch.slots.map (fun o => if o.output ∈ outs ∧ rh < o.value then { o with value := rh } else o) }
    guard := { s1.guard with
      steps := s1.guard.steps.map (fun p => if p.record = i ∧ rh < p.value then { p with value := rh } else p) } }

/-- The RESTRICT entry of one output (R85); its RH step is work appearing (R59). -/
def restrictOutput (l : LineId) (i : Nat) (s : State) : State :=
  let g := s.guardRec i
  if g.configured ∧ g.line = some l ∧ g.restricted = true ∧ g.state = .clear then
    match g.issued with
    | none => restrictWaiting i s
    | some iss =>
      if g.rhigh < iss then
        serve (recordOutcome .part .clamped s.part.station (ownerStation s g.point) g.point g.rhigh
          (issue i g.rhigh (writeStep ⟨i, g.rhigh, iss⟩ (restrictWaiting i s))))
      else restrictWaiting i s
  else s

/-- The RESTRICT entry for a line, in ascending record index (R85). -/
def restrictEntry (l : LineId) (s : State) : State :=
  (List.range Config.guards).foldl (fun t i => restrictOutput l i t) s

/-! ### RELEASE, STOP and START -/

/-- RELEASE of a configured record that is not TRIPPED: LATCHED becomes CLEAR, CLEAR is left as it is (R75). -/
def releaseOutput (i : Nat) (s : State) : State :=
  if (s.guardRec i).state = .latched then followLatched (s.modGuard i (fun g => { g with state := .clear })) else s

/-- The guard's STOP action (R87). -/
def guardStop (s : State) : State :=
  let s1 := { s with
    guard := { s.guard with trips := [] },
    fwd := { s.fwd with orders := s.fwd.orders.filter (fun e => !e.isGuarded) } }
  let s2 := (List.range Config.guards).foldl (fun t i => withdrawStep i t) s1
  let s3 := (List.range 5).foldl (fun t k => withdrawSlot k t) s2
  { s3 with guard := { s3.guard with recs := s3.guard.recs.map (fun g => { g with rampTimer := none }) } }

/-- What START derives of one configured record before the terms: step, CLEAR, issued value and target from the live
plant, no last issue, no ramp (R71, R88 steps 1 and 2), and every used term evaluated from the inactive flag (R88
step 3). An unconfigured record keeps its step with the rest (DEDUCED, log entry 31). -/
def startRecord (s : State) (g : GuardRec) : GuardRec :=
  if g.configured then
    let p := s.point g.point
    let live := match p.effQuality with
      | .good => some p.effValue
      | .uncertain => some p.effValue
      | _ => none
    { g with step := g.rate * g.interval / 1000, state := .clear, issued := live, target := live, lastIssue := none,
             rampTimer := none,
             terms := g.terms.map (fun t =>
               if t.used then evaluated s { t with active := false } else { t with active := false }) }
  else g

/-- The guard's START action: every output derived afresh, then each whose interlock is active trips, in ascending
index (R88). -/
def guardStart (s : State) : State :=
  let s1 := followLatched { s with guard := { s.guard with recs := s.guard.recs.map (startRecord s), steps := [] } }
  (List.range Config.guards).foldl (fun t i =>
    if (t.guardRec i).configured && (t.guardRec i).interlock then tripOutput i t else t) s1

end Sys2Proof.Machine
end

