-- ==== Sys2Proof/Machine/Points.lean ====
section
/-! DEFINITION. The point table's operations: accepted updates, freshness, substitution, SELF writes and the waking of
consumers (chapter 1), with what the line records (R92) and the dispatch inputs (R129, R131) do when woken. The
emission sample that an accepted report gives is in Emission.lean. -/

namespace Sys2Proof.Machine

open Sys2Proof

/-! ### Lines: the operating flag -/

/-- The operating flag that an operating point gives: only a usable 0 means off (R92). -/
def operatingOf (p : Point) : Bool :=
  !(p.configured && p.effQuality.usable && decide (p.effValue = 0))

/-- A configured line derives its operating flag; a change from no to yes in RUN sets the operated flag of its open
channels (R92). -/
def deriveOperating (l : LineId) (s : State) : State :=
  if (s.line l).configured then
    let flag := operatingOf (s.point (s.line l).opPoint)
    let s1 := s.modLine l (fun r => { r with operating := flag })
    if flag && !(s.line l).operating && decide (s.part.state = .run) then
      { s1 with emission := { s1.emission with
          channels := s1.emission.channels.map (fun c =>
            if c.cfg.line = l ∧ c.run.opened = true then { c with run := { c.run with operated := true } } else c) } }
    else s1
  else s

/-- The lines' part of a wake (R12). -/
def wakeLines (p : Nat) (s : State) : State :=
  [LineId.a, LineId.b].foldl (fun t l => if (t.line l).opPoint = p then deriveOperating l t else t) s

/-! ### Dispatch inputs -/

/-- The point of a required input (R119). -/
def DispatchCfg.inputPoint (c : DispatchCfg) : ReqInput → Nat
  | .fa => c.fa
  | .fb => c.fb
  | .trip => c.trip

/-- A required input's record. -/
def DispatchUnit.input (d : DispatchUnit) : ReqInput → InputRec
  | .fa => d.fa
  | .fb => d.fb
  | .trip => d.trip

/-- The dispatch unit with a required input's record changed. -/
def DispatchUnit.setInput (d : DispatchUnit) (i : ReqInput) (r : InputRec) : DispatchUnit :=
  match i with
  | .fa => { d with fa := r }
  | .fb => { d with fb := r }
  | .trip => { d with trip := r }

/-- The held value of the trip input is not 0; an absent one counts as 0 (R128, R129). -/
def DispatchUnit.tripHeld (d : DispatchUnit) : Bool := decide (d.trip.last.getD 0 ≠ 0)

/-- The three conditions that the dispatch unit drives (R128). -/
def followDispatch (s : State) : State :=
  let live := decide (s.dispatch.state ≠ .stopped)
  let stale (p : Nat) := !(s.point p).effQuality.usable
  setCondition .demandStale (live && (stale s.dispatch.cfg.heat || stale s.dispatch.cfg.grid))
    (setCondition .turbineTrip (live && s.dispatch.tripHeld)
      (setCondition .dispatchHold (decide (s.dispatch.state = .hold)) s))

/-- A required input record on a wake (R129). -/
def InputRec.woken (r : InputRec) (q : Quality) (v : Value) (now limit : Nat) : InputRec :=
  if q.usable then { last := some v, state := .usable, timer := none }
  else match r.state with
    | .usable => { r with state := .holding, timer := some (now + limit) }
    | _ => r

/-- A required input reads its woken point (R129). -/
def wakeInput (p : Nat) (i : ReqInput) (s : State) : State :=
  if s.dispatch.cfg.inputPoint i = p then
    let pt := s.point p
    let r := (s.dispatch.input i).woken pt.effQuality pt.effValue s.now s.dispatch.oper.holdLimit
    { s with dispatch := s.dispatch.setInput i r }
  else s

/-- The trip point's effective value is stored at each wake; a value other than at the previous wake is a cycle occasion
of a unit that is not STOPPED (R129, R132). -/
def wakeTripSeen (p : Nat) (s : State) : State :=
  if s.dispatch.cfg.trip = p then
    let v := (s.point p).effValue
    let changed := match s.dispatch.tripSeen with
      | none => false
      | some w => decide (w ≠ v)
    { s with dispatch := { s.dispatch with
        tripSeen := some v,
        owed := s.dispatch.owed || (changed && decide (s.dispatch.state ≠ .stopped)) } }
  else s

/-- The demand records on a wake: a usable quality stores the effective value (R131). -/
def wakeDemands (p : Nat) (s : State) : State :=
  let pt := s.point p
  if pt.effQuality.usable then
    { s with dispatch := { s.dispatch with
        heat := if s.dispatch.cfg.heat = p then some pt.effValue else s.dispatch.heat,
        grid := if s.dispatch.cfg.grid = p then some pt.effValue else s.dispatch.grid } }
  else s

/-- The dispatch unit's part of a wake, while its table is configured (R12, R129, R131). R129 gives that limit for the
required inputs alone; that a demand point's wake stores nothing either while the table is unconfigured is the model's
reading of R131 (DEDUCED, log entry 33). A cycle occasion is noted here and acted on when the wake is complete
(`runOccasions`, SteamDispatch.lean). -/
def wakeDispatch (p : Nat) (s : State) : State :=
  if s.dispatch.cfg.configured then
    followDispatch (wakeDemands p (wakeTripSeen p (wakeInput p .trip (wakeInput p .fb (wakeInput p .fa s)))))
  else s

/-- The consumers woken by an expiry, SUBSTITUTE, UNSUBSTITUTE or SELF write: guard terms, lines, dispatch unit (R12;
the order is that of log entry 7). -/
def wakeConsumers (p : Nat) (s : State) : State := wakeDispatch p (wakeLines p (wakeGuard p s))

/-! ### Updates of a point record -/

/-- An accepted update stores value and quality, makes the point FRESH, restarts its timer and stamps it (R4, R6, R13,
R14). -/
def Point.accepted (r : Point) (v : Value) (q : Quality) (now : Nat) (stamp : Stamp) : Point :=
  { r with value := v, quality := q, fresh := .fresh, lastUpdate := some stamp, updated := now,
           timer := if r.limit = 0 then none else some (now + r.limit) }

/-- A point takes an accepted update. -/
def storeUpdate (p : Nat) (v : Value) (q : Quality) (s : State) : State :=
  s.modPoint p (fun r => r.accepted v q s.now (stampNow s))

/-- What a point shows: its effective value and quality (R3). -/
def shown (s : State) (p : Nat) : Value × Quality := ((s.point p).effValue, (s.point p).effQuality)

/-- The upstream entry of a SELF point as it now stands (R15, R30). -/
def selfEntry (s : State) (p : Nat) : UpEntry :=
  { point := p, value := (s.point p).effValue, code := qualityCode (s.point p).effQuality, cls := (s.point p).cls }

/-- After an event on a point: its SELF entry goes upstream if the event changed what the point shows (R15). -/
def reportSelf (p : Nat) (before : Value × Quality) (after : Value × Quality) (s : State) : State :=
  if (s.point p).configured = true ∧ (s.point p).owner = .self ∧ before ≠ after then handUpstream (selfEntry s p) s else s

/-- An event that changes a point record by `change`, wakes its consumers and makes the SELF entry (R12, R15); an entry
handed upstream is work appearing (R35). -/
def pointEvent (p : Nat) (change : State → State) (s : State) : State :=
  let s1 := change s
  serve (reportSelf p (shown s p) (shown s1 p) (wakeConsumers p s1))

/-- A write of a SELF point: GOOD, FRESH, stamped, consumers woken, upstream entry if it shows otherwise (R13, R14,
R15). -/
def writeSelf (p : Nat) (v : Value) (s : State) : State := pointEvent p (storeUpdate p v .good) s

/-- A freshness timer expires: EXPIRED, consumers woken, POINT-STALE for an ESSENTIAL point, upstream entry (R9). -/
def expireFreshness (p : Nat) (s : State) : State :=
  let s1 := s.modPoint p (fun r => { r with fresh := .expired, timer := none })
  let s2 := wakeConsumers p s1
  let s3 := if (s.point p).cls = .essential then raiseFlag .pointStale s2 else s2
  serve (reportSelf p (shown s p) (shown s1 p) s3)

/-- SUBSTITUTE of a configured point (R10). -/
def substitutePoint (p : Nat) (v : Value) (s : State) : State :=
  pointEvent p (fun t => t.modPoint p (fun r => { r with subActive := true, subValue := v })) s

/-- UNSUBSTITUTE of a substituted point (R11). -/
def unsubstitutePoint (p : Nat) (s : State) : State :=
  pointEvent p (fun t => t.modPoint p (fun r => { r with subActive := false })) s

/-- A report entry's code taken as a quality: 0 GOOD, 1 UNCERTAIN, any other BAD (R5). -/
def mappedQuality : Nat → Quality
  | 0 => .good
  | 1 => .uncertain
  | _ => .bad

end Sys2Proof.Machine
end

