-- ==== Sys2Proof/Machine/SteamDispatch.lean ====
section
/-! DEFINITION. The dispatch unit: its states (R122 to R128), the assessment of its inputs (R130), the cycle with its
arithmetic in exact integers (R132 to R141), and the handing of its orders to the guard (R141 to R145). -/

namespace Sys2Proof.Machine

open Sys2Proof

/-- The number that the dispatch state point carries (R128). -/
def DispatchState.number : DispatchState → Value
  | .stopped => 0
  | .run => 1
  | .hold => 2

/-- A published SELF point is written, where the table names one (R14). -/
def publish (p : Option Nat) (v : Value) (s : State) : State :=
  match p with
  | none => s
  | some q => writeSelf q v s

/-- The dispatch state point is written with the present state (R128). -/
def publishState (s : State) : State := publish s.dispatch.cfg.statePoint s.dispatch.state.number s

/-! ### Entering and leaving states -/

/-- HOLD is entered with a cause (R124). -/
def enterHold (c : HoldCause) (s : State) : State :=
  publishState (followDispatch { s with dispatch := { s.dispatch with
    state := .hold, cause := some c, holds := bump s.dispatch.holds } })

/-- A hold cause arrives: HOLD is entered from RUN; in HOLD, CONFLICT and COMMAND replace the cause and INPUT leaves it;
STOPPED takes no notice (R124). -/
def holdCause (c : HoldCause) (s : State) : State :=
  match s.dispatch.state with
  | .stopped => s
  | .run => enterHold c s
  | .hold =>
    match c with
    | .input => s
    | .conflict => { s with dispatch := { s.dispatch with cause := some .conflict } }
    | .command => { s with dispatch := { s.dispatch with cause := some .command } }

/-- No output has a last ordered value. -/
def noneOrdered : List (Option Value) := [none, none, none, none, none]

/-- RUN is entered from HOLD (R125). -/
def leaveHold (s : State) : State :=
  publishState (followDispatch { s with dispatch := { s.dispatch with
    state := .run, cause := none, first := true, lastOrdered := noneOrdered } })

/-- A required input record assessed afresh (R130). -/
def InputRec.assessed (r : InputRec) (q : Quality) (v : Value) (now limit : Nat) : InputRec :=
  if q.usable then { last := some v, state := .usable, timer := none }
  else if r.last = none ∨ r.state = .expired then { r with state := .expired, timer := none }
  else match r.state with
    | .usable => { r with state := .holding, timer := some (now + limit) }
    | _ => r

/-- A required input is assessed from its point at this moment (R130). -/
def assessInput (i : ReqInput) (s : State) : State :=
  let pt := s.point (s.dispatch.cfg.inputPoint i)
  let r := (s.dispatch.input i).assessed pt.effQuality pt.effValue s.now s.dispatch.oper.holdLimit
  { s with dispatch := s.dispatch.setInput i r }

/-- The three required inputs' records. -/
def DispatchUnit.required (d : DispatchUnit) : List InputRec := [d.fa, d.fb, d.trip]

/-- The cycle timer starts with the cycle interval (R120, R132). -/
def startCycleTimer (s : State) : State :=
  { s with dispatch := { s.dispatch with timer := some (s.now + s.dispatch.oper.interval) } }

/-- RUN is entered from STOPPED: inputs assessed afresh, HOLD with cause INPUT instead where one is EXPIRED (R123). -/
def enterFromStopped (s : State) : State :=
  let s1 := startCycleTimer (assessInput .trip (assessInput .fb (assessInput .fa s)))
  if s1.dispatch.required.any (fun r => decide (r.state = .expired)) then enterHold .input s1
  else
    publishState (followDispatch { s1 with dispatch := { s1.dispatch with
      state := .run, first := true, lastOrdered := noneOrdered } })

/-- STOPPED is entered from RUN or HOLD at STOP or DISABLE (R126). -/
def enterStopped (s : State) : State :=
  if s.dispatch.state = .stopped then s
  else
    publishState (followDispatch { s with dispatch := { s.dispatch with
      state := .stopped, timer := none, cause := none, first := false } })

/-! ### The arithmetic of a cycle -/

/-- A line's effective maximum for the cycle: reduced by the warn factor in WARN and RESTRICT (R139). -/
def effectiveMaximum (c : LineShare) (e : EmissionState) : Value :=
  match e with
  | .normal => c.max
  | _ => ((c.max * c.warn / 100 : Nat) : Int)

/-- The two requests, extraction and condensing steam (R135). -/
def requests (c : DispatchCfg) (heat grid : Value) : Value × Value :=
  let ext := clampTo 0 c.extMax (ceilDiv (heat * 100) c.kq)
  let cond := clampTo 0 Config.quantityTop (ceilDiv (max 0 (100 * grid - c.kx * ext)) c.ke)
  (ext, cond)

/-- The split of the turbine's available steam by the mode: extraction and condensing (R136). -/
def splitByMode (m : Mode) (avail extReq condReq : Value) : Value × Value :=
  match m with
  | .heatLed => (min extReq avail, min condReq (avail - min extReq avail))
  | .powerLed => (min extReq (avail - min condReq avail), min condReq avail)

/-- The turbine order: the previous order moved toward the target by at most the ramp step, then capped by the available
steam (R137). -/
def rampedOrder (previous target step avail : Value) : Value :=
  clampTo 0 avail (if previous < target then min target (previous + step) else max target (previous - step))

/-- The lines' targets before clamping (R139). -/
def lineShares (opA opB : Bool) (shareA : Nat) (total : Value) : Value × Value :=
  match opA, opB with
  | true, true => (total * shareA / 100, total - total * shareA / 100)
  | true, false => (total, 0)
  | false, true => (0, total)
  | false, false => (0, 0)

/-- The lines' targets: shares, clamp of the operating lines, and one redistribution pass when both operate (R139,
R140). -/
def lineTargets (a b : LineShare) (effA effB : Value) (opA opB : Bool) (shareA : Nat) (total : Value) : Value × Value :=
  let before := lineShares opA opB shareA total
  let clampA := if opA then clampTo a.min effA before.1 else 0
  let clampB := if opB then clampTo b.min effB before.2 else 0
  let removedA := max 0 (before.1 - clampA)
  let removedB := max 0 (before.2 - clampB)
  if opA && opB then (min effA (clampA + removedB), min effB (clampB + removedA)) else (clampA, clampB)

/-- The estimated power in kW (R138). -/
def estimatedPower (c : DispatchCfg) (condensing extraction : Value) : Value :=
  (c.ke * condensing + c.kx * extraction) / 100

/-- The guard's issued value for an output point, if it is known (R137, R141). -/
def issuedFor (s : State) (point : Nat) : Option Value := (guardOf s point).bind (fun i => (s.guardRec i).issued)

/-- The previous turbine order: the guard's issued value, else the last ordered value, else the target (R137). -/
def previousOrder (s : State) (target : Value) : Value :=
  match issuedFor s (outputPoint s 0) with
  | some v => v
  | none => (s.dispatch.lastOrdered.getD 0 none).getD target

/-- The record of a cycle run now, before its orders are handed (R133 to R140, R144). -/
def computeCycle (s : State) : CycleRecord :=
  let d := s.dispatch
  let c := d.cfg
  let fa := clampTo 0 Config.quantityTop (d.fa.last.getD 0)
  let fb := clampTo 0 Config.quantityTop (d.fb.last.getD 0)
  let trip := d.trip.last.getD 0
  let heat := max 0 (d.heat.getD 0)
  let grid := max 0 (d.grid.getD 0)
  let avail := fa + fb
  let la := s.emission.lineA
  let lb := s.emission.lineB
  let effA := effectiveMaximum c.lineA la.state
  let effB := effectiveMaximum c.lineB lb.state
  let req := requests c heat grid
  let total := min (req.1 + req.2) c.turbineMax
  let tgt := lineTargets c.lineA c.lineB effA effB la.operating lb.operating d.oper.shareA total
  let base : CycleRecord :=
    { number := (d.cycleNo + 1) % 65536, outcome := .trip, first := d.first, fa := fa, fb := fb, trip := trip,
      faHeld := decide (d.fa.state = .holding), fbHeld := decide (d.fb.state = .holding),
      tripHeld := decide (d.trip.state = .holding), heat := heat, grid := grid,
      heatHeld := !(s.point c.heat).effQuality.usable, gridHeld := !(s.point c.grid).effQuality.usable,
      mode := d.oper.mode, shareA := d.oper.shareA, avail := avail, extReq := none, condReq := none, turbAvail := none,
      ext := none, cond := none, target := none, previous := none, turbine := 0, extraction := 0, condensing := 0,
      bypass := avail, power := 0, total := none,
      lineA := ⟨la.operating, la.state, effA, if la.operating then clampTo c.lineA.min effA c.lineA.trip else 0⟩,
      lineB := ⟨lb.operating, lb.state, effB, if lb.operating then clampTo c.lineB.min effB c.lineB.trip else 0⟩,
      handed := [.no, .no, .no, .no, .no] }
  if trip ≠ 0 then base
  else
    let low := { base with
      outcome := .lowSteam, extReq := some req.1, condReq := some req.2, total := some total,
      lineA := ⟨la.operating, la.state, effA, tgt.1⟩, lineB := ⟨lb.operating, lb.state, effB, tgt.2⟩ }
    if avail < c.turbineMin then low
    else
      let turbAvail := min avail c.turbineMax
      let split := splitByMode d.oper.mode turbAvail req.1 req.2
      let target := max (split.1 + split.2) c.turbineMin
      let previous := previousOrder s target
      let step := max 1 ((d.oper.ramp * d.oper.interval / 1000 : Nat) : Int)
      let turbine := rampedOrder previous target step turbAvail
      let extraction := min split.1 turbine
      { low with
        outcome := .normal, turbAvail := some turbAvail, ext := some split.1, cond := some split.2,
        target := some target, previous := some previous, turbine := turbine, extraction := extraction,
        condensing := turbine - extraction, bypass := avail - turbine,
        power := estimatedPower c (turbine - extraction) extraction }

/-- The five values of a cycle in the order of R141. -/
def CycleRecord.values (r : CycleRecord) : List Value :=
  [r.turbine, r.extraction, r.bypass, r.lineA.target, r.lineB.target]

/-! ### Handing the orders -/

/-- Whether an output is handed to the guard at the end of a cycle (R141). -/
def handsOutput (s : State) (r : CycleRecord) (k : Nat) (v : Value) : Bool :=
  let last := s.dispatch.lastOrdered.getD k none
  if r.first then true
  else match r.outcome with
    | .trip => decide (last ≠ some v) || decide (issuedFor s (outputPoint s k) ≠ some v)
    | _ => match last with
      | none => true
      | some w => decide ((s.dispatch.oper.deadbands.getD k 0 : Int) ≤ |v - w|)

/-- One output is handed if R141 says so: the guard judges it, and a dropped order leaves the last ordered value absent
(R142). An order that R77 refuses with HELD, in a cycle run within STOP, counts as dropped, and an output without a guard
record gives no order (DEDUCED, log entry 32). -/
def handOutput (r : CycleRecord) (k : Nat) (v : Value) (s : State) : Handed × State :=
  if handsOutput s r k v then
    match guardOf s (outputPoint s k) with
    | none => (.no, s)
    | some i =>
      let a := guardOrder (.dispatch k (decide (r.outcome = .trip))) i v s
      let taken := decide (a.1 = .taken)
      (if taken then .placed else .dropped,
        { a.2 with dispatch := { a.2.dispatch with
            lastOrdered := a.2.dispatch.lastOrdered.set k (if taken then some v else none) } })
  else (.no, s)

/-- The five outputs are decided and handed in order (R141); a slot written is work appearing (R59). -/
def handAll (r : CycleRecord) (s : State) : List Handed × State :=
  ((List.range 5).zip r.values).foldl (fun (acc : List Handed × State) kv =>
    let a := handOutput r kv.1 kv.2 acc.2
    (acc.1 ++ [a.1], serve a.2)) ([], s)

/-- A dispatch cycle: computed, counted, handed, recorded and published (R132 to R145). The cycle timer restarts. -/
def runCycle (s : State) : State :=
  let r := computeCycle s
  let s1 := startCycleTimer { s with dispatch := { s.dispatch with
    cycleNo := r.number, cycles := bump s.dispatch.cycles } }
  let h := handAll r s1
  let s2 := { h.2 with dispatch := { h.2.dispatch with first := false, record := some { r with handed := h.1 } } }
  let s3 := publish s2.dispatch.cfg.steamPoint r.avail s2
  let s4 := publish s3.dispatch.cfg.powerPoint r.power s3
  publish s4.dispatch.cfg.statePoint 1 s4

/-! ### Cycle occasions -/

/-- A cycle occasion is acted on by state: a cycle in RUN; in HOLD with cause INPUT, the return to RUN and a cycle when
all required inputs are USABLE (R125, R132). -/
def actOnOccasion (s : State) : State :=
  match s.dispatch.state with
  | .stopped => s
  | .run => runCycle s
  | .hold =>
    if s.dispatch.cause = some .input ∧ s.dispatch.required.all (fun r => decide (r.state = .usable)) then
      runCycle (leaveHold s)
    else s

/-- Cycle occasions that are owed are acted on, one after another, up to a bound; a further one stays owed (log entry
12). -/
def runOccasions : Nat → State → State
  | 0, s => s
  | n + 1, s =>
    if s.dispatch.owed then runOccasions n (actOnOccasion { s with dispatch := { s.dispatch with owed := false } })
    else s

/-- After a wake or a change of the dispatch state, the cycle occasions that it gave are acted on, and the work that
appeared meanwhile is served (R35, R59). -/
def settle (s : State) : State := serve (runOccasions Config.cycleBound s)

/-- The cycle timer expires: it restarts, and the unit has a cycle occasion (R132). -/
def cycleTimerExpires (s : State) : State := settle (actOnOccasion (startCycleTimer s))

/-- A hold timer expires: the input becomes EXPIRED, and a unit in RUN enters HOLD with cause INPUT (R129). -/
def inputHoldExpires (i : ReqInput) (s : State) : State :=
  let r := s.dispatch.input i
  settle (holdCause .input { s with dispatch := s.dispatch.setInput i { r with state := .expired, timer := none } })

/-- DISPATCH RUN taken in HOLD (R125, R127). -/
def runCommanded (s : State) : State :=
  if s.dispatch.required.any (fun r => decide (r.state = .expired)) then
    { s with dispatch := { s.dispatch with cause := some .input } }
  else runCycle (startCycleTimer (leaveHold s))

end Sys2Proof.Machine
end

