-- ==== Sys2Proof/Machine/Emission.lean ====
section
/-! DEFINITION. The emission unit: samples and their normalisation, the emission state of a line, half-hour and day
closes, cuts, and its START and STOP actions (chapter 6); and the acceptance of a report entry, which gives samples (R6,
R99). -/

namespace Sys2Proof.Machine

open Sys2Proof

/-! ### The emission state of a line -/

/-- The number that a line's state point carries (R93). -/
def EmissionState.number : EmissionState → Value
  | .normal => 0
  | .warn => 1
  | .restrict => 2

/-- The enforcing channels of a line: configured, of that line, enforcing (R93). -/
def enforcingChannels (s : State) (l : LineId) : List Channel :=
  s.emission.channels.filter (fun c => c.cfg.configured && decide (c.cfg.line = l) && c.cfg.enforcing)

/-- The emission state that a line's enforcing channels give (R93). -/
def emissionStateOf (s : State) (l : LineId) : EmissionState :=
  if (enforcingChannels s l).any (fun c => c.run.latch) then .restrict
  else if (enforcingChannels s l).any (fun c => c.run.warn) then .warn
  else .normal

/-- The conditions EMISSION-RESTRICT and EMISSION-WARN (R93). -/
def followEmission (s : State) : State :=
  let some' (e : EmissionState) := decide (s.emission.lineA.state = e) || decide (s.emission.lineB.state = e)
  setCondition .emissionWarn (some' .warn) (setCondition .emissionRestrict (some' .restrict) s)

/-- The marker value of a line: 0 for line A, 1 for line B (R155). -/
def lineNumber : LineId → Value
  | .a => 0
  | .b => 1

/-- A configured line derives its emission state; entry into RESTRICT hands the recorder its trigger and makes the
guard's RESTRICT entry; the state point is written at every derivation of a close, STOP or START (`always`), else where
the state changed (R93, R155). -/
def deriveEmission (always : Bool) (l : LineId) (s : State) : State :=
  if (s.line l).configured then
    let old := (s.line l).state
    let new := emissionStateOf s l
    let s1 := s.modLine l (fun r => { r with state := new })
    let s2 := if new = .restrict ∧ old ≠ .restrict then
        restrictEntry l (markerTrigger none (some (lineNumber l)) .lineRestrict s1)
      else s1
    let s3 := followEmission s2
    if always || decide (new ≠ old) then settle (publish (s.line l).statePoint new.number s3) else s3
  else s

/-! ### Samples -/

/-- The class of a sample (R99). -/
inductive SampleClass where
  | off | valid | invalid
deriving DecidableEq, Repr

/-- The class of a sample with a mapped quality, by the line's operating flag and the qualities of the O2 and H2O
points (R99). -/
def classify (s : State) (c : ChannelCfg) (q : Quality) : SampleClass :=
  let good (p : Nat) := decide ((s.point p).effQuality = .good)
  if !(s.line c.line).operating then .off
  else if decide (q = .good) && good c.o2 && (match c.h2o with | none => true | some p => good p) then .valid
  else .invalid

/-- The normalised value from the prepared inputs: N / D rounded half up (R101). -/
def normalise (conc o2c h2oc : Int) (o2Ref : Nat) : Int :=
  roundHalfUp (conc * 10000 * (2100 - o2Ref)) ((10000 - h2oc) * (2100 - o2c))

/-- The normalised value of a VALID sample as the point table stands (R100, R101). -/
def normalisedSample (s : State) (c : ChannelCfg) (v : Value) : Int :=
  normalise (clampTo 0 Config.quantityTop v) (clampTo 0 c.o2Cap (s.point c.o2).effValue)
    (match c.h2o with | none => 0 | some p => clampTo 0 5000 (s.point p).effValue) c.o2Ref

/-- A normalised value accumulated into the open period (R102). -/
def ChannelRun.accumulate (r : ChannelRun) (cn : Int) : ChannelRun :=
  { r with
    sum := r.sum + cn, valid := r.valid + 1,
    minmax := match r.minmax with
      | none => some (cn, cn)
      | some (lo, hi) => some (min lo cn, max hi cn) }

/-- The WARN test (R103). -/
def ChannelRun.warnTest (r : ChannelRun) (warnMin : Nat) : Bool :=
  decide (warnMin ≤ r.valid) && decide ((r.warnLevel : Int) * r.valid < r.sum)

/-- A VALID sample accumulated, and the WARN test after it (R102, R103). -/
def takeValid (c : Nat) (cn : Int) (s : State) : State :=
  let ch := s.channel c
  if Config.counterTop ≤ ch.run.valid then
    s.modChannel c (fun ch => { ch with run := { ch.run with countFull := bump ch.run.countFull } })
  else
    let s1 := s.modChannel c (fun ch => { ch with run := ch.run.accumulate cn })
    if (s1.channel c).run.warnTest ch.cfg.warnMin && !ch.run.warn then
      let s2 := s1.modChannel c (fun ch => { ch with run := { ch.run with warn := true } })
      if ch.cfg.enforcing then deriveEmission false ch.cfg.line s2 else s2
    else s1

/-- A sample of an OPEN channel with the entry's value and mapped quality (R99, R100). -/
def takeSample (c : Nat) (v : Value) (q : Quality) (s : State) : State :=
  let ch := s.channel c
  match classify s ch.cfg q with
  | .off => s
  | .invalid =>
    s.modChannel c (fun ch => { ch with run := { ch.run with operated := true, invalid := bump ch.run.invalid } })
  | .valid =>
    let clamped := decide (v < 0) || decide (Config.quantityTop < v)
    takeValid c (normalisedSample s ch.cfg v)
      (s.modChannel c (fun ch => { ch with run := { ch.run with
        operated := true, concClamp := if clamped then bump ch.run.concClamp else ch.run.concClamp } }))

/-- The channels' part of the wake of an accepted report (R12, R99). -/
def wakeChannels (p : Nat) (v : Value) (q : Quality) (s : State) : State :=
  (List.range Config.channels).foldl (fun t c =>
    let ch := t.channel c
    if ch.cfg.configured && ch.run.opened && decide (ch.cfg.pollutant = p) then takeSample c v q t else t) s

/-- An accepted report entry: stored, FRESH, stamped, and every consumer woken (R6, R12). -/
def acceptReport (p : Nat) (v : Value) (q : Quality) (s : State) : State :=
  settle (wakeDispatch p (wakeLines p (wakeChannels p v q (wakeGuard p (storeUpdate p v q s)))))

/-! ### Closes -/

/-- The average of a sum over a count, rounded half up (R105, R110). -/
def averageOf (sum : Int) (n : Nat) : Int := (2 * sum + n) / (2 * n)

/-- The status of a normal half-hour close (R105). -/
def halfStatus (ch : Channel) : PeriodStatus :=
  if !ch.run.operated then .off
  else if ch.cfg.minValid ≤ ch.run.valid then .valid
  else .invalid

/-- The half-hour record of a close, normal or CUT (R105, R106, R113). -/
def halfRecord (cut : Bool) (ch : Channel) : HalfRec :=
  let st := if cut then .cut else halfStatus ch
  let avg := averageOf ch.run.sum ch.run.valid
  { day := ch.run.day, index := ch.run.index, status := st,
    average := if st = .valid then some avg else none,
    valid := ch.run.valid, invalid := ch.run.invalid,
    minmax := if ch.run.valid = 0 then none else ch.run.minmax,
    exceeded := decide (st = .valid) && decide ((ch.cfg.halfLimit : Int) < avg) }

/-- The latch after a close: an exceeded close of an enforcing channel sets it, a VALID one that is not exceeded clears
it, any other leaves it (R107, R113). -/
def latchAfter (ch : Channel) (r : HalfRec) : Bool :=
  if r.exceeded then (if ch.cfg.enforcing then true else ch.run.latch)
  else if r.status = .valid then false
  else ch.run.latch

/-- The runtime fields after a half-hour close: warn flag, latch and day accumulators (R107, R108, R113). -/
def afterHalf (ch : Channel) (r : HalfRec) : ChannelRun :=
  { ch.run with
    warn := false,
    latch := latchAfter ch r,
    accOff := if r.status = .off then bump ch.run.accOff else ch.run.accOff,
    accValid := if r.status = .valid then bump ch.run.accValid else ch.run.accValid,
    accSum := ch.run.accSum + r.average.getD 0,
    accInvalid := if r.status = .invalid ∨ r.status = .cut then bump ch.run.accInvalid else ch.run.accInvalid,
    accOver := if r.exceeded then bump ch.run.accOver else ch.run.accOver }

/-- An OPEN channel closes its half-hour, and a VALID close writes the average point (R104 step 1, R106, R107). -/
def closeHalf (cut : Bool) (c : Nat) (s : State) : State :=
  let ch := s.channel c
  let r := halfRecord cut ch
  let s1 := s.modChannel c (fun ch => { ch with
    half := (r :: ch.half).take Config.halfRingCap, run := afterHalf ch r })
  match r.average with
  | none => s1
  | some avg => settle (publish ch.cfg.avgPoint avg s1)

/-- The status of a normal day close (R110). -/
def dayStatus (ch : Channel) : PeriodStatus :=
  if ch.run.accValid = 0 ∧ ch.run.accInvalid = 0 then .off
  else if 1 ≤ ch.run.accValid ∧ ch.run.accInvalid ≤ ch.cfg.allowance then .valid
  else .invalid

/-- The day record of a close, normal or CUT (R110, R111, R113). -/
def dayRecord (cut : Bool) (signature : Nat) (ch : Channel) : DayRec :=
  let st := if cut then .cut else dayStatus ch
  let avg := averageOf ch.run.accSum ch.run.accValid
  { day := ch.run.accDay, status := st, average := if st = .valid then some avg else none,
    valid := ch.run.accValid, invalid := ch.run.accInvalid, off := ch.run.accOff, overLimit := ch.run.accOver,
    exceeded := decide (st = .valid) && decide ((ch.cfg.dayLimit : Int) < avg), signature := signature }

/-- An OPEN channel closes its day (R111, R113). -/
def closeDay (cut : Bool) (c : Nat) (s : State) : State :=
  s.modChannel c (fun ch => { ch with
    days := (dayRecord cut s.part.signature ch :: ch.days).take Config.dayRingCap })

/-- The runtime fields of a channel that opens the period handed last (R98). -/
def openedRun (s : State) (ch : Channel) : ChannelRun :=
  let day := s.clock.handed.1
  let fresh := !ch.run.opened || decide (ch.run.accDay ≠ day)
  let r := { ch.run with
    opened := true, day := day, index := s.clock.handed.2, valid := 0, invalid := 0, sum := 0, minmax := none,
    warn := false, operated := (s.line ch.cfg.line).operating }
  if fresh then
    { r with accDay := day, accValid := 0, accInvalid := 0, accOff := 0, accSum := 0, accOver := 0 }
  else r

/-- A channel opens a period (R98). -/
def openPeriod (c : Nat) (s : State) : State := s.modChannel c (fun ch => { ch with run := openedRun s ch })

/-- The indexes of the OPEN channels. -/
def openChannels (s : State) : List Nat :=
  (List.range Config.channels).filter (fun c => (s.channel c).run.opened)

/-- The indexes of the configured channels. -/
def configuredChannels (s : State) : List Nat :=
  (List.range Config.channels).filter (fun c => (s.channel c).cfg.configured)

/-- Whether a channel's last close gives cause for PERIOD-CLOSED under its notice mode (R109). -/
def givesCause (ch : Channel) : Bool :=
  match ch.half with
  | [] => false
  | r :: _ => !ch.cfg.exceptions || decide (r.status = .invalid) || decide (r.status = .cut) || r.exceeded

/-- PERIOD-CLOSED is raised once if one of the closed channels gives cause (R109). -/
def raisePeriodClosed (closed : List Nat) (s : State) : State :=
  if closed.any (fun c => givesCause (s.channel c)) then raiseFlag .periodClosed s else s

/-- The configured lines that have one of the closed channels derive their emission state (R104 step 2, R112). Line A does
so with all that follows from it before line B, an order that the spec leaves open (DEDUCED, log entry 29). -/
def deriveClosed (closed : List Nat) (s : State) : State :=
  [LineId.a, LineId.b].foldl (fun t l =>
    if closed.any (fun c => decide ((t.channel c).cfg.line = l)) then deriveEmission true l t else t) s

/-- The emission unit acts on a period boundary; `day` says that it is the day boundary (R104). Channels close and
open in ascending index (DEDUCED, log entry 29). -/
def emissionBoundary (day : Bool) (s : State) : State :=
  let closed := openChannels s
  if closed = [] then s
  else
    let s1 := closed.foldl (fun t c => closeHalf false c t) s
    let s2 := raisePeriodClosed closed (deriveClosed closed s1)
    let s3 := if day then raiseFlag .dayClosed (closed.foldl (fun t c => closeDay false c t) s2) else s2
    closed.foldl (fun t c => openPeriod c t) s3

/-- The plant clock hands the emission unit the boundary of the period handed last (R18, R104). -/
def periodBoundaryEvent (s : State) : State :=
  let entered := nextPeriod s.clock.handed
  emissionBoundary (decide (entered.2 = 0)) { s with clock := { s.clock with handed := entered } }

/-- The clock has reached a boundary that it has not yet handed: its reading no longer stands in the period handed last
(R18, log entry 5). -/
def boundaryDue (s : State) : Bool := decide (periodOf s.clock.day s.clock.ms ≠ s.clock.handed)

/-- The emission unit acts on a time-set event; the clock already has its new reading (R112). Channels and
lines act in the order of log entry 29. -/
def emissionTimeSet (s : State) : State :=
  match s.part.state with
  | .setup => s
  | .run =>
    let opened := openChannels s
    if opened = [] then (configuredChannels s).foldl (fun t c => openPeriod c t) s
    else if opened.all (fun c => decide (((s.channel c).run.day, (s.channel c).run.index) = s.clock.handed)) then s
    else
      let s1 := deriveClosed opened (opened.foldl (fun t c => closeHalf true c t) s)
      let newDay := opened.any (fun c => decide ((s.channel c).run.accDay ≠ s.clock.handed.1))
      let s2 := if newDay then opened.foldl (fun t c => closeDay true c t) s1 else s1
      let s3 := opened.foldl (fun t c => openPeriod c t) s2
      let s4 := raisePeriodClosed opened (raiseFlag .periodCut s3)
      if newDay then raiseFlag .dayClosed s4 else s4

/-- Every OPEN channel closes its half-hour and its day as CUT (R114 step 1, R115), in ascending index (log entry 29). -/
def cutAll (s : State) : State :=
  (openChannels s).foldl (fun t c => closeDay true c (closeHalf true c t)) s

/-- Every channel IDLE, with warn flag and latch clear; warn level and counters are kept (R95, R114 step 2). -/
def idleAll (s : State) : State :=
  { s with emission := { s.emission with
      channels := s.emission.channels.map (fun c =>
        { c with run := .idle c.run.warnLevel c.run.concClamp c.run.countFull }) } }

/-- The emission unit's STOP action (R114), line A before line B (log entry 29). -/
def emissionStop (s : State) : State :=
  let closed := openChannels s
  let s1 := cutAll s
  let s2 := deriveEmission true .b (deriveEmission true .a (idleAll s1))
  if closed = [] then s2
  else
    let s3 := raiseFlag .dayClosed (raiseFlag .periodCut s2)
    if closed.any (fun c => givesCause (s1.channel c)) then raiseFlag .periodClosed s3 else s3

/-- The warn level that START computes for a configured channel (R97). -/
def startWarnLevel (c : Channel) : Channel :=
  if c.cfg.configured then { c with run := { c.run with warnLevel := c.cfg.halfLimit * c.cfg.warnPct / 100 } } else c

/-- The emission unit's START action: warn levels, operating flags and emission states, and, with the clock set, a
period for every configured channel (R97, R98, R190), line A before line B (log entry 29). -/
def emissionStart (s : State) : State :=
  let s1 := { s with emission := { s.emission with channels := s.emission.channels.map startWarnLevel } }
  let s2 := deriveEmission true .a (deriveOperating .a s1)
  let s3 := deriveEmission true .b (deriveOperating .b s2)
  if s3.clock.unset then s3 else (configuredChannels s3).foldl (fun t c => openPeriod c t) s3

end Sys2Proof.Machine
end

