-- ==== Sys2Proof/Machine/Reset.lean ====
section
/-! DEFINITION. Power-on reset and RESET taking effect (R195, R196, R115, R177). -/

namespace Sys2Proof.Machine

open Sys2Proof

/-- The station number that a strap value gives: 0 and 255 are clamped to 254 (R196). -/
def stationOf (straps : Nat) : Nat := if straps = 0 ∨ straps = 255 then 254 else straps

/-- RESET_N rises: the straps are read and every block takes its power-on values (R196). -/
def powerOnWith (straps : Nat) (s : State) : State := State.powerOn (stationOf straps) straps s.pending

/-- A port held in reset: its power-on values with no timer running (R196). -/
def heldPort (now : Nat) : PortRec := { PortRec.powerOn now with linkTimer := none }

/-- RESET_N goes low: a power-on reset in which the part takes and sends nothing until it rises (R196). -/
def holdInReset (s : State) : State :=
  { State.powerOn s.part.station s.part.strap s.pending with held := true, sPort := heldPort 0, fPort := heldPort 0 }

/-- The receiver at a port restart or RESET: a frame whose start delimiter has arrived is discarded (R165). -/
def Reception.restarted : Reception → Reception
  | .none => .none
  | .inFrame => .discarding
  | .discarding => .discarding

/-- A port after a RESET: power-on values; a frame whose start delimiter has arrived is discarded (R165, R177). -/
def resetPort (now : Nat) (r : PortRec) : PortRec := { PortRec.powerOn now with receiving := r.receiving.restarted }

/-- A line after a RESET: its configuration fields are kept while the setup lock is set (R91, R115). -/
def resetLine (lock : Bool) (l : LineRec) : LineRec :=
  if lock then { l with operating := true, state := .normal } else .powerOn

/-- A channel after a RESET: rings kept, configuration kept while the setup lock is set, IDLE with zero counters (R95,
R115). -/
def resetChannel (lock : Bool) (c : Channel) : Channel :=
  { c with cfg := if lock then c.cfg else .powerOn, run := .idle 0 0 0 }

/-- What the emission unit keeps of itself through a RESET (R115). -/
def resetEmission (lock : Bool) (e : Emission) : Emission :=
  { lineA := resetLine lock e.lineA, lineB := resetLine lock e.lineB,
    channels := e.channels.map (resetChannel lock) }

/-- A reset takes effect: every OPEN channel appends its CUT records, and every block takes its power-on values but for
what R195 retains. -/
def resetTakesEffect (s : State) : State :=
  { State.powerOn s.part.station s.part.strap s.pending with
    now := s.now
    part := { Part.powerOn s.part.station s.part.strap with lock := s.part.lock }
    clock := s.clock
    emission := resetEmission s.part.lock (cutAll s).emission
    sPort := resetPort s.now s.sPort
    fPort := resetPort s.now s.fPort
    attention := .powerOn s.clock.unset }

end Sys2Proof.Machine
end

