-- ==== Sys2Proof/Machine/Ports.lean ====
section
/-! DEFINITION. The two ports: symbols, the receiver and its checks, link-down, restarts and the completion of a frame
(chapter 9), with the awake part and its timers. What the transmitters begin stands in Transmit.lean. -/

namespace Sys2Proof.Machine

open Sys2Proof

/-! ### Flags and numbers of a port -/

/-- The link-down flag of a port (R176). -/
def linkFlag : Port → Flag
  | .sPort => .sLinkDown
  | .fPort => .fLinkDown

/-- The overrun flag of a port (R176). -/
def overrunFlag : Port → Flag
  | .sPort => .sOverrun
  | .fPort => .fOverrun

/-- The marker value of a port: 0 for the S-port, 1 for the F-port (R155). -/
def portNumber : Port → Value
  | .sPort => 0
  | .fPort => 1

/-- A port takes a state; its link-down condition holds while it is DOWN (R176). -/
def setPortState (p : Port) (st : PortState) (s : State) : State :=
  setCondition (linkFlag p) (decide (st = .down)) (s.modPort p (fun r => { r with state := st }))

/-! ### The receive buffer -/

/-- The head frame leaves the receive buffer; a take that leaves 4 or fewer while HOLDING opens the flow (R167,
R169). -/
def popFrame (p : Port) (s : State) : State :=
  s.modPort p (fun r =>
    if r.holding ∧ r.rx.tail.length ≤ Config.resumeLevel then
      { r with rx := r.rx.tail, holding := false, symbol := .resume }
    else { r with rx := r.rx.tail })

/-! ### Receiving -/

/-- A frame fails a receive check: its cause is counted and FRAME-ERRORS is raised (R166). -/
def frameError (p : Port) (f : PortCounters → PortCounters) (s : State) : State :=
  raiseFlag .frameErrors (s.countPort p f)

/-- The end of what stands at a port's receiver. -/
def endReception (p : Port) (s : State) : State := s.modPort p (fun r => { r with receiving := .none })

/-- A frame being received is cut off and counts as an FCS error; the rest of a discarded one is not counted (R165). -/
def cutOffReception (p : Port) (s : State) : State :=
  match (s.port p).receiving with
  | .none => s
  | .inFrame => frameError p (fun c => { c with fcsError := bump c.fcsError }) (endReception p s)
  | .discarding => endReception p s

/-- A frame meets a full receive buffer: counted, and the first since OVERRUN was clear sets it, begins its condition
and hands the recorder its trigger (R168). -/
def overrunFrame (p : Port) (s : State) : State :=
  let s1 := s.countPort p (fun c => { c with overrun := bump c.overrun })
  if (s.port p).overrun then s1
  else
    markerTrigger none (some (portNumber p)) .portOverrun
      (setCondition (overrunFlag p) true (s1.modPort p (fun r => { r with overrun := true })))

/-- A checked frame is stored at the tail of the receive buffer, or dropped at a full one; a store that leaves 12 or more
holds the peer (R167, R168, R169). -/
def storeFrame (p : Port) (f : Frame) (s : State) : State :=
  if (s.port p).rx.length < Config.rxCap then
    s.modPort p (fun r =>
      let c := { r.counters with framesReceived := bump r.counters.framesReceived }
      if Config.pauseLevel ≤ r.rx.length + 1 then
        { r with rx := r.rx ++ [f], counters := c, holding := true, symbol := .pause }
      else { r with rx := r.rx ++ [f], counters := c })
  else overrunFrame p s

/-- What the receive checks of a frame lead to (R166). -/
def judgeFrame (p : Port) (cutOff : Bool) (bytes : List Byte) (s : State) : State :=
  match checkFrame cutOff bytes with
  | .fcsError => frameError p (fun c => { c with fcsError := bump c.fcsError }) s
  | .lengthError => frameError p (fun c => { c with lengthError := bump c.lengthError }) s
  | .kindError => frameError p (fun c => { c with kindError := bump c.kindError }) s
  | .good f => storeFrame p f s

/-- A frame's end is reached: it is checked, but for one that a restart or RESET discarded (R165, R166). -/
def receiveFrame (p : Port) (cutOff : Bool) (bytes : List Byte) (s : State) : State :=
  match (s.port p).receiving with
  | .none => judgeFrame p cutOff bytes s
  | .inFrame => judgeFrame p cutOff bytes (endReception p s)
  | .discarding => endReception p s

/-- The link-down timer restarts (R171). -/
def restartLinkTimer (p : Port) (s : State) : State :=
  s.modPort p (fun r => { r with linkTimer := some (s.now + Config.linkTime) })

/-- The state that a symbol other than PAUSE leaves: DOWN and DISABLED end (R171). -/
def PortState.onSymbol : PortState → PortState
  | .active => .active
  | .paused => .paused
  | .down => .active
  | .disabled => .active

/-- A symbol other than PAUSE is received (R171). -/
def symbolArrives (p : Port) (s : State) : State :=
  setPortState p (s.port p).state.onSymbol (restartLinkTimer p s)

/-- The effect of a line symbol on the frame being received: IDLE and a new start delimiter cut it off, and a start
delimiter begins a frame (R165). -/
def delimit (p : Port) (y : LineSymbol) (s : State) : State :=
  match y with
  | .idle => cutOffReception p s
  | .startDelimiter => (cutOffReception p s).modPort p (fun r => { r with receiving := .inFrame })
  | .frameByte => s

/-- A PAUSE is received: pause timer, count, and the port PAUSED from any state (R170). -/
def pauseArrives (p : Port) (s : State) : State :=
  setPortState p .paused ((restartLinkTimer p s).modPort p (fun r => { r with
    pauseTimer := some (s.now + Config.pauseTime),
    counters := { r.counters with pauseReceived := bump r.counters.pauseReceived } }))

/-- The peer's pause ends: the pause timer stops and a PAUSED port becomes ACTIVE (R170). -/
def endPause (p : Port) (s : State) : State :=
  if (s.port p).state = .paused then
    setPortState p .active (s.modPort p (fun r => { r with pauseTimer := none }))
  else s

/-- The link-down timer expires (R171): the frame being received is cut off (R165), and the port goes DOWN (log entry
17). -/
def linkDown (p : Port) (s : State) : State :=
  setPortState p .down ((serve (cutOffReception p s)).modPort p (fun r => { r with
    pauseTimer := none, linkTimer := none,
    counters := { r.counters with linkDown := bump r.counters.linkDown } }))

/-! ### Restarts -/

/-- A frame in flight is aborted; its owner's rule decides the item's fate: a trip order is entered again, a query is no
longer in flight, anything else is lost (R173 step 1, R54, R66). -/
def abortFrame (p : Port) (s : State) : State :=
  match (s.port p).tx with
  | none => s
  | some snd =>
    let s1 := s.modPort p (fun r => { r with tx := none })
    match snd.item with
    | .trip t => reenterTrip t s1
    | .query i gen => queryAborted i gen s1
    | .plain => s1
    | .resetDone => s1
    | .restartDone => s1

/-- A port's record after steps 2 to 7 of R173. -/
def PortRec.restarted (r : PortRec) (rate : Option Rate) : PortRec :=
  { r with
    rx := [], receiving := r.receiving.restarted, overrun := false, holding := false, symbol := .resume, pauseTimer := none,
    counters := .zero, rate := rate.getD r.rate }

/-- A port restart, with the new rate of a PORT-RATE (R173). -/
def restartPort (p : Port) (rate : Option Rate) (s : State) : State :=
  let s1 := (abortFrame p s).modPort p (fun r => r.restarted rate)
  restartLinkTimer p (setPortState p .disabled (setCondition (overrunFlag p) false s1))

/-- The oldest pending S-port restart takes effect (R174). -/
def pendingRestart (s : State) : State :=
  match s.sPort.restarts with
  | [] => s
  | rate :: rest => restartPort .sPort rate { s with sPort := { s.sPort with restarts := rest } }

/-! ### Completing -/

/-- What the completion of a frame means to its owner (R48, R174, R194). -/
def completedItem (item : SentItem) (s : State) : State :=
  match item with
  | .plain => s
  | .trip _ => s
  | .query i gen => queryCompletes i gen s
  | .resetDone => resetTakesEffect s
  | .restartDone => pendingRestart s

/-- A frame in flight completes: the transmitter is IDLE, the frame is counted and a pending flow symbol goes out before
anything else (R172). -/
def completeFrame (p : Port) (snd : Sending) (s : State) : State :=
  completedItem snd.item (sendFlow p (s.modPort p (fun r => { r with
    tx := none, counters := { r.counters with framesSent := bump r.counters.framesSent } })))

/-! ### The form of every command -/

/-- A command while the part is not held in reset; a held part takes nothing (R196). -/
def whileAwake (act : State → State) (s : State) : State := if s.held then s else serve (act s)

/-- Whether a timer has reached its expiry (R20). -/
def isDue (now : Nat) : Option Nat → Bool
  | none => false
  | some t => decide (t ≤ now)

/-- A timer's expiry acts where the timer has reached it; the expiry of a timer that was stopped or restarted before
it was taken does not take place (R8, R20, R56, R178, log entry 2). -/
def atExpiry (timer : Option Nat) (act : State → State) (s : State) : State :=
  if isDue s.now timer then whileAwake act s else s

end Sys2Proof.Machine
end

