-- ==== Sys2Proof/Machine/Routing.lean ====
section
/-! DEFINITION. The forwarding unit's routing: which command the frame at the head of a receive buffer is (R24 to R28,
R209), which frames wait for the reply outbox (R23), and the taking of a frame. -/

namespace Sys2Proof.Machine

open Sys2Proof

/-- The command that a SETUP frame for the part carries, by its operation code; a code that the part does not know and an
unknown DISPATCH sub-command go to the WRITE and DISPATCH ENABLE rows, which refuse them with BAD-VALUE (R127, R180, R209;
log entry 18). -/
def routeSetup (f : Frame) : Instr :=
  match setupOp f with
  | 0 => .write f
  | 1 => .read f
  | 2 => .start f
  | 3 => .stop f
  | 4 => .time f
  | 5 => .substitute f
  | 6 => .unsubstitute f
  | 7 => .lock f
  | 8 => .reset f
  | 9 => .release f
  | 10 => .clear f
  | 11 => .force f
  | 12 => .portRestart f
  | 13 => .portRate f
  | 14 => .rearm f
  | 15 =>
    match headByte f 1 with
    | 1 => .dispatchDisable f
    | 2 => .dispatchRun f
    | 3 => .dispatchHold f
    | _ => .dispatchEnable f
  | 16 => .counterClear f
  | _ => .write f

/-- The command that an S-port frame is: own source, source checks, then by destination and kind (R24, R25, R26). -/
def routeS (s : State) (f : Frame) : Instr :=
  if f.src = s.part.station then .addressConflict .sPort f
  else if fieldSide s f.src || decide (f.src = broadcast) then .sPortFrameDropped f
  else if f.dest = s.part.station then
    match f.kind with
    | .setup => routeSetup f
    | .order => .orderToPart f
    | .query => .queryToPart f
    | _ => .sPortFrameDropped f
  else if f.dest = broadcast then
    match f.kind with
    | .order => .orderFrameAcceptance f
    | .query => .sPortFrameDropped f
    | _ => .passThroughEntry f
  else if fieldSide s f.dest then
    match f.kind with
    | .order => .orderFrameAcceptance f
    | .query => .supervisoryQuery f
    | _ => .passThroughEntry f
  else .sPortFrameDropped f

/-- The command that an F-port frame is (R24, R27, R28). In SETUP a window may hold the part's own station, and a
frame to it that is no REPORT then meets two rows of R28: the row of the part is taken first, as R25 has it for the
S-port (DEDUCED, log entry 20). -/
def routeF (s : State) (f : Frame) : Instr :=
  if f.src = s.part.station then .addressConflict .fPort f
  else if !fieldSide s f.src then .fieldFrameDropped f
  else if f.kind = .report then .fieldReport f
  else if f.dest = s.part.station then
    if f.kind = .answer then .fieldAnswer f else .fieldFrameDropped f
  else if decide (f.dest = 0) || fieldSide s f.dest then .fieldFrameDropped f
  else .upPassThrough f

/-- The command that a port's frame is. -/
def route (p : Port) (s : State) (f : Frame) : Instr :=
  match p with
  | .sPort => routeS s f
  | .fPort => routeF s f

/-- An S-port command that places a frame in the reply outbox is reply-bearing: every one but the frames that R24, R25
and R26 drop (R23). No F-port frame is. -/
def replyBearing (p : Port) (c : Instr) : Bool :=
  match p, c with
  | .fPort, _ => false
  | .sPort, .addressConflict _ _ => false
  | .sPort, .sPortFrameDropped _ => false
  | .sPort, _ => true

/-- Whether a port's head frame is taken now as a command: it is the frame that the command carries, its route gives that
command, and a reply-bearing one finds a free place in the reply outbox (R23). -/
def takesFrame (p : Port) (f : Frame) (c : Instr) (s : State) : Bool :=
  decide ((s.port p).rx.head? = some f) && decide (route p s f = c) &&
    (!replyBearing p c || decide (s.fwd.outbox.length < Config.outboxCap))

/-- A frame leaves its receive buffer and is offered to the recorder, before it is routed (R23, R151). -/
def offered (p : Port) (f : Frame) (s : State) : State := offerFrame p f (popFrame p s)

/-- The state in which a taken frame's command acts: a notice that the offer placed, or a flow symbol, has gone out first
(R35, R169). -/
def taken (p : Port) (f : Frame) (s : State) : State := serve (offered p f s)

/-- A frame is taken and its command acts; a frame that is not there to be taken is not taken, and nothing happens (R23,
log entry 1). -/
def takeFrame (p : Port) (f : Frame) (c : Instr) (act : State → State) (s : State) : State :=
  if takesFrame p f c s then whileAwake (fun s => act (taken p f s)) s else s

end Sys2Proof.Machine
end

