-- ==== Sys2Proof/Machine/Traffic.lean ====
section
/-! DEFINITION. What the forwarding unit does with the frames it takes that are no SETUP operation: orders and queries to
the part (R13, R16), order acceptance (R38 to R41), field reports (R27), pass-through frames (R29) and the frames it
drops (R24 to R28). -/

namespace Sys2Proof.Machine

open Sys2Proof

/-! ### Judging the entries of a frame -/

/-- The entries of a frame judged one by one in frame order; the refusals are gathered in frame order (R13, R39). -/
def judgeEntries (judge : Nat × Value → State → Option Status × State) :
    List (Nat × Value) → State → List (Nat × Status) × State
  | [], s => ([], s)
  | e :: rest, s =>
    let a := judge e s
    let b := judgeEntries judge rest a.2
    (match a.1 with
      | none => b.1
      | some code => (e.1, code) :: b.1, b.2)

/-- One STATUS frame for the refused entries, none where no entry was refused (R13, R40). -/
def replyRefusals (f : Frame) (refused : List (Nat × Status)) (s : State) : State :=
  if refused = [] then s else placeReply (resultStatus s f refused) .plain s

/-! ### Orders and queries to the part -/

/-- One entry of an ORDER to the part (R13); the work that its write and its cycle occasions place is served before
the next entry and the reply (R35, R59). -/
def takeSelfEntry (e : Nat × Value) (s : State) : Option Status × State :=
  let r := s.point e.1
  if decide (e.1 < Config.points) && r.configured then
    match r.owner with
    | .self => (none, settle (writeSelf e.1 (clampTo r.low r.high e.2) s))
    | .station _ => (some .mismatch, s)
  else (some .unknownPoint, s)

/-- An ORDER to the part (R13). -/
def takeSelfOrder (f : Frame) (s : State) : State :=
  let a := judgeEntries takeSelfEntry (orderEntries f) s
  replyRefusals f a.1 a.2

/-- The answer entry for a QUERY to the part (R16). -/
def selfAnswer (s : State) (p : Nat) : Answer :=
  if decide (p < Config.points) && (s.point p).configured then
    { point := p, code := qualityCode (s.point p).effQuality, value := (s.point p).effValue, status := 0 }
  else { point := p, code := 2, value := 0, status := 1 }

/-- A QUERY to the part (R16). -/
def takeSelfQuery (f : Frame) (s : State) : State :=
  placeReply (answerFrame s f (selfAnswer s (queryPoint f))) .plain s

/-! ### Order frame acceptance -/

/-- The owner check of R39 step 1: whether an entry is refused with MISMATCH. -/
def ownerRefused (s : State) (dest point : Nat) : Bool :=
  let r := s.point point
  decide (point < Config.points) && r.configured &&
    match r.owner with
    | .self => true
    | .station n => if dest = broadcast then !fieldSide s n else decide (n ≠ dest)

/-- An entry placed in the order queue unchanged with the next acceptance number (R37, R39 step 3). -/
def queueUnguarded (f : Frame) (e : Nat × Value) (s : State) : State :=
  { s with fwd := { s.fwd with
      orders := s.fwd.orders ++ [.order f.dest e.1 e.2 f.src false s.fwd.acceptance],
      acceptance := s.fwd.acceptance + 1 } }

/-- The refusal code of a guard decision on a supervisory entry (R39 step 2). -/
def decisionStatus : Decision → Option Status
  | .taken => none
  | .held => some .held
  | .owned => some .owned
  | .dropped => none

/-- One entry of a taken ORDER frame: owner check, guarded output, other entries (R39). An entry placed is work appearing
(R59): an idle transmitter begins with it alone (R60, log entry 17). -/
def judgeOrderEntry (f : Frame) (e : Nat × Value) (s : State) : Option Status × State :=
  if ownerRefused s f.dest e.1 then
    (some .mismatch, s.countFwd (fun c => { c with mismatch := bump c.mismatch }))
  else
    match guardOf s e.1 with
    | some i =>
      let a := guardOrder (.supervisory f.dest f.src) i e.2 s
      (decisionStatus a.1, serve a.2)
    | none => (none, serve (queueUnguarded f e s))

/-- The BUSY counter advances (R38, R41). -/
def countBusy (s : State) : State := s.countFwd (fun c => { c with busy := bump c.busy })

/-- An ORDER frame for the field side or broadcast: refused whole with BUSY for want of room, or taken entry by entry
(R38, R39, R40). -/
def acceptOrders (f : Frame) (s : State) : State :=
  if Config.orderQueueCap < s.fwd.orders.length + f.count then
    recordBusy f (countBusy
      (placeReply (resultStatus s f ((orderEntries f).map (fun e => (e.1, Status.busy)))) .plain s))
  else
    let a := judgeEntries (judgeOrderEntry f) (orderEntries f) s
    replyRefusals f a.1 a.2

/-- A frame placed in the order queue as a pass-through entry, or refused with BUSY for point 0 (R41). -/
def passThrough (f : Frame) (s : State) : State :=
  if s.fwd.orders.length < Config.orderQueueCap then
    { s with fwd := { s.fwd with
        orders := s.fwd.orders ++ [.pass f s.fwd.acceptance], acceptance := s.fwd.acceptance + 1 } }
  else countBusy (placeReply (resultStatus s f [(0, .busy)]) .plain s)

/-! ### Field frames -/

/-- One report entry handed to the point table: accepted from its owner, counted as foreign from another station, else
left alone (R6, R7). -/
def takeReportEntry (src : Nat) (e : ReportEntry) (s : State) : State :=
  let r := s.point e.point
  if decide (e.point < Config.points) && r.configured then
    if r.owner = .station src then acceptReport e.point e.value (mappedQuality e.code) s
    else s.modPoint e.point (fun r => { r with foreign := bump r.foreign })
  else s

/-- Whether a REPORT goes upstream: unless its destination lies inside a window; one addressed to the part does (R27, log
entry 20). -/
def forwardsReport (s : State) (f : Frame) : Bool := decide (f.dest = s.part.station) || !fieldSide s f.dest

/-- One entry of a field REPORT: the point table first, then the upstream report queue (R27, R30); what it places is
served before the next entry (R35, R59). -/
def reportEntry (forward : Bool) (src : Nat) (s : State) (e : ReportEntry) : State :=
  let s1 := takeReportEntry src e s
  serve (if forward then handUpstream ⟨e.point, e.value, e.code, upstreamClass s1 e.point⟩ s1 else s1)

/-- A field REPORT, entry by entry in frame order (R27). -/
def takeReport (f : Frame) (s : State) : State :=
  (reportEntries f).foldl (reportEntry (forwardsReport s f) f.src) s

/-- A field frame for the supervisory side or broadcast joins the up pass-through queue, or is dropped at a full one
(R29). -/
def queueUpPass (f : Frame) (s : State) : State :=
  if s.fwd.upPass.length < Config.upPassCap then { s with fwd := { s.fwd with upPass := s.fwd.upPass ++ [f] } }
  else s.countFwd (fun c => { c with upPassDrop := bump c.upPassDrop })

/-! ### Dropped frames -/

/-- A misrouted frame is counted and raises MISROUTE (R26, R28). -/
def misrouted (s : State) : State :=
  raiseFlag .misroute (s.countFwd (fun c => { c with misroute := bump c.misroute }))

/-- An S-port frame that R25 or R26 drops: by source, by kind to the part, broadcast query, or misroute. -/
def dropFromS (f : Frame) (s : State) : State :=
  if fieldSide s f.src || decide (f.src = broadcast) then
    s.countFwd (fun c => { c with sourceWindow := bump c.sourceWindow })
  else if f.dest = s.part.station then s.countFwd (fun c => { c with toPartKind := bump c.toPartKind })
  else if f.dest = broadcast then s.countFwd (fun c => { c with broadcastQuery := bump c.broadcastQuery })
  else misrouted s

/-- An F-port frame that R27 or R28 drops; a frame between field stations is let go uncounted. -/
def dropFromF (f : Frame) (s : State) : State :=
  if !fieldSide s f.src then s.countFwd (fun c => { c with fieldSource := bump c.fieldSource })
  else if f.dest = s.part.station then s.countFwd (fun c => { c with fieldToPart := bump c.fieldToPart })
  else if f.dest = 0 then misrouted s
  else s

/-- A frame with the part's own station as source: counted, ADDRESS-CONFLICT raised, and the dispatch unit handed the
cause CONFLICT (R24). -/
def conflict (s : State) : State :=
  settle (holdCause .conflict
    (raiseFlag .addressConflict (s.countFwd (fun c => { c with addressConflict := bump c.addressConflict }))))

end Sys2Proof.Machine
end

