-- ==== Sys2Proof/Machine/Layout.lean ====
section
/-! DEFINITION. The byte layouts of the records that READ returns and that the signature covers (R208, R210), the tables
with their indexes and field groups (R183, R184, R116, R161), and the signature (R189). -/

namespace Sys2Proof.Machine

open Sys2Proof

/-! ### Codes: the position of a value in the list of its defining rule (R208) -/

/-- Freshness state codes (R4). -/
def Freshness.code : Freshness → Nat
  | .never => 0
  | .fresh => 1
  | .expired => 2

/-- Class codes (R1). -/
def PointClass.code : PointClass → Nat
  | .routine => 0
  | .essential => 1

/-- Owner codes: SELF 0, otherwise the station (R2, R210). -/
def Owner.code : Owner → Nat
  | .self => 0
  | .station n => n

/-- Line codes A 0, B 1 (R208). -/
def LineId.code : LineId → Nat
  | .a => 0
  | .b => 1

/-- Guard line codes A 0, B 1, none 2 (R208). -/
def guardLineCode : Option LineId → Nat
  | some l => l.code
  | none => 2

/-- Guard owner codes (R208). -/
def GuardOwner.code : GuardOwner → Nat
  | .supervisory => 0
  | .dispatch => 1
  | .shared => 2

/-- Trip action codes (R67). -/
def TripAction.code : TripAction → Nat
  | .safe => 0
  | .hold => 1

/-- Output state codes (R67). -/
def OutputState.code : OutputState → Nat
  | .clear => 0
  | .tripped => 1
  | .latched => 2

/-- Term relation codes (R68). -/
def Relation.code : Relation → Nat
  | .above => 0
  | .below => 1
  | .notGood => 2

/-- Emission state codes (R91). -/
def EmissionState.code : EmissionState → Nat
  | .normal => 0
  | .warn => 1
  | .restrict => 2

/-- Half-hour and day status codes (R208). -/
def PeriodStatus.code : PeriodStatus → Nat
  | .off => 0
  | .valid => 1
  | .invalid => 2
  | .cut => 3

/-- Query entry state codes (R43). -/
def QueryState.code : QueryState → Nat
  | .free => 0
  | .waitingSend => 1
  | .sent => 2
  | .done => 3
  | .failed => 4

/-- Level codes (R58). -/
def Level.code : Level → Nat
  | .high => 0
  | .low => 1
  | .masked => 2

/-- Requester codes (R58). -/
def Requester.code : Requester → Nat
  | .supervisory => 0
  | .dispatch => 1
  | .step => 2
  | .query => 3

/-- Dispatch mode codes (R120). -/
def Mode.code : Mode → Nat
  | .heatLed => 0
  | .powerLed => 1

/-- Dispatch state codes (R122). -/
def DispatchState.code : DispatchState → Nat
  | .stopped => 0
  | .run => 1
  | .hold => 2

/-- Hold cause codes (R122). -/
def causeCode : Option HoldCause → Nat
  | none => 0
  | some .input => 1
  | some .conflict => 2
  | some .command => 3

/-- Input state codes (R129). -/
def InputState.code : InputState → Nat
  | .usable => 0
  | .holding => 1
  | .expired => 2

/-- Cycle outcome codes (R144). -/
def CycleOutcome.code : CycleOutcome → Nat
  | .normal => 0
  | .trip => 1
  | .lowSteam => 2

/-- Recorder state codes (R148). -/
def RecorderState.code : RecorderState → Nat
  | .off => 0
  | .armed => 1
  | .post => 2
  | .frozen => 3

/-- Record origin codes (R149). -/
def RecOrigin.code : RecOrigin → Nat
  | .sPort => 0
  | .fPort => 1
  | .guard => 2
  | .dispatch => 3
  | .part => 4

/-- Record outcome codes (R149). -/
def RecOutcome.code : RecOutcome → Nat
  | .passed => 0
  | .clamped => 1
  | .ramped => 2
  | .held => 3
  | .owned => 4
  | .busy => 5
  | .tripSafe => 6

/-- The bit of a trigger mark (R210). -/
def TriggerMark.bit : TriggerMark → Nat
  | .comparator n => 2 ^ n
  | .outputTripped => 16
  | .lineRestrict => 32
  | .portOverrun => 64
  | .force => 128

/-- Comparator relation codes (R154). -/
def CmpRelation.code : CmpRelation → Nat
  | .any => 0
  | .equal => 1
  | .above => 2
  | .below => 3

/-- Rate codes (R209). -/
def Rate.code : Rate → Nat
  | .r2_5 => 0
  | .r5 => 1
  | .r10 => 2
  | .r20 => 3

/-- Port state codes (R163). -/
def PortState.code : PortState → Nat
  | .active => 0
  | .paused => 1
  | .down => 2
  | .disabled => 3

/-- Part state codes (R179). -/
def PartState.code : PartState → Nat
  | .setup => 0
  | .run => 1

/-! ### Field encodings -/

/-- A one-byte field. -/
def b1 (n : Nat) : List Byte := bytesOf 1 n

/-- A two-byte field. -/
def b2 (n : Nat) : List Byte := bytesOf 2 n

/-- A four-byte field. -/
def b4 (n : Nat) : List Byte := bytesOf 4 n

/-- A yes/no field: 1 for yes; a flag's set and the setup lock alike (R208, log entry 24). -/
def bYes (b : Bool) : List Byte := b1 (yesNo b)

/-- A field whose rule lists its values as set, clear: coded by place, set 0 and clear 1 (R208, log entry 24). -/
def bSetClear (b : Bool) : List Byte := b1 (if b then 0 else 1)

/-- An optional point reference; an absent one is 65535 (R208). -/
def bPoint (p : Option Nat) : List Byte := b2 (p.getD 65535)

/-- An optional value's bytes; an absent value's bytes are 0 (R208). -/
def bOpt (v : Option Value) : List Byte := signedBytes (v.getD 0)

/-- An optional plant time; an absent one is sent as 0 (R208). -/
def bStamp (t : Option Stamp) : List Byte :=
  match t with
  | none => List.replicate 6 0
  | some t => stampBytes t

/-- A presence byte or mark set: bit n for the n-th of a list (R208). -/
def marks : List Bool → Nat
  | [] => 0
  | b :: rest => yesNo b + 2 * marks rest

/-! ### Points, guard, lines and channels -/

/-- Point, group 0 [15]. -/
def pointConfigBytes (p : Point) : List Byte :=
  bYes p.configured ++ b1 p.owner.code ++ b1 p.cls.code ++ b4 p.limit ++ signedBytes p.low ++ signedBytes p.high

/-- Point, group 1 [25]; the effective quality of an unconfigured point reads 255, its value 0. -/
def pointRuntimeBytes (p : Point) : List Byte :=
  signedBytes p.value ++ b1 (qualityCode p.quality) ++ b1 p.fresh.code ++ bYes p.subActive ++ signedBytes p.subValue ++
    b1 (marks [p.lastUpdate.isSome]) ++ bStamp p.lastUpdate ++ b2 p.foreign ++
    signedBytes (if p.configured then p.effValue else 0) ++
    b1 (if p.configured then qualityCode p.effQuality else 255)

/-- Guard, group 0 [30]. -/
def guardConfigBytes (g : GuardRec) : List Byte :=
  bYes g.configured ++ b2 g.point ++ b1 (guardLineCode g.line) ++ bYes g.restricted ++ b1 g.owner.code ++
    signedBytes g.low ++ signedBytes g.rhigh ++ signedBytes g.high ++ signedBytes g.safe ++ b1 g.action.code ++
    bYes g.latching ++ b4 g.rate ++ b2 g.interval

/-- A term place of guard groups 1 and 2 [13]. -/
def termBytes (t : Term) : List Byte :=
  bYes t.used ++ b2 t.point ++ b1 t.relation.code ++ signedBytes t.threshold ++ signedBytes t.hysteresis ++
    bYes t.failActive

/-- A term place of a record. -/
def GuardRec.term (g : GuardRec) (k : Nat) : Term := g.terms.getD k .blank

/-- Guard, groups 1 and 2 [26 each]. -/
def guardTermsBytes (g : GuardRec) (k : Nat) : List Byte := termBytes (g.term k) ++ termBytes (g.term (k + 1))

/-- Guard, group 3 [24]; the last issue reads as the elapsed time since it, stopping at 65,535 (R67). -/
def guardRuntimeBytes (now : Nat) (g : GuardRec) : List Byte :=
  b1 g.state.code ++ b1 (marks [g.target.isSome, g.issued.isSome, g.lastIssue.isSome]) ++ bOpt g.target ++
    bOpt g.issued ++
    b2 (match g.lastIssue with
      | none => 0
      | some t => min (now - t) Config.counterTop) ++
    b4 g.step ++ b1 (marks [(g.term 0).active, (g.term 1).active, (g.term 2).active, (g.term 3).active]) ++
    b2 g.clamped ++ b2 g.held ++ b2 g.owned ++ b1 0

/-- Line, group 0 [5]. -/
def lineConfigBytes (l : LineRec) : List Byte := bYes l.configured ++ b2 l.opPoint ++ bPoint l.statePoint

/-- Line, group 1 [2]. -/
def lineRuntimeBytes (l : LineRec) : List Byte := bYes l.operating ++ b1 l.state.code

/-- Channel, group 0 [30]. -/
def channelConfigBytes (c : ChannelCfg) : List Byte :=
  bYes c.configured ++ b1 c.line.code ++ b2 c.pollutant ++ b2 c.o2 ++ bPoint c.h2o ++ b2 c.o2Ref ++ b2 c.o2Cap ++
    b2 c.minValid ++ b4 c.halfLimit ++ b4 c.dayLimit ++ b1 c.warnPct ++ b2 c.warnMin ++ b1 c.allowance ++
    bYes c.enforcing ++ bYes c.exceptions ++ bPoint c.avgPoint

/-- The two values of an optional min and max. -/
def minmaxBytes (m : Option (Value × Value)) : List Byte :=
  bOpt (m.map (·.1)) ++ bOpt (m.map (·.2))

/-- Channel, group 1 [32]. -/
def channelPeriodBytes (r : ChannelRun) : List Byte :=
  bYes r.opened ++ b1 (marks [r.minmax.isSome]) ++ b2 r.day ++ b1 r.index ++ b2 r.valid ++ b2 r.invalid ++
    signedBytes8 r.sum ++ minmaxBytes r.minmax ++ bYes r.operated ++ bYes r.warn ++ bSetClear r.latch ++ b4 r.warnLevel

/-- Channel, group 2 [22]. -/
def channelDayBytes (r : ChannelRun) : List Byte :=
  b2 r.accDay ++ b2 r.accValid ++ b2 r.accInvalid ++ b2 r.accOff ++ signedBytes8 r.accSum ++ b2 r.accOver ++
    b2 r.concClamp ++ b2 r.countFull

/-- Half-hour record [22]; an empty position is all 0. -/
def halfBytes (r : Option HalfRec) : List Byte :=
  match r with
  | none => List.replicate 22 0
  | some r =>
    b1 (marks [true, r.average.isSome, r.minmax.isSome]) ++ b2 r.day ++ b1 r.index ++ b1 r.status.code ++
      bOpt r.average ++ b2 r.valid ++ b2 r.invalid ++ minmaxBytes r.minmax ++ bYes r.exceeded

/-- Day record [21]; an empty position is all 0. -/
def dayBytes (r : Option DayRec) : List Byte :=
  match r with
  | none => List.replicate 21 0
  | some r =>
    b1 (marks [true, r.average.isSome]) ++ b2 r.day ++ b1 r.status.code ++ bOpt r.average ++ b2 r.valid ++
      b2 r.invalid ++ b2 r.off ++ b2 r.overLimit ++ bYes r.exceeded ++ b4 r.signature

/-! ### Dispatch -/

/-- Dispatch table, group 0 [27]. -/
def dispatchPointBytes (c : DispatchCfg) : List Byte :=
  bYes c.configured ++ b2 c.fa ++ b2 c.fb ++ b2 c.trip ++ b2 c.heat ++ b2 c.grid ++ c.outputs.flatMap b2 ++
    bPoint c.steamPoint ++ bPoint c.powerPoint ++ bPoint c.statePoint

/-- A line's structural fields [13]. -/
def lineShareBytes (l : LineShare) : List Byte := b4 l.min ++ b4 l.max ++ b1 l.warn ++ b4 l.trip

/-- Dispatch table, group 1 [31]. -/
def dispatchLimitBytes (c : DispatchCfg) : List Byte :=
  b4 c.turbineMin ++ b4 c.turbineMax ++ b4 c.extMax ++ b2 c.kq ++ b2 c.ke ++ b2 c.kx ++ lineShareBytes c.lineA

/-- Dispatch table, group 2 [41]. -/
def dispatchOperBytes (c : DispatchCfg) (o : DispatchOper) : List Byte :=
  lineShareBytes c.lineB ++ b1 o.mode.code ++ b1 o.shareA ++ b2 o.ramp ++ b2 o.interval ++ b2 o.holdLimit ++
    o.deadbands.flatMap b4

/-- An input record's state and last usable value. -/
def inputBytes (r : InputRec) : List Byte := b1 r.state.code ++ bOpt r.last

/-- Dispatch table, group 3 [42]. -/
def dispatchStateBytes (d : DispatchUnit) : List Byte :=
  b1 d.state.code ++ bYes d.enable ++ b1 (causeCode d.cause) ++ bYes d.first ++ b1 (marks (d.lastOrdered.map (·.isSome))) ++
    d.lastOrdered.flatMap bOpt ++ b2 d.cycleNo ++ inputBytes d.fa ++ inputBytes d.fb ++ inputBytes d.trip

/-- Dispatch table, group 4 [13]. -/
def dispatchCountBytes (d : DispatchUnit) : List Byte :=
  b1 (marks [d.fa.last.isSome, d.fb.last.isSome, d.trip.last.isSome, d.heat.isSome, d.grid.isSome]) ++ bOpt d.heat ++
    bOpt d.grid ++ b2 d.cycles ++ b2 d.holds

/-- Dispatch record, group 0 [28]. -/
def cycleInputBytes (r : CycleRecord) : List Byte :=
  b1 1 ++ b2 r.number ++ b1 r.outcome.code ++ bYes r.first ++ signedBytes r.fa ++ signedBytes r.fb ++
    signedBytes r.trip ++ b1 (marks [r.faHeld, r.fbHeld, r.tripHeld, r.heatHeld, r.gridHeld]) ++ signedBytes r.heat ++
    signedBytes r.grid ++ b1 r.mode.code ++ b1 r.shareA

/-- The eight quantities of dispatch record group 1. -/
def CycleRecord.quantities (r : CycleRecord) : List (Option Value) :=
  [r.extReq, r.condReq, r.turbAvail, r.ext, r.cond, r.target, r.previous, some r.avail]

/-- Dispatch record, group 1 [33]. -/
def cycleQuantityBytes (r : CycleRecord) : List Byte :=
  b1 (marks (r.quantities.map (·.isSome))) ++ r.quantities.flatMap bOpt

/-- Dispatch record, group 2 [27]. -/
def cycleOrderBytes (r : CycleRecord) : List Byte :=
  b1 (marks [r.total.isSome]) ++ signedBytes r.turbine ++ signedBytes r.extraction ++ signedBytes r.condensing ++
    signedBytes r.bypass ++ signedBytes r.power ++ bOpt r.total ++
    b1 (marks (r.handed.map (fun h => decide (h ≠ .no)))) ++ b1 (marks (r.handed.map (fun h => decide (h = .placed))))

/-- A line's part of dispatch record group 3 [10]. -/
def lineResultBytes (l : LineResult) : List Byte :=
  bYes l.operating ++ b1 l.state.code ++ signedBytes l.effMax ++ signedBytes l.target

/-- Dispatch record, group 3 [20]. -/
def cycleLineBytes (r : CycleRecord) : List Byte := lineResultBytes r.lineA ++ lineResultBytes r.lineB

/-- The dispatch record's groups; with no record held every byte is 0. -/
def cycleRecordBytes (r : Option CycleRecord) (group : Nat) : List Byte :=
  match r, group with
  | none, 0 => List.replicate 28 0
  | none, 1 => List.replicate 33 0
  | none, 2 => List.replicate 27 0
  | none, _ => List.replicate 20 0
  | some r, 0 => cycleInputBytes r
  | some r, 1 => cycleQuantityBytes r
  | some r, 2 => cycleOrderBytes r
  | some r, _ => cycleLineBytes r

/-! ### Recorder and queues -/

/-- Recorder record [22]; an empty position is all 0. -/
def recBytes (r : Option RecEntry) : List Byte :=
  match r with
  | none => List.replicate 22 0
  | some r =>
    b2 r.number ++ stampBytes r.time ++ b1 r.origin.code ++ b1 ((r.kind.map kindCode).getD 0) ++ b1 (r.src.getD 0) ++
      b1 (r.dest.getD 0) ++ b1 r.count ++ b1 (marks [true, r.point.isSome, r.value.isSome, r.outcome.isSome]) ++
      b2 (r.point.getD 0) ++ bOpt r.value ++ b1 ((r.outcome.map RecOutcome.code).getD 0) ++
      b1 (r.marks.map TriggerMark.bit).sum

/-- QUERY-ENTRY [22]. -/
def queryBytes (e : QueryEntry) : List Byte :=
  b1 e.state.code ++ b1 e.origin ++ b1 e.dest ++ b2 e.point ++ b1 e.tag ++ b1 e.attempts ++ bYes e.inFlight ++ b1 e.gen ++
    b1 (marks [e.answer.isSome]) ++
    (match e.answer with
      | none => List.replicate 7 0
      | some a => answerBytes a) ++
    b4 e.seq.toNat ++ b1 (marks [e.answerTimer.isSome, e.discardTimer.isSome])

/-- TRIP-QUEUE, one per guard record [10]. -/
def tripBytes (s : State) (i : Nat) : List Byte :=
  (match s.guard.trips.findIdx? (fun t => decide (t.record = i)) with
    | none => List.replicate 8 0
    | some k =>
      let t := s.guard.trips.getD k ⟨0, 0, 0⟩
      b1 1 ++ b1 k ++ b2 t.point ++ signedBytes t.value) ++
    b2 (s.guardRec i).trips

/-- STEP-SLOT [10]. -/
def stepBytes (s : State) (i : Nat) : List Byte :=
  match s.guard.steps.findIdx? (fun t => decide (t.record = i)) with
  | none => List.replicate 10 0
  | some k =>
    let t := s.guard.steps.getD k ⟨0, 0, 0⟩
    b1 1 ++ signedBytes t.value ++ signedBytes t.fromVal ++ b1 k

/-- DISPATCH-SLOT [7]. -/
def slotBytes (s : State) (i : Nat) : List Byte :=
  match s.dispatch.slots.findIdx? (fun t => decide (t.output = i)) with
  | none => List.replicate 7 0
  | some k =>
    let t := s.dispatch.slots.getD k ⟨0, 0, false⟩
    b1 1 ++ signedBytes t.value ++ bYes t.urgent ++ b1 k

/-- RECORDER-CONFIG, 0..3 [11]. -/
def comparatorBytes (c : Comparator) : List Byte :=
  bYes c.enable ++ b2 c.pattern ++ b2 c.mask ++ b1 c.kinds.toNat ++ b1 c.relation.code ++ signedBytes c.value

/-- RECORDER-CONFIG, 4 [5]. -/
def recorderSettingBytes (r : RecorderCfg) : List Byte :=
  b1 r.kindSel.toNat ++ b1 r.outcomeSel.toNat ++ b1 r.postCount ++ bYes r.freezeStop ++ b1 r.sources.toNat

/-- A comparator by index. -/
def RecorderCfg.comparator (r : RecorderCfg) (i : Nat) : Comparator := r.comparators.getD i ⟨false, 0, 0, 0, .any, 0⟩

/-! ### Small tables and counters -/

/-- PART [10]. -/
def partBytes (p : Part) : List Byte :=
  b1 p.station ++ b1 p.strap ++ b1 p.state.code ++ bYes p.lock ++ b4 p.signature ++ b1 p.collector ++ b1 p.pendingResets

/-- WINDOW [3]. -/
def windowBytes (w : Window) : List Byte := bYes w.enable ++ b1 w.base ++ b1 w.limit

/-- A window by index. -/
def Forwarding.window (f : Forwarding) (i : Nat) : Window := f.windows.getD i ⟨false, 0, 0⟩

/-- UPSTREAM [4]. THINNING is taken as a yes or no, 1 in THINNING, though R32 lists it before clear (DEDUCED, log entry
24). -/
def upstreamBytes (f : Forwarding) : List Byte := b1 f.highMark ++ b1 f.lowMark ++ b1 f.up.length ++ bYes f.thinning

/-- QUERY-SETTINGS [4]. -/
def querySettingBytes (q : QueryTable) : List Byte := b1 q.attemptLimit ++ b2 q.timeout ++ bYes q.long

/-- The requester of an arbiter level index (R58). -/
def requesterOf : Nat → Requester
  | 0 => .supervisory
  | 1 => .dispatch
  | 2 => .step
  | _ => .query

/-- ATTENTION [6]: set, forced, enable, kind (EVENT 0, CONDITION 1), clear mode, condition holds. No rule lists the two
kinds in order; these codes, and 1 for a set flag, are the model's reading (DEDUCED, log entry 24). -/
def attentionBytes (i : Nat) (r : FlagRec) : List Byte :=
  bYes r.isSet ++ bYes r.forced ++ bYes r.enable ++ bYes (isCondition i) ++ bYes r.latch ++ bYes r.cond

/-- STATUS-COUNTERS, 0 and 1 [23]. -/
def portBytes (p : PortRec) : List Byte :=
  b1 p.rate.code ++ b1 p.state.code ++ bSetClear p.overrun ++ bYes p.holding ++ b1 p.rx.length ++ b2 p.counters.fcsError ++
    b2 p.counters.lengthError ++ b2 p.counters.kindError ++ b2 p.counters.overrun ++ b2 p.counters.framesReceived ++
    b2 p.counters.framesSent ++ b2 p.counters.pauseSent ++ b2 p.counters.pauseReceived ++ b2 p.counters.linkDown

/-- STATUS-COUNTERS, 2 [24]. -/
def fwdCounterBytes (c : FwdCounters) : List Byte :=
  b2 c.addressConflict ++ b2 c.sourceWindow ++ b2 c.toPartKind ++ b2 c.broadcastQuery ++ b2 c.misroute ++
    b2 c.fieldSource ++ b2 c.fieldToPart ++ b2 c.upPassDrop ++ b2 c.thinningRefusal ++ b2 c.upstreamLoss ++ b2 c.busy ++
    b2 c.mismatch

/-- STATUS-COUNTERS, 3 [10]. -/
def queryCounterBytes (c : QueryCounters) : List Byte :=
  b2 c.queryBusy ++ b2 c.lateAnswer ++ b2 c.resend ++ b2 c.noAnswer ++ b2 c.discard

/-- STATUS-COUNTERS, 4 [13]. -/
def arbiterBytes (a : Arbiter) : List Byte :=
  b1 a.highPtr.code ++ b1 a.lowPtr.code ++ b1 a.frameNo ++ b2 a.grants.trip ++ b2 a.grants.supervisory ++
    b2 a.grants.dispatch ++ b2 a.grants.step ++ b2 a.grants.query

/-- STATUS-COUNTERS, 5 [10]. -/
def recorderStatusBytes (r : Recorder) : List Byte :=
  b1 r.state.code ++ b1 r.post ++ b2 r.number ++ b2 r.buffer.length ++ b2 r.triggers ++ b2 r.missed

/-- STATUS-COUNTERS. -/
def statusCounterBytes (s : State) (i : Nat) : List Byte :=
  match i with
  | 0 => portBytes s.sPort
  | 1 => portBytes s.fPort
  | 2 => fwdCounterBytes s.fwd.counters
  | 3 => queryCounterBytes s.query.counters
  | 4 => arbiterBytes s.arbiter
  | _ => recorderStatusBytes s.recorder

/-! ### Tables (R183, R209) -/

/-- The tables, in the order of their codes (R209). -/
inductive Table where
  | part | point | window | upstream | querySettings | guard | line | channel | dispatch | arbiterLevel | attention
  | recorderConfig | queryEntry | tripQueue | stepSlot | halfHour | day | dispatchRecord | dispatchSlot
  | recorderBuffer | statusCounters
deriving DecidableEq, Repr

/-- The table of a table code (R209). -/
def tableOfCode (n : Nat) : Option Table :=
  [Table.part, .point, .window, .upstream, .querySettings, .guard, .line, .channel, .dispatch, .arbiterLevel, .attention,
    .recorderConfig, .queryEntry, .tripQueue, .stepSlot, .halfHour, .day, .dispatchRecord, .dispatchSlot,
    .recorderBuffer, .statusCounters][n]?

/-- One above the last index of a table (R183, R116, R161, R210). -/
def Table.size : Table → Nat
  | .part => 1
  | .point => 1024
  | .window => 4
  | .upstream => 1
  | .querySettings => 1
  | .guard => 96
  | .line => 2
  | .channel => 16
  | .dispatch => 1
  | .arbiterLevel => 4
  | .attention => 25
  | .recorderConfig => 5
  | .queryEntry => 8
  | .tripQueue => 96
  | .stepSlot => 96
  | .halfHour => 1024
  | .day => 512
  | .dispatchRecord => 1
  | .dispatchSlot => 5
  | .recorderBuffer => 256
  | .statusCounters => 6

/-- Whether an index names a record: inside the table and, in the emission rings, not between two rings (R116). -/
def Table.holds (t : Table) (i : Nat) : Bool :=
  decide (i < t.size) &&
    match t with
    | .halfHour => decide (i % 64 < 48)
    | .day => decide (i % 32 < 31)
    | _ => true

/-- How many field groups a table has (R210). -/
def Table.groups : Table → Nat
  | .point => 2
  | .guard => 4
  | .line => 2
  | .channel => 3
  | .dispatch => 5
  | .dispatchRecord => 4
  | _ => 1

/-- The bytes of one record of a group (R210). -/
def recordBytes (s : State) (t : Table) (group i : Nat) : List Byte :=
  match t with
  | .part => partBytes s.part
  | .point => if group = 0 then pointConfigBytes (s.point i) else pointRuntimeBytes (s.point i)
  | .window => windowBytes (s.fwd.window i)
  | .upstream => upstreamBytes s.fwd
  | .querySettings => querySettingBytes s.query
  | .guard =>
    match group with
    | 0 => guardConfigBytes (s.guardRec i)
    | 1 => guardTermsBytes (s.guardRec i) 0
    | 2 => guardTermsBytes (s.guardRec i) 2
    | _ => guardRuntimeBytes s.now (s.guardRec i)
  | .line =>
    let l := if i = 0 then s.emission.lineA else s.emission.lineB
    if group = 0 then lineConfigBytes l else lineRuntimeBytes l
  | .channel =>
    match group with
    | 0 => channelConfigBytes (s.channel i).cfg
    | 1 => channelPeriodBytes (s.channel i).run
    | _ => channelDayBytes (s.channel i).run
  | .dispatch =>
    match group with
    | 0 => dispatchPointBytes s.dispatch.cfg
    | 1 => dispatchLimitBytes s.dispatch.cfg
    | 2 => dispatchOperBytes s.dispatch.cfg s.dispatch.oper
    | 3 => dispatchStateBytes s.dispatch
    | _ => dispatchCountBytes s.dispatch
  | .arbiterLevel => b1 (s.arbiter.level (requesterOf i)).code
  | .attention => attentionBytes i (s.flag i)
  | .recorderConfig =>
    if i < 4 then comparatorBytes (s.recorder.table.comparator i) else recorderSettingBytes s.recorder.table
  | .queryEntry => queryBytes (s.queryEntry i)
  | .tripQueue => tripBytes s i
  | .stepSlot => stepBytes s i
  | .halfHour => halfBytes ((s.channel (i / 64)).half[i % 64]?)
  | .day => dayBytes ((s.channel (i / 32)).days[i % 32]?)
  | .dispatchRecord => cycleRecordBytes s.dispatch.record group
  | .dispatchSlot => slotBytes s i
  | .recorderBuffer => recBytes (s.recorder.buffer[i]?)
  | .statusCounters => statusCounterBytes s i

/-! ### Signature -/

/-- The bytes of the signature: guard groups 0 to 2, lines, channels group 0, every record (R189, R210). -/
def signatureBytes (s : State) : List Byte :=
  s.guard.recs.flatMap (fun g => guardConfigBytes g ++ guardTermsBytes g 0 ++ guardTermsBytes g 2) ++
    lineConfigBytes s.emission.lineA ++ lineConfigBytes s.emission.lineB ++
    s.emission.channels.flatMap (fun c => channelConfigBytes c.cfg)

/-- The signature of the guard, line and channel tables (R189). -/
def signatureOf (s : State) : Nat := crc32 (signatureBytes s)

end Sys2Proof.Machine
end

