-- ==== Sys2Proof/Machine/Writing.lean ====
section
/-! DEFINITION. WRITE: the field codes and ranges of every writable table, the checks in their order, and what each
table's owner does after a WRITE (R182, R183, R209 and the owning rules). -/

namespace Sys2Proof.Machine

open Sys2Proof

/-! ### Values of fields: `none` is a value beyond the field's width or range (R209) -/

/-- A number in a range. -/
def inRange (lo hi v : Nat) : Option Nat := if lo ≤ v ∧ v ≤ hi then some v else none

/-- A yes/no or clear/set field (R208). -/
def yesOrNo (v : Nat) : Option Bool :=
  match v with
  | 0 => some false
  | 1 => some true
  | _ => none

/-- A point reference below 1024 (R1). -/
def pointRef (v : Nat) : Option Nat := if v < Config.points then some v else none

/-- An optional point reference; 65535 is absent (R208). -/
def optPointRef (v : Nat) : Option (Option Nat) :=
  if v = 65535 then some none else if v < Config.points then some (some v) else none

/-- An enumerated field, coded by its position in a list (R208). -/
def codeIn {α : Type} (codes : List α) (v : Nat) : Option α := codes[v]?

/-! ### Fields by group and offset (R210): `none` refuses with BAD-VALUE -/

/-- A field of a point record, group 0. -/
def setPointField (r : Point) (off v : Nat) : Option Point :=
  match off with
  | 0 => (yesOrNo v).map (fun x => { r with configured := x })
  | 1 => (inRange 0 254 v).map (fun x => { r with owner := if x = 0 then .self else .station x })
  | 2 => (codeIn [PointClass.routine, .essential] v).map (fun x => { r with cls := x })
  | 3 => (if v = 0 then some 0 else inRange 100 600000 v).map (fun x => { r with limit := x })
  | 7 => some { r with low := signed32 v }
  | 11 => some { r with high := signed32 v }
  | _ => none

/-- A field of a term place (R68). -/
def setTermField (t : Term) (off v : Nat) : Option Term :=
  match off with
  | 0 => (yesOrNo v).map (fun x => { t with used := x })
  | 1 => (pointRef v).map (fun x => { t with point := x })
  | 3 => (codeIn [Relation.above, .below, .notGood] v).map (fun x => { t with relation := x })
  | 4 => some { t with threshold := signed32 v }
  | 8 => (inRange 0 2147483647 v).map (fun x => { t with hysteresis := x })
  | 12 => (yesOrNo v).map (fun x => { t with failActive := x })
  | _ => none

/-- A field of a guard record, group 0. -/
def setGuardField (g : GuardRec) (off v : Nat) : Option GuardRec :=
  match off with
  | 0 => (yesOrNo v).map (fun x => { g with configured := x })
  | 1 => (pointRef v).map (fun x => { g with point := x })
  | 3 => (codeIn [some LineId.a, some .b, none] v).map (fun x => { g with line := x })
  | 4 => (yesOrNo v).map (fun x => { g with restricted := x })
  | 5 => (codeIn [GuardOwner.supervisory, .dispatch, .shared] v).map (fun x => { g with owner := x })
  | 6 => some { g with low := signed32 v }
  | 10 => some { g with rhigh := signed32 v }
  | 14 => some { g with high := signed32 v }
  | 18 => some { g with safe := signed32 v }
  | 22 => (codeIn [TripAction.safe, .hold] v).map (fun x => { g with action := x })
  | 23 => (yesOrNo v).map (fun x => { g with latching := x })
  | 24 => (inRange 0 1000000 v).map (fun x => { g with rate := x })
  | 28 => (inRange 100 5000 v).map (fun x => { g with interval := x })
  | _ => none

/-- A term field of guard groups 1 and 2: two places of 13 bytes each. -/
def setGuardTerm (g : GuardRec) (group off v : Nat) : Option GuardRec :=
  let k := 2 * (group - 1) + off / 13
  if off < 26 then (setTermField (g.term k) (off % 13) v).map (fun t => { g with terms := g.terms.set k t }) else none

/-- A field of a window. -/
def setWindowField (w : Window) (off v : Nat) : Option Window :=
  match off with
  | 0 => (yesOrNo v).map (fun x => { w with enable := x })
  | 1 => (inRange 0 255 v).map (fun x => { w with base := x })
  | 2 => (inRange 0 255 v).map (fun x => { w with limit := x })
  | _ => none

/-- A watermark (R32). -/
def setUpstreamField (f : Forwarding) (off v : Nat) : Option Forwarding :=
  match off with
  | 0 => (inRange 16 128 v).map (fun x => { f with highMark := x })
  | 1 => (inRange 0 127 v).map (fun x => { f with lowMark := x })
  | _ => none

/-- A query setting (R43). -/
def setQueryField (q : QueryTable) (off v : Nat) : Option QueryTable :=
  match off with
  | 0 => (inRange 1 15 v).map (fun x => { q with attemptLimit := x })
  | 1 => (inRange 10 2000 v).map (fun x => { q with timeout := x })
  | 3 => (yesOrNo v).map (fun x => { q with long := x })
  | _ => none

/-- A field of a line record, group 0 (R91). -/
def setLineField (l : LineRec) (off v : Nat) : Option LineRec :=
  match off with
  | 0 => (yesOrNo v).map (fun x => { l with configured := x })
  | 1 => (pointRef v).map (fun x => { l with opPoint := x })
  | 3 => (optPointRef v).map (fun x => { l with statePoint := x })
  | _ => none

/-- A field of a channel record, group 0 (R94). -/
def setChannelField (c : ChannelCfg) (off v : Nat) : Option ChannelCfg :=
  match off with
  | 0 => (yesOrNo v).map (fun x => { c with configured := x })
  | 1 => (codeIn [LineId.a, .b] v).map (fun x => { c with line := x })
  | 2 => (pointRef v).map (fun x => { c with pollutant := x })
  | 4 => (pointRef v).map (fun x => { c with o2 := x })
  | 6 => (optPointRef v).map (fun x => { c with h2o := x })
  | 8 => (inRange 300 1500 v).map (fun x => { c with o2Ref := x })
  | 10 => (inRange 1500 2000 v).map (fun x => { c with o2Cap := x })
  | 12 => (inRange 1 7200 v).map (fun x => { c with minValid := x })
  | 14 => (inRange 1 10000000 v).map (fun x => { c with halfLimit := x })
  | 18 => (inRange 1 10000000 v).map (fun x => { c with dayLimit := x })
  | 22 => (inRange 50 100 v).map (fun x => { c with warnPct := x })
  | 23 => (inRange 1 7200 v).map (fun x => { c with warnMin := x })
  | 25 => (inRange 0 48 v).map (fun x => { c with allowance := x })
  | 26 => (yesOrNo v).map (fun x => { c with enforcing := x })
  | 27 => (yesOrNo v).map (fun x => { c with exceptions := x })
  | 28 => (optPointRef v).map (fun x => { c with avgPoint := x })
  | _ => none

/-- A steam quantity of the dispatch table (R119). -/
def steamField (v : Nat) : Option Nat := inRange 0 10000000 v

/-- A line's structural field of the dispatch table (R119). -/
def setShareField (l : LineShare) (off v : Nat) : Option LineShare :=
  match off with
  | 0 => (steamField v).map (fun x => { l with min := x })
  | 4 => (steamField v).map (fun x => { l with max := x })
  | 8 => (inRange 50 100 v).map (fun x => { l with warn := x })
  | 9 => (steamField v).map (fun x => { l with trip := x })
  | _ => none

/-- A structural field of the dispatch table: groups 0 and 1, and the first 13 bytes of group 2 (R119, R210). -/
def setDispatchField (c : DispatchCfg) (group off v : Nat) : Option DispatchCfg :=
  match group, off with
  | 0, 0 => (yesOrNo v).map (fun x => { c with configured := x })
  | 0, 1 => (pointRef v).map (fun x => { c with fa := x })
  | 0, 3 => (pointRef v).map (fun x => { c with fb := x })
  | 0, 5 => (pointRef v).map (fun x => { c with trip := x })
  | 0, 7 => (pointRef v).map (fun x => { c with heat := x })
  | 0, 9 => (pointRef v).map (fun x => { c with grid := x })
  | 0, 11 => (pointRef v).map (fun x => { c with outputs := c.outputs.set 0 x })
  | 0, 13 => (pointRef v).map (fun x => { c with outputs := c.outputs.set 1 x })
  | 0, 15 => (pointRef v).map (fun x => { c with outputs := c.outputs.set 2 x })
  | 0, 17 => (pointRef v).map (fun x => { c with outputs := c.outputs.set 3 x })
  | 0, 19 => (pointRef v).map (fun x => { c with outputs := c.outputs.set 4 x })
  | 0, 21 => (optPointRef v).map (fun x => { c with steamPoint := x })
  | 0, 23 => (optPointRef v).map (fun x => { c with powerPoint := x })
  | 0, 25 => (optPointRef v).map (fun x => { c with statePoint := x })
  | 1, 0 => (steamField v).map (fun x => { c with turbineMin := x })
  | 1, 4 => (steamField v).map (fun x => { c with turbineMax := x })
  | 1, 8 => (steamField v).map (fun x => { c with extMax := x })
  | 1, 12 => (inRange 1 2000 v).map (fun x => { c with kq := x })
  | 1, 14 => (inRange 1 1000 v).map (fun x => { c with ke := x })
  | 1, 16 => (inRange 1 1000 v).map (fun x => { c with kx := x })
  | 1, off => if off < 18 then none else (setShareField c.lineA (off - 18) v).map (fun x => { c with lineA := x })
  | 2, off => if off < 13 then (setShareField c.lineB off v).map (fun x => { c with lineB := x }) else none
  | _, _ => none

/-- An operating field of the dispatch table: group 2 from byte 13 (R120, R210). -/
def setOperField (o : DispatchOper) (off v : Nat) : Option DispatchOper :=
  match off with
  | 13 => (codeIn [Mode.heatLed, .powerLed] v).map (fun x => { o with mode := x })
  | 14 => (inRange 0 100 v).map (fun x => { o with shareA := x })
  | 15 => (inRange 1 10000 v).map (fun x => { o with ramp := x })
  | 17 => (inRange 200 10000 v).map (fun x => { o with interval := x })
  | 19 => (inRange 1000 60000 v).map (fun x => { o with holdLimit := x })
  | 21 => (inRange 0 1000000 v).map (fun x => { o with deadbands := o.deadbands.set 0 x })
  | 25 => (inRange 0 1000000 v).map (fun x => { o with deadbands := o.deadbands.set 1 x })
  | 29 => (inRange 0 1000000 v).map (fun x => { o with deadbands := o.deadbands.set 2 x })
  | 33 => (inRange 0 1000000 v).map (fun x => { o with deadbands := o.deadbands.set 3 x })
  | 37 => (inRange 0 1000000 v).map (fun x => { o with deadbands := o.deadbands.set 4 x })
  | _ => none

/-- Whether an item names the operating part of the dispatch table. -/
def isOperItem (i : Item) : Bool := decide (i.group = 2) && decide (13 ≤ i.offset)

/-- A field of the dispatch table, structural or operating. -/
def setDispatchItem (d : DispatchUnit) (i : Item) : Option DispatchUnit :=
  if isOperItem i then (setOperField d.oper i.offset i.value).map (fun x => { d with oper := x })
  else (setDispatchField d.cfg i.group i.offset i.value).map (fun x => { d with cfg := x })

/-- A requester's level (R58). -/
def Arbiter.setLevel (a : Arbiter) (r : Requester) (l : Level) : Arbiter :=
  match r with
  | .supervisory => { a with supervisory := l }
  | .dispatch => { a with dispatch := l }
  | .step => { a with step := l }
  | .query => { a with query := l }

/-- A field of an arbiter level record (R58). -/
def setLevelField (a : Arbiter) (i off v : Nat) : Option Arbiter :=
  match off with
  | 0 => (codeIn [Level.high, .low, .masked] v).map (fun x => a.setLevel (requesterOf i) x)
  | _ => none

/-- A writable field of an attention record: the enable, and the clear mode of a CONDITION flag (R200). -/
def setAttentionField (i : Nat) (r : FlagRec) (off v : Nat) : Option FlagRec :=
  match off with
  | 2 => (yesOrNo v).map (fun x => { r with enable := x })
  | 4 => if isCondition i then (yesOrNo v).map (fun x => { r with latch := x }) else none
  | _ => none

/-- A field of a comparator (R154). -/
def setComparatorField (c : Comparator) (off v : Nat) : Option Comparator :=
  match off with
  | 0 => (yesOrNo v).map (fun x => { c with enable := x })
  | 1 => (pointRef v).map (fun x => { c with pattern := x })
  | 3 => (inRange 0 4095 v).map (fun x => { c with mask := x })
  | 5 => (inRange 0 3 v).map (fun x => { c with kinds := BitVec.ofNat 2 x })
  | 6 => (codeIn [CmpRelation.any, .equal, .above, .below] v).map (fun x => { c with relation := x })
  | 7 => some { c with value := signed32 v }
  | _ => none

/-- A general setting of the recorder (R150). -/
def setRecorderField (r : RecorderCfg) (off v : Nat) : Option RecorderCfg :=
  match off with
  | 0 => (inRange 0 127 v).map (fun x => { r with kindSel := BitVec.ofNat 7 x })
  | 1 => (inRange 0 7 v).map (fun x => { r with outcomeSel := BitVec.ofNat 3 x })
  | 2 => (inRange 0 255 v).map (fun x => { r with postCount := x })
  | 3 => (yesOrNo v).map (fun x => { r with freezeStop := x })
  | 4 => (inRange 0 15 v).map (fun x => { r with sources := BitVec.ofNat 4 x })
  | _ => none

/-- Items applied one after another; the first bad one refuses them all (R182). -/
def applyItems {α : Type} (set : α → Item → Option α) : List Item → α → Option α
  | [], r => some r
  | i :: rest, r =>
    match set r i with
    | none => none
    | some r1 => applyItems set rest r1

/-! ### Checks 1 to 4 of R182 -/

/-- Whether a field stands in a runtime group, or is a read-only field of a group with writable ones (R179, R183, R200,
R209, R210). -/
def readOnlyItem (t : Table) (i : Item) : Bool :=
  match t with
  | .part => decide (i.offset ∈ [0, 1, 2, 3, 4, 9])
  | .point => decide (i.group = 1)
  | .upstream => decide (i.offset ∈ [2, 3])
  | .guard => decide (i.group = 3)
  | .line => decide (i.group = 1)
  | .channel => decide (1 ≤ i.group)
  | .dispatch => decide (3 ≤ i.group)
  | .attention => decide (i.offset ∈ [0, 1, 3, 5])
  | _ => false

/-- Whether a table may be written in the present part and recorder state (R183, R150). -/
def tableWritable (s : State) (t : Table) : Bool :=
  match t with
  | .arbiterLevel => true
  | .attention => true
  | .dispatch => true
  | .recorderConfig => decide (s.recorder.state = .off) || decide (s.recorder.state = .frozen)
  | .queryEntry => false
  | .tripQueue => false
  | .stepSlot => false
  | .halfHour => false
  | .day => false
  | .dispatchRecord => false
  | .dispatchSlot => false
  | .recorderBuffer => false
  | .statusCounters => false
  | _ => decide (s.part.state = .setup)

/-- Whether an item may not be written in the present part state: structural fields of the dispatch table in RUN
(R119). An item outside the operating fields counts as one whether or not its offset begins a field, so check 3 of R182
answers before check 5 (DEDUCED, log entry 19). -/
def stateRefusesItem (s : State) (t : Table) (i : Item) : Bool :=
  decide (t = .dispatch) && decide (s.part.state = .run) && !isOperItem i

/-- Whether the setup lock guards a table (R96). -/
def lockedTable (t : Table) : Bool := decide (t = .line) || decide (t = .channel)

/-- Checks 2 to 4 of R182 in their order; `none` passes. -/
def writeRefusal (s : State) (t : Table) (index : Nat) (items : List Item) : Option Status :=
  if !t.holds index || items.any (fun i => decide (t.groups ≤ i.group)) then some .badIndex
  else if !tableWritable s t || items.any (fun i => readOnlyItem t i || stateRefusesItem s t i) then some .refusedState
  else if s.part.lock && lockedTable t then some .refusedLocked
  else none

/-! ### What the owners do after a WRITE -/

/-- The runtime fields of a point at their starting values (R2). -/
def Point.startAfresh (r : Point) : Point :=
  { r with value := 0, quality := .stale, fresh := .never, subActive := false, subValue := 0, lastUpdate := none,
           foreign := 0, timer := none, updated := 0 }

/-- A FRESH point re-timed by a written freshness limit (R2). -/
def retimePoint (p : Nat) (s : State) : State :=
  let r := s.point p
  if r.limit = 0 then s.modPoint p (fun r => { r with timer := none })
  else if r.fresh ≠ .fresh then s
  else if r.updated + r.limit ≤ s.now then settle (expireFreshness p s)
  else s.modPoint p (fun r => { r with timer := some (r.updated + r.limit) })

/-- WRITE of a point record (R2): `limitWritten` says that the freshness limit is among the fields. -/
def writePoint (p : Nat) (r : Point) (limitWritten : Bool) (s : State) : State :=
  if r.configured ≠ (s.point p).configured then s.modPoint p (fun _ => r.startAfresh)
  else
    let s1 := s.modPoint p (fun _ => r)
    if r.configured && limitWritten then retimePoint p s1 else s1

/-- The runtime fields of a guard record as R70 sets them where configured changes. -/
def GuardRec.startAfresh (g : GuardRec) : GuardRec :=
  { g with state := .clear, target := none, issued := none, lastIssue := none, step := 0, rampTimer := none,
           clamped := 0, held := 0, owned := 0, trips := 0,
           terms := g.terms.map (fun t => { t with active := false }) }

/-- WRITE of a guard record: runtime fields, then the withdrawal of every order queue entry for its point (R70). -/
def writeGuard (i : Nat) (g : GuardRec) (s : State) : State :=
  let s1 := s.modGuard i (fun old => if g.configured ≠ old.configured then g.startAfresh else g)
  let s2 := followLatched s1
  if g.configured then
    { s2 with fwd := { s2.fwd with orders := s2.fwd.orders.filter (fun e => !e.names g.point) } }
  else s2

/-- WRITE of a line record (R91): the operating flag is derived again; a change of configured sets the runtime fields. -/
def writeLine (l : LineId) (r : LineRec) (s : State) : State :=
  let s1 := s.modLine l (fun old =>
    if r.configured ≠ old.configured then { r with operating := true, state := .normal } else r)
  deriveOperating l s1

/-- WRITE of a channel record (R95): a change of configured returns the runtime fields and counters to their values. -/
def writeChannel (c : Nat) (cfg : ChannelCfg) (s : State) : State :=
  s.modChannel c (fun ch =>
    if cfg.configured ≠ ch.cfg.configured then { ch with cfg := cfg, run := .idle 0 0 0 } else { ch with cfg := cfg })

/-- An input record after a WRITE: started afresh where it names a new point or the table becomes configured (R129,
R130). -/
def inputAfterWrite (fresh : Bool) (r : InputRec) : InputRec := if fresh then .powerOn else r

/-- WRITE of the dispatch table (R119, R129, R130, R131). -/
def writeDispatch (d : DispatchUnit) (s : State) : State :=
  let old := s.dispatch.cfg
  let becomes := d.cfg.configured && !old.configured
  { s with dispatch := { d with
      fa := inputAfterWrite (becomes || decide (d.cfg.fa ≠ old.fa)) d.fa
      fb := inputAfterWrite (becomes || decide (d.cfg.fb ≠ old.fb)) d.fb
      trip := inputAfterWrite (becomes || decide (d.cfg.trip ≠ old.trip)) d.trip
      tripSeen := if becomes || decide (d.cfg.trip ≠ old.trip) then none else d.tripSeen
      heat := if d.cfg.heat = old.heat then d.heat else none
      grid := if d.cfg.grid = old.grid then d.grid else none } }

/-- WRITE of an attention record: LATCH to AUTO clears a set flag, not forced, whose condition has ended (R200). -/
def writeAttention (i : Nat) (r : FlagRec) (s : State) : State :=
  s.modFlag i (fun old =>
    if old.latch && !r.latch && r.isSet && !r.forced && !r.cond then { r with isSet := false } else r)

/-! ### Check 5 and the WRITE of each table -/

/-- The index names line A or line B (R183). -/
def lineOfIndex (i : Nat) : LineId := if i = 0 then .a else .b

/-- A WRITE of a non-empty list that passed checks 1 to 4: the fields as written, checked for their ranges and forbidden
combinations, and the owner's action; `none` refuses with BAD-VALUE (R182 check 5). A notice of THINNING that new watermarks
place appears before the DONE and is served first; a new collector station places no frame (R35, log entry 17). -/
def writeTable (t : Table) (index : Nat) (items : List Item) (s : State) : Option State :=
  match t with
  | .part =>
    (applyItems (fun (_ : Nat) i => if i.offset = 8 then inRange 0 254 i.value else none) items
      s.part.collector).map (fun c => { s with part := { s.part with collector := c } })
  | .point =>
    (applyItems (fun r i => setPointField r i.offset i.value) items (s.point index)).bind (fun r =>
      if r.low ≤ r.high then some (writePoint index r (items.any (fun i => decide (i.offset = 3))) s) else none)
  | .window =>
    (applyItems (fun w i => setWindowField w i.offset i.value) items (s.fwd.window index)).bind (fun w =>
      if w.enable = true ∧ ¬(1 ≤ w.base ∧ w.base ≤ w.limit ∧ w.limit ≤ 254) then none
      else some { s with fwd := { s.fwd with windows := s.fwd.windows.set index w } })
  | .upstream =>
    (applyItems (fun f i => setUpstreamField f i.offset i.value) items s.fwd).bind (fun f =>
      if f.lowMark < f.highMark then some (serve (judgeWatermarks { s with fwd := f })) else none)
  | .querySettings =>
    (applyItems (fun q i => setQueryField q i.offset i.value) items s.query).map (fun q => { s with query := q })
  | .guard =>
    (applyItems (fun g i => if i.group = 0 then setGuardField g i.offset i.value
      else setGuardTerm g i.group i.offset i.value) items (s.guardRec index)).map (fun g => writeGuard index g s)
  | .line =>
    (applyItems (fun l i => setLineField l i.offset i.value) items (s.line (lineOfIndex index))).map
      (fun l => writeLine (lineOfIndex index) l s)
  | .channel =>
    (applyItems (fun c i => setChannelField c i.offset i.value) items (s.channel index).cfg).map
      (fun c => writeChannel index c s)
  | .dispatch => (applyItems setDispatchItem items s.dispatch).map (fun d => writeDispatch d s)
  | .arbiterLevel =>
    (applyItems (fun a i => setLevelField a index i.offset i.value) items s.arbiter).map
      (fun a => { s with arbiter := a })
  | .attention =>
    (applyItems (fun r i => setAttentionField index r i.offset i.value) items (s.flag index)).map
      (fun r => writeAttention index r s)
  | .recorderConfig =>
    if index < 4 then
      (applyItems (fun c i => setComparatorField c i.offset i.value) items (s.recorder.table.comparator index)).map
        (fun c => { s with recorder := { s.recorder with
          table := { s.recorder.table with comparators := s.recorder.table.comparators.set index c } } })
    else
      (applyItems (fun r i => setRecorderField r i.offset i.value) items s.recorder.table).map
        (fun r => { s with recorder := { s.recorder with table := r } })
  | _ => none

/-- The table code of a WRITE or READ head. -/
def headTable (f : Frame) : Option Table := tableOfCode (headByte f 1)

/-- WRITE: the checks of R182 in their order, the fields stored together, and the reply. An operation code that the part
does not know is refused with BAD-VALUE here (R180, log entry 18). -/
def takeWrite (f : Frame) (s : State) : State :=
  if setupOp f ≠ 0 then replySetup f .badValue s
  else match headTable f with
  | none => replySetup f .badTable s
  | some t =>
    let items := writeItems f
    match writeRefusal s t (headWord f 2) items with
    | some code => replySetup f code s
    | none =>
      if headByte f 4 ≠ items.length then replySetup f .badValue s
      else if items = [] then replySetup f .done s
      else
        match writeTable t (headWord f 2) items s with
        | none => replySetup f .badValue s
        | some s1 => replySetup f .done s1

end Sys2Proof.Machine
end

