-- ==== Sys2Proof/Machine/Start.lean ====
section
/-! DEFINITION. START validation in its order (R188) and the START and STOP actions of the blocks (R190, R191). -/

namespace Sys2Proof.Machine

open Sys2Proof

/-! ### Validation -/

/-- The reasons of CHECK-FAILED, in the order of their first appearance in the table of R188 (R209). -/
inductive Reason where
  | overlap | holdsPart | collectorSide | pointUnconfigured | ownerNotField | duplicatePoint | limitOrder | safeRange
  | lineMissing | rampStep | termPoint | notSelf | samePoint | o2Cap | outputNotGuarded | turbineRange | lineMinimum
  | dispatchOwner | publishedShared
deriving DecidableEq, Repr

/-- Reason codes OVERLAP 0 to PUBLISHED-SHARED 18 (R209). -/
def Reason.code : Reason → Nat
  | .overlap => 0
  | .holdsPart => 1
  | .collectorSide => 2
  | .pointUnconfigured => 3
  | .ownerNotField => 4
  | .duplicatePoint => 5
  | .limitOrder => 6
  | .safeRange => 7
  | .lineMissing => 8
  | .rampStep => 9
  | .termPoint => 10
  | .notSelf => 11
  | .samePoint => 12
  | .o2Cap => 13
  | .outputNotGuarded => 14
  | .turbineRange => 15
  | .lineMinimum => 16
  | .dispatchOwner => 17
  | .publishedShared => 18

/-- A failed check: table code, record index and reason (R187). -/
structure Failure where
  table  : Nat
  index  : Nat
  reason : Reason
deriving DecidableEq, Repr

/-- The first check of a record, in its listed order, that fails. -/
def firstFailed (table index : Nat) : List (Bool × Reason) → Option Failure
  | [] => none
  | (ok, reason) :: rest => if ok then firstFailed table index rest else some ⟨table, index, reason⟩

/-- The first failure over the records 0 to n − 1 of a table, in ascending index. -/
def firstRecord (n : Nat) (check : Nat → Option Failure) : Option Failure := (List.range n).findSome? check

/-- Whether a point is configured. -/
def configuredPoint (s : State) (p : Nat) : Bool := decide (p < Config.points) && (s.point p).configured

/-- Whether a point is configured with owner SELF. -/
def selfPoint (s : State) (p : Nat) : Bool := configuredPoint s p && decide ((s.point p).owner = .self)

/-- Whether an optional point is absent or passes a check. -/
def absentOr (check : Nat → Bool) : Option Nat → Bool
  | none => true
  | some p => check p

/-- Whether two windows, both enabled, share a station. -/
def Window.overlaps (a b : Window) : Bool :=
  a.enable && b.enable && decide (a.base ≤ b.limit) && decide (b.base ≤ a.limit)

/-- Order 1: a window against the lower-numbered ones and the part's station. -/
def checkWindow (s : State) (i : Nat) : Option Failure :=
  let w := s.fwd.window i
  firstFailed 2 i
    [((List.range i).all (fun j => !w.overlaps (s.fwd.window j)), .overlap),
     (!w.holds s.part.station, .holdsPart)]

/-- Order 2: the collector station. -/
def checkPart (s : State) : Option Failure :=
  let c := s.part.collector
  firstFailed 0 0 [(decide (c = 0) || (!fieldSide s c && decide (c ≠ s.part.station)), .collectorSide)]

/-- Whether an output's owner is a field station inside an enabled window. -/
def fieldOwned (s : State) (p : Nat) : Bool :=
  match (s.point p).owner with
  | .self => false
  | .station n => fieldSide s n

/-- Whether an output's line record is configured. -/
def guardLineConfigured (s : State) (g : GuardRec) : Bool :=
  match g.line with
  | none => false
  | some l => (s.line l).configured

/-- Order 3: a configured guard record (R71). -/
def checkGuard (s : State) (i : Nat) : Option Failure :=
  let g := s.guardRec i
  if g.configured then
    firstFailed 5 i
      [(configuredPoint s g.point, .pointUnconfigured),
       (fieldOwned s g.point, .ownerNotField),
       ((List.range i).all (fun j => !((s.guardRec j).configured && decide ((s.guardRec j).point = g.point))),
         .duplicatePoint),
       (decide (g.low ≤ g.rhigh) && decide (g.rhigh ≤ g.high), .limitOrder),
       (decide (g.low ≤ g.safe) && decide (g.safe ≤ g.high) && (!g.restricted || decide (g.safe ≤ g.rhigh)), .safeRange),
       (!g.restricted || guardLineConfigured s g, .lineMissing),
       (decide (g.rate = 0) || decide (1000 ≤ g.rate * g.interval), .rampStep),
       (g.terms.all (fun t => !t.used || configuredPoint s t.point), .termPoint)]
  else none

/-- Order 4: a configured line (R97). -/
def checkLine (s : State) (i : Nat) : Option Failure :=
  let l := s.line (lineOfIndex i)
  if l.configured then
    firstFailed 6 i
      [(configuredPoint s l.opPoint, .pointUnconfigured), (absentOr (selfPoint s) l.statePoint, .notSelf)]
  else none

/-- Order 5: a configured channel (R97). -/
def checkChannel (s : State) (i : Nat) : Option Failure :=
  let c := (s.channel i).cfg
  if c.configured then
    firstFailed 7 i
      [((s.line c.line).configured, .lineMissing),
       (configuredPoint s c.pollutant && configuredPoint s c.o2 && absentOr (configuredPoint s) c.h2o,
         .pointUnconfigured),
       (decide (c.pollutant ≠ c.o2) && decide (some c.pollutant ≠ c.h2o), .samePoint),
       (decide (c.o2Ref < c.o2Cap), .o2Cap),
       (absentOr (selfPoint s) c.avgPoint, .notSelf)]
  else none

/-- The optional published points of the dispatch table (R119). -/
def DispatchCfg.published (c : DispatchCfg) : List (Option Nat) := [c.steamPoint, c.powerPoint, c.statePoint]

/-- Whether an output point has a configured guard record with owner DISPATCH or SHARED (R121). -/
def dispatchGuarded (s : State) (p : Nat) : Bool :=
  match guardOf s p with
  | none => false
  | some i => decide ((s.guardRec i).owner ≠ .supervisory)

/-- Whether a line's minimum fits under its reduced maximum (R121). -/
def LineShare.fits (l : LineShare) : Bool := decide (l.min ≤ l.max * l.warn / 100)

/-- Order 6: the configured dispatch table (R121). -/
def checkDispatch (s : State) : Option Failure :=
  let c := s.dispatch.cfg
  if c.configured then
    firstFailed 8 0
      [(configuredPoint s c.fa && configuredPoint s c.fb && configuredPoint s c.trip, .pointUnconfigured),
       (selfPoint s c.heat && selfPoint s c.grid && c.published.all (absentOr (selfPoint s)), .notSelf),
       (c.outputs.all (dispatchGuarded s), .outputNotGuarded),
       (decide c.outputs.Nodup, .duplicatePoint),
       (decide (c.turbineMin ≤ c.turbineMax), .turbineRange),
       (c.lineA.fits && c.lineB.fits, .lineMinimum)]
  else none

/-- Order 7: a configured guard record with owner DISPATCH (R121). -/
def checkDispatchOwner (s : State) (i : Nat) : Option Failure :=
  let g := s.guardRec i
  if g.configured && decide (g.owner = .dispatch) then
    firstFailed 5 i [(s.dispatch.cfg.configured && decide (g.point ∈ s.dispatch.cfg.outputs), .dispatchOwner)]
  else none

/-- A use of a published or demand point: table code, record index and point. -/
structure PointUse where
  table : Nat
  index : Nat
  point : Nat
deriving DecidableEq, Repr

/-- The uses of a line's state point. -/
def lineUses (s : State) (i : Nat) : List PointUse :=
  let l := s.line (lineOfIndex i)
  if l.configured then l.statePoint.toList.map (fun p => ⟨6, i, p⟩) else []

/-- The uses of a channel's average point. -/
def channelUses (s : State) (i : Nat) : List PointUse :=
  let c := (s.channel i).cfg
  if c.configured then c.avgPoint.toList.map (fun p => ⟨7, i, p⟩) else []

/-- The uses of the dispatch table: published points, then the demand points; one point that is both demands is one use
(log entry 22). -/
def dispatchUses (s : State) : List PointUse :=
  let c := s.dispatch.cfg
  if c.configured then
    (c.published.flatMap Option.toList ++ [c.heat, c.grid].dedup).map (fun p => ⟨8, 0, p⟩)
  else []

/-- Order 8: the first use of a point that an earlier use already has, lines before channels before dispatch. -/
def firstShared : List PointUse → List PointUse → Option Failure
  | _, [] => none
  | seen, u :: rest =>
    if seen.any (fun v => decide (v.point = u.point)) then some ⟨u.table, u.index, .publishedShared⟩
    else firstShared (seen ++ [u]) rest

/-- Order 8 (R97, R121). -/
def checkShared (s : State) : Option Failure :=
  firstShared [] ((List.range 2).flatMap (lineUses s) ++ (List.range 16).flatMap (channelUses s) ++ dispatchUses s)

/-- START validation: the first check to fail, in the order of R188. -/
def validate (s : State) : Option Failure :=
  firstRecord 4 (checkWindow s) <|> checkPart s <|> firstRecord Config.guards (checkGuard s) <|>
    firstRecord 2 (checkLine s) <|> firstRecord Config.channels (checkChannel s) <|> checkDispatch s <|>
    firstRecord Config.guards (checkDispatchOwner s) <|> checkShared s

/-! ### START and STOP -/

/-- The part enters RUN with a signature (R187, R190). -/
def enterRun (signature : Nat) (s : State) : State :=
  { s with part := { s.part with state := .run, signature := signature } }

/-- The dispatch unit's START action: RUN or HOLD when it is enabled and configured (R123). -/
def dispatchStart (s : State) : State :=
  if s.dispatch.enable && s.dispatch.cfg.configured then settle (enterFromStopped s) else s

/-- A START whose validation passed: signature, RUN, and the blocks' START actions in their order (R190). -/
def startActions (s : State) : State := dispatchStart (emissionStart (guardStart (enterRun (signatureOf s) s)))

/-- The data of a CHECK-FAILED reply: table code, index, reason code (R209). -/
def failureBytes (e : Failure) : List Byte := b1 e.table ++ b2 e.index ++ b1 e.reason.code

/-- The DONE of a SETUP operation that has acted; what it placed appeared before its reply and is served first (R35, R59,
R180). -/
def replyDone (f : Frame) (s : State) : State := replySetup f .done (serve s)

/-- START (R187, R190). -/
def takeStart (f : Frame) (s : State) : State :=
  match s.part.state with
  | .run => replySetup f .refusedState s
  | .setup =>
    match validate s with
    | some e => placeReply (setupStatus s f .checkFailed 0 0 (failureBytes e)) .plain s
    | none =>
      let s1 := serve (startActions s)
      placeReply (setupStatus s1 f .done 0 0 (b4 s1.part.signature)) .plain s1

/-- The recorder's STOP action: with freeze-on-STOP, an ARMED or POST recorder freezes (R160). -/
def recorderStop (s : State) : State :=
  if s.recorder.cfg.freezeStop && (decide (s.recorder.state = .armed) || decide (s.recorder.state = .post)) then
    freezeRecorder s
  else s

/-- The part enters SETUP and each block takes its STOP action, in the order of R191. -/
def stopActions (s : State) : State :=
  recorderStop (settle (enterStopped (emissionStop (guardStop { s with part := { s.part with state := .setup } }))))

/-- STOP (R191). -/
def takeStop (f : Frame) (s : State) : State :=
  match s.part.state with
  | .setup => replySetup f .refusedState s
  | .run => replyDone f (stopActions s)

end Sys2Proof.Machine
end

