-- ==== Sys2Proof/Machine/Setup.lean ====
section
/-! DEFINITION. The SETUP operations other than WRITE, START and STOP: READ (R184), the clock and lock (R192, R193),
substitution (R10, R11), RESET (R194), the guard, attention, port, recorder and dispatch commands, and COUNTER-CLEAR
(R186). Each acts and places its one STATUS reply (R180). -/

namespace Sys2Proof.Machine

open Sys2Proof

/-! ### READ -/

/-- The data bytes of a READ reply: 7 blocks (R209). -/
def readRoom : Nat := 42

/-- The records of a READ from an index upward: up to `n`, ending before a multiple of 32, at a refused index, or where
the room is used up (R184). -/
def readRecords (s : State) (t : Table) (group : Nat) : Nat → Nat → Nat → List (List Byte)
  | 0, _, _ => []
  | n + 1, i, room =>
    let r := recordBytes s t group i
    if t.holds i && decide (r.length ≤ room) then
      r :: (if (i + 1) % 32 = 0 then [] else readRecords s t group n (i + 1) (room - r.length))
    else []

/-- The lowest index from one upward that a READ would accept, or END, 65535 (R184, R209). -/
def nextIndex (t : Table) (i : Nat) : Nat := (((List.range t.size).drop i).find? t.holds).getD 65535

/-- The DONE reply of a READ: next index, records returned and the records (R184, R209). -/
def readReply (s : State) (f : Frame) (t : Table) (group first count : Nat) : Frame :=
  let rs := readRecords s t group count first readRoom
  setupStatus s f .done (nextIndex t (first + rs.length)) rs.length rs.flatten

/-- READ (R184). Where several refusals apply, table and group are judged first, then the count, then the first index
(R184 gives no order: DEDUCED, log entry 19). -/
def takeRead (f : Frame) (s : State) : State :=
  match headTable f with
  | none => replySetup f .badTable s
  | some t =>
    let group := headByte f 4
    let count := headByte f 5
    let first := headWord f 2
    if t.groups ≤ group then replySetup f .badTable s
    else if ¬(1 ≤ count ∧ count ≤ 8) then replySetup f .badValue s
    else if !t.holds first then replySetup f .badIndex s
    else placeReply (readReply s f t group first count) .plain s

/-! ### TIME and LOCK -/

/-- The distance beyond which a locked TIME is refused (R192). -/
def lockLimit : Nat := 60000

/-- The clock takes a new reading, TIME-UNSET ends, and the emission unit acts on the time-set event (R19). -/
def setClock (day ms : Nat) (s : State) : State :=
  emissionTimeSet (setCondition .timeUnset false
    { s with clock := { day := day, ms := ms, unset := false, handed := periodOf day ms } })

/-- TIME (R192). -/
def takeTime (f : Frame) (s : State) : State :=
  let day := natAt f.body 6 2
  let ms := natAt f.body 8 4
  if f.count < 2 ∨ Config.msPerDay ≤ ms then replySetup f .badValue s
  else if s.part.lock && !s.clock.unset && decide (lockLimit < clockDistance s.clock.day s.clock.ms day ms) then
    replySetup f .refusedLocked s
  else replyDone f (setClock day ms s)

/-- LOCK (R193). -/
def takeLock (f : Frame) (s : State) : State := replySetup f .done { s with part := { s.part with lock := true } }

/-! ### Substitution -/

/-- SUBSTITUTE (R10). -/
def takeSubstitute (f : Frame) (s : State) : State :=
  let p := natAt f.body 6 2
  if f.count < 2 then replySetup f .badValue s
  else if configuredPoint s p then replyDone f (settle (substitutePoint p (valueAt f.body 8) s))
  else replySetup f .unknownPoint s

/-- UNSUBSTITUTE (R11). -/
def takeUnsubstitute (f : Frame) (s : State) : State :=
  let p := headWord f 1
  if configuredPoint s p then
    replyDone f (if (s.point p).subActive then settle (unsubstitutePoint p s) else s)
  else replySetup f .unknownPoint s

/-! ### RESET and RELEASE -/

/-- RESET: its DONE carries the reset, which waits for it to complete (R194). -/
def takeReset (f : Frame) (s : State) : State :=
  placeReply (setupStatus s f .done 0 0 []) .resetDone
    { s with part := { s.part with pendingResets := s.part.pendingResets + 1 } }

/-- RELEASE (R75). -/
def takeRelease (f : Frame) (s : State) : State :=
  let i := headWord f 1
  if decide (i < Config.guards) && (s.guardRec i).configured then
    if (s.guardRec i).state = .tripped then replySetup f .stillActive s
    else replySetup f .done (releaseOutput i s)
  else replySetup f .badIndex s

/-! ### CLEAR and FORCE -/

/-- Whether CLEAR leaves a named flag set: a CONDITION flag, not forced, whose condition holds (R205). -/
def FlagRec.staysSet (r : FlagRec) (condition : Bool) : Bool := r.isSet && !r.forced && condition && r.cond

/-- CLEAR of one named flag: it clears with its forced mark unless it stays set (R205). -/
def clearFlag (i : Nat) (s : State) : State :=
  s.modFlag i (fun r => if r.staysSet (isCondition i) then r else { r with isSet := false, forced := false })

/-- The flag indexes that a flag set names (R208). -/
def namedFlags (set : Nat) : List Nat := (List.range flagCount).filter (fun i => set.testBit i)

/-- CLEAR (R205). -/
def takeClear (f : Frame) (s : State) : State :=
  let set := natAt f.body 6 4
  if f.count < 2 ∨ 2 ^ flagCount ≤ set then replySetup f .badValue s
  else
    let named := namedFlags set
    let left := named.filter (fun i => (s.flag i).staysSet (isCondition i))
    let s1 := named.foldl (fun t i => clearFlag i t) s
    placeReply (setupStatus s1 f .done 0 0 (b4 (left.map (2 ^ ·)).sum)) .plain s1

/-- FORCE of a flag: set and marked, its notice placed, and for RECORDER-FROZEN the recorder's trigger (R206). -/
def forceFlag (i : Nat) (s : State) : State :=
  let s1 := placeNotice i (s.modFlag i (fun r => { r with isSet := true, forced := true }))
  if i = Flag.recorderFrozen.index then markerTrigger none none .force s1 else s1

/-- FORCE (R206). -/
def takeForce (f : Frame) (s : State) : State :=
  let i := headByte f 1
  if flagCount ≤ i then replySetup f .badValue s else replyDone f (forceFlag i s)

/-! ### Port commands -/

/-- The port of a port code (R209). -/
def portOfCode : Nat → Option Port
  | 0 => some .sPort
  | 1 => some .fPort
  | _ => none

/-- The rate of a rate code (R209). -/
def rateOfCode : Nat → Option Rate
  | 0 => some .r2_5
  | 1 => some .r5
  | 2 => some .r10
  | 3 => some .r20
  | _ => none

/-- A taken PORT-RESTART or PORT-RATE: the F-port restarts at once; the S-port's restart is held until its own DONE
completes (R173, R174). -/
def commandRestart (f : Frame) (p : Port) (rate : Option Rate) (s : State) : State :=
  match p with
  | .fPort => replySetup f .done (restartPort .fPort rate s)
  | .sPort =>
    placeReply (setupStatus s f .done 0 0 []) .restartDone
      { s with sPort := { s.sPort with restarts := s.sPort.restarts ++ [rate] } }

/-- PORT-RESTART (R173). -/
def takePortRestart (f : Frame) (s : State) : State :=
  match portOfCode (headByte f 1) with
  | none => replySetup f .badValue s
  | some p => commandRestart f p none s

/-- PORT-RATE (R164). -/
def takePortRate (f : Frame) (s : State) : State :=
  match portOfCode (headByte f 1), rateOfCode (headByte f 2) with
  | some p, some r => commandRestart f p (some r) s
  | _, _ => replySetup f .badValue s

/-! ### REARM -/

/-- The recorder is emptied and armed; a FROZEN one's condition ends (R159). The configuration table as it now stands
governs from here (R150). -/
def rearmRecorder (s : State) : State :=
  setCondition .recorderFrozen false { s with recorder := { s.recorder with
    state := .armed, buffer := [], post := 0, number := 0, triggers := 0, missed := 0, cfg := s.recorder.table } }

/-- REARM (R159). -/
def takeRearm (f : Frame) (s : State) : State := replySetup f .done (rearmRecorder s)

/-! ### DISPATCH -/

/-- DISPATCH ENABLE; an unknown sub-command is refused with BAD-VALUE here (R127, log entry 18). -/
def takeEnable (f : Frame) (s : State) : State :=
  if headByte f 1 ≠ 0 then replySetup f .badValue s
  else
    match s.dispatch.state with
    | .stopped =>
      let s1 := { s with dispatch := { s.dispatch with enable := true } }
      replyDone f
        (if s1.part.state = .run ∧ s1.dispatch.cfg.configured = true then settle (enterFromStopped s1) else s1)
    | _ => replySetup f .done s

/-- DISPATCH DISABLE (R126, R127). The enable becomes no in every state; the cells of RUN and HOLD do not name it
(DEDUCED, log entry 30). -/
def takeDisable (f : Frame) (s : State) : State :=
  replyDone f (settle (enterStopped { s with dispatch := { s.dispatch with enable := false } }))

/-- DISPATCH RUN (R125, R127). -/
def takeDispatchRun (f : Frame) (s : State) : State :=
  match s.dispatch.state with
  | .stopped => replySetup f .refusedState s
  | .run => replySetup f .done s
  | .hold => replyDone f (settle (runCommanded s))

/-- DISPATCH HOLD (R124, R127). -/
def takeDispatchHold (f : Frame) (s : State) : State :=
  match s.dispatch.state with
  | .stopped => replySetup f .refusedState s
  | _ => replyDone f (settle (holdCause .command s))

/-! ### COUNTER-CLEAR -/

/-- The groups of COUNTER-CLEAR, in the order of their codes (R186). -/
inductive CounterGroup where
  | portS | portF | forwarding | points | query | arbiter | guard | channels | dispatch | recorder
deriving DecidableEq, Repr

/-- Every group, in the order of R186. -/
def allGroups : List CounterGroup :=
  [.portS, .portF, .forwarding, .points, .query, .arbiter, .guard, .channels, .dispatch, .recorder]

/-- The groups that a group code clears: PORT-S 0 to RECORDER 9, ALL 10 (R186, R209). -/
def groupsOfCode (n : Nat) : Option (List CounterGroup) :=
  if n = 10 then some allGroups else (allGroups[n]?).map (fun g => [g])

/-- Every counter of a group becomes 0 (R186). -/
def clearGroup (s : State) : CounterGroup → State
  | .portS => { s with sPort := { s.sPort with counters := .zero } }
  | .portF => { s with fPort := { s.fPort with counters := .zero } }
  | .forwarding => { s with fwd := { s.fwd with counters := .zero } }
  | .points => { s with points := s.points.map (fun p => { p with foreign := 0 }) }
  | .query => { s with query := { s.query with counters := ⟨0, 0, 0, 0, 0⟩ } }
  | .arbiter => { s with arbiter := { s.arbiter with grants := ⟨0, 0, 0, 0, 0⟩ } }
  | .guard =>
    { s with guard := { s.guard with
        recs := s.guard.recs.map (fun g => { g with clamped := 0, held := 0, owned := 0, trips := 0 }) } }
  | .channels =>
    { s with emission := { s.emission with
        channels := s.emission.channels.map (fun c => { c with run := { c.run with concClamp := 0, countFull := 0 } }) } }
  | .dispatch => { s with dispatch := { s.dispatch with cycles := 0, holds := 0 } }
  | .recorder => { s with recorder := { s.recorder with triggers := 0, missed := 0 } }

/-- COUNTER-CLEAR (R186). -/
def takeCounterClear (f : Frame) (s : State) : State :=
  match groupsOfCode (headByte f 1) with
  | none => replySetup f .badValue s
  | some gs => replySetup f .done (gs.foldl clearGroup s)

end Sys2Proof.Machine
end

