-- ==== Sys2Proof/Machine/PortEvents.lean ====
section
/-! DEFINITION. The meanings of the power, line and transmitter events: POWER_ON, POWER_ON_RESET, FRAME_RECEIVED,
SYMBOL_RECEIVED, PAUSE_RECEIVED, RESUME_RECEIVED, PAUSE_TIMER_EXPIRY, LINK_DOWN_EXPIRY and FRAME_COMPLETES. -/

namespace Sys2Proof.Machine

open Sys2Proof

/-- POWER_ON (R196). -/
def execPowerOn (straps : Nat) (s : State) : Host.Outcome State Fault Refusal := .next (powerOnWith straps s)

/-- POWER_ON_RESET (R196). -/
def execPowerOnReset (s : State) : Host.Outcome State Fault Refusal := .next (holdInReset s)

/-- FRAME_RECEIVED: the frame's bytes are symbols received (R165, R171), at whose first a port becomes ACTIVE; the
delimited frame is then checked and stored or dropped (R166 to R169), but for one that a restart discarded (R165). -/
def execFrameReceived (p : Port) (cutOff : Bool) (bytes : List Byte) (s : State) : Host.Outcome State Fault Refusal :=
  .next (whileAwake (fun s => receiveFrame p cutOff bytes (serve (symbolArrives p s))) s)

/-- SYMBOL_RECEIVED (R165, R171). -/
def execSymbolReceived (p : Port) (y : LineSymbol) (s : State) : Host.Outcome State Fault Refusal :=
  .next (whileAwake (fun s => symbolArrives p (delimit p y s)) s)

/-- PAUSE_RECEIVED (R170); a link symbol cuts off a frame being received (R165), whose notice is work appearing before the
port is PAUSED (log entry 17). -/
def execPauseReceived (p : Port) (s : State) : Host.Outcome State Fault Refusal :=
  .next (whileAwake (fun s => pauseArrives p (serve (cutOffReception p s))) s)

/-- RESUME_RECEIVED (R170): in PAUSED the pause ends; in every state it is a symbol received (R171) and a link symbol that
cuts off a frame being received (R165). -/
def execResumeReceived (p : Port) (s : State) : Host.Outcome State Fault Refusal :=
  .next (whileAwake (fun s => symbolArrives p (endPause p (cutOffReception p s))) s)

/-- PAUSE_TIMER_EXPIRY (R170). -/
def execPauseTimerExpiry (p : Port) (s : State) : Host.Outcome State Fault Refusal :=
  .next (atExpiry (s.port p).pauseTimer (endPause p) s)

/-- LINK_DOWN_EXPIRY (R171). -/
def execLinkDownExpiry (p : Port) (s : State) : Host.Outcome State Fault Refusal :=
  .next (atExpiry (s.port p).linkTimer (linkDown p) s)

/-- FRAME_COMPLETES (R172); with no frame in flight nothing completes. -/
def execFrameCompletes (p : Port) (s : State) : Host.Outcome State Fault Refusal :=
  .next (match (s.port p).tx with
    | none => s
    | some snd => whileAwake (completeFrame p snd) s)

end Sys2Proof.Machine
end

