-- ==== Sys2Proof/Machine/FrameEvents.lean ====
section
/-! DEFINITION. The meanings of the frames that the forwarding unit takes and that are no SETUP operation (chapters 2 and
3, R13, R16). Each takes place when its frame is taken (`takeFrame`). -/

namespace Sys2Proof.Machine

open Sys2Proof

/-- ADDRESS_CONFLICT (R24). -/
def execAddressConflict (p : Port) (f : Frame) (s : State) : Host.Outcome State Fault Refusal :=
  .next (takeFrame p f (.addressConflict p f) conflict s)

/-- S_PORT_FRAME_DROPPED (R25, R26). -/
def execSPortFrameDropped (f : Frame) (s : State) : Host.Outcome State Fault Refusal :=
  .next (takeFrame .sPort f (.sPortFrameDropped f) (dropFromS f) s)

/-- ORDER_TO_PART (R13). -/
def execOrderToPart (f : Frame) (s : State) : Host.Outcome State Fault Refusal :=
  .next (takeFrame .sPort f (.orderToPart f) (takeSelfOrder f) s)

/-- QUERY_TO_PART (R16). -/
def execQueryToPart (f : Frame) (s : State) : Host.Outcome State Fault Refusal :=
  .next (takeFrame .sPort f (.queryToPart f) (takeSelfQuery f) s)

/-- ORDER_FRAME_ACCEPTANCE (R38 to R40). -/
def execOrderFrameAcceptance (f : Frame) (s : State) : Host.Outcome State Fault Refusal :=
  .next (takeFrame .sPort f (.orderFrameAcceptance f) (acceptOrders f) s)

/-- PASS_THROUGH_ENTRY (R41). -/
def execPassThroughEntry (f : Frame) (s : State) : Host.Outcome State Fault Refusal :=
  .next (takeFrame .sPort f (.passThroughEntry f) (passThrough f) s)

/-- SUPERVISORY_QUERY (R45, R46, R53). -/
def execSupervisoryQuery (f : Frame) (s : State) : Host.Outcome State Fault Refusal :=
  .next (takeFrame .sPort f (.supervisoryQuery f) (takeQuery f) s)

/-- FIELD_REPORT (R27). -/
def execFieldReport (f : Frame) (s : State) : Host.Outcome State Fault Refusal :=
  .next (takeFrame .fPort f (.fieldReport f) (takeReport f) s)

/-- FIELD_ANSWER (R49, R50). -/
def execFieldAnswer (f : Frame) (s : State) : Host.Outcome State Fault Refusal :=
  .next (takeFrame .fPort f (.fieldAnswer f) (takeAnswer f) s)

/-- UP_PASS_THROUGH (R29). -/
def execUpPassThrough (f : Frame) (s : State) : Host.Outcome State Fault Refusal :=
  .next (takeFrame .fPort f (.upPassThrough f) (queueUpPass f) s)

/-- FIELD_FRAME_DROPPED (R27, R28). -/
def execFieldFrameDropped (f : Frame) (s : State) : Host.Outcome State Fault Refusal :=
  .next (takeFrame .fPort f (.fieldFrameDropped f) (dropFromF f) s)

end Sys2Proof.Machine
end

