-- ==== Sys2Proof/Machine/TimerEvents.lean ====
section
/-! DEFINITION. The meanings of the timer expiries of the point table, the query table, the guard and the dispatch unit,
and of the period boundary of the plant clock. -/

namespace Sys2Proof.Machine

open Sys2Proof

/-- FRESHNESS_EXPIRY (R9). -/
def execFreshnessExpiry (p : Nat) (s : State) : Host.Outcome State Fault Refusal :=
  .next (atExpiry (s.point p).timer (fun s => settle (expireFreshness p s)) s)

/-- ANSWER_TIMER_EXPIRY (R51). -/
def execAnswerTimerExpiry (i : Nat) (s : State) : Host.Outcome State Fault Refusal :=
  .next (atExpiry (s.queryEntry i).answerTimer (answerExpires i) s)

/-- DISCARD_TIMER_EXPIRY (R52). -/
def execDiscardTimerExpiry (i : Nat) (s : State) : Host.Outcome State Fault Refusal :=
  .next (atExpiry (s.queryEntry i).discardTimer (discardExpires i) s)

/-- RAMP_TIMER_EXPIRY (R81). -/
def execRampTimerExpiry (i : Nat) (s : State) : Host.Outcome State Fault Refusal :=
  .next (atExpiry (s.guardRec i).rampTimer (rampExpires i) s)

/-- PERIOD_BOUNDARY (R18, R104); a boundary that the clock has not reached is none, and a TIME taken first leaves none
(R19). -/
def execPeriodBoundary (s : State) : Host.Outcome State Fault Refusal :=
  .next (if boundaryDue s then whileAwake periodBoundaryEvent s else s)

/-- INPUT_HOLD_EXPIRY (R129). -/
def execInputHoldExpiry (i : ReqInput) (s : State) : Host.Outcome State Fault Refusal :=
  .next (atExpiry (s.dispatch.input i).timer (inputHoldExpires i) s)

/-- CYCLE_TIMER_EXPIRY (R132). -/
def execCycleTimerExpiry (s : State) : Host.Outcome State Fault Refusal :=
  .next (atExpiry s.dispatch.timer cycleTimerExpires s)

end Sys2Proof.Machine
end

