-- ==== Sys2Proof/Machine/SetupCommands.lean ====
section
/-! DEFINITION. The meanings of the SETUP operations: each takes place when its SETUP frame is taken from the S-port
(R180). -/

namespace Sys2Proof.Machine

open Sys2Proof

/-- WRITE (R182). -/
def execWrite (f : Frame) (s : State) : Host.Outcome State Fault Refusal :=
  .next (takeFrame .sPort f (.write f) (takeWrite f) s)

/-- READ (R184). -/
def execRead (f : Frame) (s : State) : Host.Outcome State Fault Refusal :=
  .next (takeFrame .sPort f (.read f) (takeRead f) s)

/-- START (R187). -/
def execStart (f : Frame) (s : State) : Host.Outcome State Fault Refusal :=
  .next (takeFrame .sPort f (.start f) (takeStart f) s)

/-- STOP (R191). -/
def execStop (f : Frame) (s : State) : Host.Outcome State Fault Refusal :=
  .next (takeFrame .sPort f (.stop f) (takeStop f) s)

/-- TIME (R192). -/
def execTime (f : Frame) (s : State) : Host.Outcome State Fault Refusal :=
  .next (takeFrame .sPort f (.time f) (takeTime f) s)

/-- SUBSTITUTE (R10). -/
def execSubstitute (f : Frame) (s : State) : Host.Outcome State Fault Refusal :=
  .next (takeFrame .sPort f (.substitute f) (takeSubstitute f) s)

/-- UNSUBSTITUTE (R11). -/
def execUnsubstitute (f : Frame) (s : State) : Host.Outcome State Fault Refusal :=
  .next (takeFrame .sPort f (.unsubstitute f) (takeUnsubstitute f) s)

/-- LOCK (R193). -/
def execLock (f : Frame) (s : State) : Host.Outcome State Fault Refusal :=
  .next (takeFrame .sPort f (.lock f) (takeLock f) s)

/-- RESET (R194). -/
def execReset (f : Frame) (s : State) : Host.Outcome State Fault Refusal :=
  .next (takeFrame .sPort f (.reset f) (takeReset f) s)

/-- RELEASE (R75). -/
def execRelease (f : Frame) (s : State) : Host.Outcome State Fault Refusal :=
  .next (takeFrame .sPort f (.release f) (takeRelease f) s)

/-- CLEAR (R205). -/
def execClear (f : Frame) (s : State) : Host.Outcome State Fault Refusal :=
  .next (takeFrame .sPort f (.clear f) (takeClear f) s)

/-- FORCE (R206). -/
def execForce (f : Frame) (s : State) : Host.Outcome State Fault Refusal :=
  .next (takeFrame .sPort f (.force f) (takeForce f) s)

/-- PORT-RESTART (R173). -/
def execPortRestart (f : Frame) (s : State) : Host.Outcome State Fault Refusal :=
  .next (takeFrame .sPort f (.portRestart f) (takePortRestart f) s)

/-- PORT-RATE (R164). -/
def execPortRate (f : Frame) (s : State) : Host.Outcome State Fault Refusal :=
  .next (takeFrame .sPort f (.portRate f) (takePortRate f) s)

/-- REARM (R159). -/
def execRearm (f : Frame) (s : State) : Host.Outcome State Fault Refusal :=
  .next (takeFrame .sPort f (.rearm f) (takeRearm f) s)

/-- DISPATCH ENABLE (R127). -/
def execDispatchEnable (f : Frame) (s : State) : Host.Outcome State Fault Refusal :=
  .next (takeFrame .sPort f (.dispatchEnable f) (takeEnable f) s)

/-- DISPATCH DISABLE (R127). -/
def execDispatchDisable (f : Frame) (s : State) : Host.Outcome State Fault Refusal :=
  .next (takeFrame .sPort f (.dispatchDisable f) (takeDisable f) s)

/-- DISPATCH RUN (R127). -/
def execDispatchRun (f : Frame) (s : State) : Host.Outcome State Fault Refusal :=
  .next (takeFrame .sPort f (.dispatchRun f) (takeDispatchRun f) s)

/-- DISPATCH HOLD (R127). -/
def execDispatchHold (f : Frame) (s : State) : Host.Outcome State Fault Refusal :=
  .next (takeFrame .sPort f (.dispatchHold f) (takeDispatchHold f) s)

/-- COUNTER-CLEAR (R186). -/
def execCounterClear (f : Frame) (s : State) : Host.Outcome State Fault Refusal :=
  .next (takeFrame .sPort f (.counterClear f) (takeCounterClear f) s)

end Sys2Proof.Machine
end

