-- ==== Sys2Proof/Machine/Dispatch.lean ====
section
/-! DEFINITION. The dispatch of commands to their meanings, one arm for each constructor of Instr. -/

namespace Sys2Proof.Machine

def exec (i : Instr) (s : State) : Host.Outcome State Fault Refusal :=
  match i with
  | .powerOn straps => Sys2Proof.Machine.execPowerOn straps s
  | .frameReceived port cutOff bytes => Sys2Proof.Machine.execFrameReceived port cutOff bytes s
  | .symbolReceived port symbol => Sys2Proof.Machine.execSymbolReceived port symbol s
  | .pauseReceived port => Sys2Proof.Machine.execPauseReceived port s
  | .resumeReceived port => Sys2Proof.Machine.execResumeReceived port s
  | .pauseTimerExpiry port => Sys2Proof.Machine.execPauseTimerExpiry port s
  | .linkDownExpiry port => Sys2Proof.Machine.execLinkDownExpiry port s
  | .frameCompletes port => Sys2Proof.Machine.execFrameCompletes port s
  | .addressConflict port frame => Sys2Proof.Machine.execAddressConflict port frame s
  | .sPortFrameDropped frame => Sys2Proof.Machine.execSPortFrameDropped frame s
  | .orderToPart frame => Sys2Proof.Machine.execOrderToPart frame s
  | .queryToPart frame => Sys2Proof.Machine.execQueryToPart frame s
  | .orderFrameAcceptance frame => Sys2Proof.Machine.execOrderFrameAcceptance frame s
  | .passThroughEntry frame => Sys2Proof.Machine.execPassThroughEntry frame s
  | .supervisoryQuery frame => Sys2Proof.Machine.execSupervisoryQuery frame s
  | .fieldReport frame => Sys2Proof.Machine.execFieldReport frame s
  | .fieldAnswer frame => Sys2Proof.Machine.execFieldAnswer frame s
  | .upPassThrough frame => Sys2Proof.Machine.execUpPassThrough frame s
  | .fieldFrameDropped frame => Sys2Proof.Machine.execFieldFrameDropped frame s
  | .freshnessExpiry point => Sys2Proof.Machine.execFreshnessExpiry point s
  | .answerTimerExpiry entry => Sys2Proof.Machine.execAnswerTimerExpiry entry s
  | .discardTimerExpiry entry => Sys2Proof.Machine.execDiscardTimerExpiry entry s
  | .rampTimerExpiry output => Sys2Proof.Machine.execRampTimerExpiry output s
  | .periodBoundary => Sys2Proof.Machine.execPeriodBoundary s
  | .inputHoldExpiry input => Sys2Proof.Machine.execInputHoldExpiry input s
  | .cycleTimerExpiry => Sys2Proof.Machine.execCycleTimerExpiry s
  | .write frame => Sys2Proof.Machine.execWrite frame s
  | .read frame => Sys2Proof.Machine.execRead frame s
  | .start frame => Sys2Proof.Machine.execStart frame s
  | .stop frame => Sys2Proof.Machine.execStop frame s
  | .time frame => Sys2Proof.Machine.execTime frame s
  | .substitute frame => Sys2Proof.Machine.execSubstitute frame s
  | .unsubstitute frame => Sys2Proof.Machine.execUnsubstitute frame s
  | .lock frame => Sys2Proof.Machine.execLock frame s
  | .reset frame => Sys2Proof.Machine.execReset frame s
  | .release frame => Sys2Proof.Machine.execRelease frame s
  | .clear frame => Sys2Proof.Machine.execClear frame s
  | .force frame => Sys2Proof.Machine.execForce frame s
  | .portRestart frame => Sys2Proof.Machine.execPortRestart frame s
  | .portRate frame => Sys2Proof.Machine.execPortRate frame s
  | .rearm frame => Sys2Proof.Machine.execRearm frame s
  | .dispatchEnable frame => Sys2Proof.Machine.execDispatchEnable frame s
  | .dispatchDisable frame => Sys2Proof.Machine.execDispatchDisable frame s
  | .dispatchRun frame => Sys2Proof.Machine.execDispatchRun frame s
  | .dispatchHold frame => Sys2Proof.Machine.execDispatchHold frame s
  | .counterClear frame => Sys2Proof.Machine.execCounterClear frame s
  | .powerOnReset => Sys2Proof.Machine.execPowerOnReset s

end Sys2Proof.Machine
end

