-- ==== Sys2Proof/Machine/Idle.lean ====
section
/-! DEFINITION. What the part does by itself when no command waits: it takes the frames that can be taken, completes the
frames in flight, and lets a millisecond pass, after which the timers that are due expire (DESIGN CHOICE, log entry
2). -/

namespace Sys2Proof.Machine

open Sys2Proof

/-- The command that a port's head frame is, if it can be taken now (R23). -/
def headCommand (p : Port) (s : State) : List Instr :=
  match (s.port p).rx with
  | [] => []
  | f :: _ => if takesFrame p f (route p s f) s then [route p s f] else []

/-- The completion of a port's frame in flight. -/
def completion (p : Port) (s : State) : List Instr := if (s.port p).tx.isSome then [.frameCompletes p] else []

/-- The events that the part's present state brings without time passing: takes, then completions. -/
def readyCommands (s : State) : List Instr :=
  headCommand .sPort s ++ headCommand .fPort s ++ completion .sPort s ++ completion .fPort s

/-- The expiry commands of the indexes below a number whose timer is due. -/
def dueOf (now n : Nat) (timer : Nat → Option Nat) (c : Nat → Instr) : List Instr :=
  ((List.range n).filter (fun i => isDue now (timer i))).map c

/-- The expiry command of one timer, if it is due. -/
def dueOne (now : Nat) (timer : Option Nat) (c : Instr) : List Instr := if isDue now timer then [c] else []

/-- The period boundary that the clock has reached and not yet handed (R18). -/
def dueBoundary (s : State) : List Instr := if boundaryDue s then [.periodBoundary] else []

/-- The events that are due: the period boundary, then the timers, block by block (R18, R20). -/
def dueCommands (s : State) : List Instr :=
  dueBoundary s ++
    dueOf s.now Config.points (fun i => (s.point i).timer) .freshnessExpiry ++
    dueOf s.now 8 (fun i => (s.queryEntry i).answerTimer) .answerTimerExpiry ++
    dueOf s.now 8 (fun i => (s.queryEntry i).discardTimer) .discardTimerExpiry ++
    dueOf s.now Config.guards (fun i => (s.guardRec i).rampTimer) .rampTimerExpiry ++
    dueOne s.now s.dispatch.fa.timer (.inputHoldExpiry .fa) ++ dueOne s.now s.dispatch.fb.timer (.inputHoldExpiry .fb) ++
    dueOne s.now s.dispatch.trip.timer (.inputHoldExpiry .trip) ++ dueOne s.now s.dispatch.timer .cycleTimerExpiry ++
    dueOne s.now s.sPort.pauseTimer (.pauseTimerExpiry .sPort) ++ dueOne s.now s.fPort.pauseTimer (.pauseTimerExpiry .fPort) ++
    dueOne s.now s.sPort.linkTimer (.linkDownExpiry .sPort) ++ dueOne s.now s.fPort.linkTimer (.linkDownExpiry .fPort)

/-- The part with an empty queue: held in reset it idles; otherwise what is ready becomes pending, an owed cycle occasion
is acted on, or one millisecond passes and what is then due becomes pending (log entries 2 and 12). -/
def idle (s : State) : State :=
  if s.held then s
  else if readyCommands s ≠ [] then { s with pending := readyCommands s }
  else if s.dispatch.owed then settle s
  else { elapse 1 s with pending := dueCommands (elapse 1 s) }

end Sys2Proof.Machine
end

