-- ==== Sys2Proof/Safety.lean ====
section
/-! DEFINITION. What counts as a safe state of the part, and the frames that the claims use: the bounds that the spec
gives its queues, buffers, rings and numbers (`Bounded`, which every step keeps); how a frame comes to be taken (`Takes`);
and what an event of the plant, and the transmitter-free events, leave as it stands. -/

namespace Sys2Proof.Machine

open Sys2Proof

/-! ### Configuration: the fields that WRITE writes, with every runtime field blanked -/

/-- The configuration fields of a point record (R1). -/
def Point.plan (p : Point) : Point :=
  { Point.blank with
    configured := p.configured, owner := p.owner, cls := p.cls, limit := p.limit, low := p.low, high := p.high }

/-- The configuration fields of a guard record with its terms (R67, R68). -/
def GuardRec.plan (g : GuardRec) : GuardRec :=
  { GuardRec.blank with
    configured := g.configured, point := g.point, line := g.line, restricted := g.restricted, owner := g.owner,
    low := g.low, rhigh := g.rhigh, high := g.high, safe := g.safe, action := g.action, latching := g.latching,
    rate := g.rate, interval := g.interval, terms := g.terms.map (fun t => { t with active := false }) }

/-- The configuration fields of a line record (R91). -/
def LineRec.plan (l : LineRec) : LineRec :=
  { LineRec.powerOn with configured := l.configured, opPoint := l.opPoint, statePoint := l.statePoint }

/-- The configuration fields of a channel record (R94). -/
def Channel.plan (c : Channel) : Channel := { Channel.powerOn with cfg := c.cfg }

/-- The guard's configuration (R67). -/
def Guard.plan (g : Guard) : Guard := { recs := g.recs.map GuardRec.plan, trips := [], steps := [] }

/-- The emission unit's configuration (R91, R94). -/
def Emission.plan (e : Emission) : Emission :=
  { lineA := e.lineA.plan, lineB := e.lineB.plan, channels := e.channels.map Channel.plan }

/-- The dispatch unit's table and enable, which WRITE and DISPATCH alone change (R119, R120, R127). -/
def DispatchUnit.plan (d : DispatchUnit) : DispatchUnit :=
  { DispatchUnit.powerOn with cfg := d.cfg, oper := d.oper, enable := d.enable }

/-! ### Frames -/

/-- Shows all but the attention unit. -/
def beyondAttention (s : State) : State := { s with attention := .powerOn true }

/-- Shows all but the attention unit and the recorder. -/
def beyondRecorder (s : State) : State := { s with attention := .powerOn true, recorder := .powerOn }

/-- What the transmitter-free events can reach of a port: its transmitter, its flow symbol and the count of PAUSEs
sent (R169, R172). -/
def PortRec.standing (r : PortRec) : PortRec :=
  { r with tx := none, symbol := .none, counters := { r.counters with pauseSent := 0 } }

/-- Shows what the transmitter-free events (`serve`) cannot reach: all but the flow symbols and transmitters of the
two ports, the queues, outboxes and slots that the transmitters serve, the upstream frame number with THINNING and its
flag, the arbiter's pointers, frame number and grant counters, and the in-flight marks of the query table. -/
def standing (s : State) : State :=
  { s with
    sPort := s.sPort.standing, fPort := s.fPort.standing
    attention := { s.attention with flags := s.attention.flags.set Flag.thinning.index ⟨false, false, false, false, false⟩,
                                    outbox := [] }
    fwd := { s.fwd with outbox := [], up := [], thinning := false, upFrameNo := 0, upPass := [], orders := [] }
    guard := { s.guard with trips := [], steps := [] }
    dispatch := { s.dispatch with slots := [] }
    arbiter := { s.arbiter with highPtr := .supervisory, lowPtr := .supervisory, frameNo := 0, grants := ⟨0, 0, 0, 0, 0⟩ }
    query := { s.query with entries := s.query.entries.map (fun e => { e with inFlight := false }) } }

/-- Shows all but what the guard's operations and the transmitter-free events reach: attention, recorder, the guard's
runtime fields, order queue with the acceptance number, dispatch slots and last ordered values, and what `standing`
blanks. -/
def beyondGuard (s : State) : State :=
  { standing s with
    attention := .powerOn true, recorder := .powerOn, guard := s.guard.plan
    fwd := { (standing s).fwd with acceptance := 0 }
    dispatch := { s.dispatch with slots := [], lastOrdered := [] } }

/-- Whether a point is one that the part itself writes: a line state point, a channel average point or a published
point of the dispatch unit (R14). -/
def publishes (e : Emission) (c : DispatchCfg) (p : Nat) : Bool :=
  decide (e.lineA.statePoint = some p) || decide (e.lineB.statePoint = some p) ||
    e.channels.any (fun ch => decide (ch.cfg.avgPoint = some p)) ||
    decide (c.steamPoint = some p) || decide (c.powerPoint = some p) || decide (c.statePoint = some p)

/-- Shows what a wake, with all it causes, does not reach (R12): power, time, the part record, the clock, the query
table but for its in-flight marks, the arbiter's levels, the windows and watermarks, all of the ports but what
`standing` blanks; every point record but those that the part publishes; and the configuration of every point, guard,
line and channel record and of the dispatch table. -/
def beyondWake (s : State) : State :=
  { standing s with
    attention := .powerOn true, recorder := .powerOn, guard := s.guard.plan
    points := s.points.mapIdx (fun p r => if publishes s.emission.plan s.dispatch.cfg p then r.plan else r)
    emission := s.emission.plan
    fwd := { (standing s).fwd with counters := .zero, acceptance := 0 }
    dispatch := s.dispatch.plan }

/-! ### Taking a frame and serving the transmitters -/

/-- The part is in operation and takes a frame from a port as a command: the frame heads the receive buffer, its route
gives the command, and a reply-bearing one finds a place in the reply outbox (R23). -/
structure Takes (p : Port) (f : Frame) (c : Instr) (s : State) : Prop where
  awake  : s.held = false
  head   : (s.port p).rx.head? = some f
  routed : route p s f = c
  room   : replyBearing p c = true → s.fwd.outbox.length < Config.outboxCap

/-- The port and frame that a frame command takes (R23). -/
def frameTaken : Instr → Option (Port × Frame)
  | .addressConflict p f => some (p, f)
  | .fieldReport f => some (.fPort, f)
  | .fieldAnswer f => some (.fPort, f)
  | .upPassThrough f => some (.fPort, f)
  | .fieldFrameDropped f => some (.fPort, f)
  | .sPortFrameDropped f => some (.sPort, f)
  | .orderToPart f => some (.sPort, f)
  | .queryToPart f => some (.sPort, f)
  | .orderFrameAcceptance f => some (.sPort, f)
  | .passThroughEntry f => some (.sPort, f)
  | .supervisoryQuery f => some (.sPort, f)
  | .write f => some (.sPort, f)
  | .read f => some (.sPort, f)
  | .start f => some (.sPort, f)
  | .stop f => some (.sPort, f)
  | .time f => some (.sPort, f)
  | .substitute f => some (.sPort, f)
  | .unsubstitute f => some (.sPort, f)
  | .lock f => some (.sPort, f)
  | .reset f => some (.sPort, f)
  | .release f => some (.sPort, f)
  | .clear f => some (.sPort, f)
  | .force f => some (.sPort, f)
  | .portRestart f => some (.sPort, f)
  | .portRate f => some (.sPort, f)
  | .rearm f => some (.sPort, f)
  | .dispatchEnable f => some (.sPort, f)
  | .dispatchDisable f => some (.sPort, f)
  | .dispatchRun f => some (.sPort, f)
  | .dispatchHold f => some (.sPort, f)
  | .counterClear f => some (.sPort, f)
  | .powerOn _ => none
  | .frameReceived _ _ _ => none
  | .symbolReceived _ _ => none
  | .pauseReceived _ => none
  | .resumeReceived _ => none
  | .pauseTimerExpiry _ => none
  | .linkDownExpiry _ => none
  | .frameCompletes _ => none
  | .freshnessExpiry _ => none
  | .answerTimerExpiry _ => none
  | .discardTimerExpiry _ => none
  | .rampTimerExpiry _ => none
  | .periodBoundary => none
  | .inputHoldExpiry _ => none
  | .cycleTimerExpiry => none
  | .powerOnReset => none

/-- The replies that the S-port still has to send: the frame in flight and the outbox (R35, R36). -/
def replyLine (s : State) : List Sending := s.sPort.tx.toList ++ s.fwd.outbox

/-- What the transmitter-free events do to a state: what it cannot reach stands; each queue, outbox and slot list
loses entries from its head alone; and a transmitter in use keeps its frame and everything that feeds it (R35, R59,
R169, R172). -/
structure Closes (s t : State) : Prop where
  kept     : standing t = standing s
  orders   : t.fwd.orders <:+ s.fwd.orders
  trips    : t.guard.trips <:+ s.guard.trips
  steps    : t.guard.steps <:+ s.guard.steps
  slots    : t.dispatch.slots <:+ s.dispatch.slots
  upstream : t.fwd.up <:+ s.fwd.up
  upPass   : t.fwd.upPass <:+ s.fwd.upPass
  replies  : t.fwd.outbox <:+ s.fwd.outbox
  notices  : t.attention.outbox <:+ s.attention.outbox
  sInUse   : s.sPort.tx.isSome = true →
    t.sPort = s.sPort ∧ t.attention = s.attention ∧
      t.fwd = { s.fwd with orders := t.fwd.orders }
  fInUse   : s.fPort.tx.isSome = true →
    t.fPort = s.fPort ∧ t.arbiter = s.arbiter ∧ t.query = s.query ∧ t.guard = s.guard ∧ t.dispatch = s.dispatch ∧
      t.fwd.orders = s.fwd.orders

/-! ### Bounds -/

/-- The sums of an open half-hour agree with its count, minimum and maximum, and every normalised value lies in the
range that R101 gives (R101, R102, R105). -/
def ChannelRun.summed (r : ChannelRun) : Prop :=
  (r.minmax = none ∧ r.valid = 0 ∧ r.sum = 0) ∨
    ∃ lo hi, r.minmax = some (lo, hi) ∧ 1 ≤ r.valid ∧ 0 ≤ lo ∧ hi ≤ 360000000 ∧ lo * r.valid ≤ r.sum ∧
      r.sum ≤ hi * r.valid

/-- The ranges of the channel fields that the normalisation and the half-hour average rest on (R94). -/
def ChannelCfg.inRanges (c : ChannelCfg) : Prop :=
  300 ≤ c.o2Ref ∧ c.o2Ref ≤ 1500 ∧ 1500 ≤ c.o2Cap ∧ c.o2Cap ≤ 2000 ∧ 1 ≤ c.minValid

/-- What the spec bounds in every state: the sizes of the tables (R1, R43, R67, R94, R198) and the capacities of the
queues, outboxes, slots, buffers and rings (R29, R30, R36, R37, R61, R106, R111, R143, R148, R167, R204), and the sums
and ranges of the channels (R94, R101, R102). -/
structure Bounded (s : State) : Prop where
  points    : s.points.length = Config.points
  guards    : s.guard.recs.length = Config.guards
  channels  : s.emission.channels.length = Config.channels
  flags     : s.attention.flags.length = flagCount
  queries   : s.query.entries.length = 8
  windows   : s.fwd.windows.length = 4
  upstream  : s.fwd.up.length ≤ Config.upstreamCap
  distinct  : (s.fwd.up.map (·.point)).Nodup
  upPass    : s.fwd.upPass.length ≤ Config.upPassCap
  replies   : s.fwd.outbox.length ≤ Config.outboxCap
  orders    : s.fwd.orders.length ≤ Config.orderQueueCap
  trips     : (s.guard.trips.map (·.record)).Nodup
  steps     : (s.guard.steps.map (·.record)).Nodup
  stepsOf   : ∀ p ∈ s.guard.steps, p.record < Config.guards
  slots     : (s.dispatch.slots.map (·.output)).Nodup
  slotsOf   : ∀ o ∈ s.dispatch.slots, o.output < 5
  rings     : ∀ c ∈ s.emission.channels, c.half.length ≤ Config.halfRingCap ∧ c.days.length ≤ Config.dayRingCap
  sums      : ∀ c ∈ s.emission.channels, c.run.summed ∧ c.cfg.inRanges
  notices   : s.attention.outbox.length ≤ Config.noticeCap
  buffer    : s.recorder.buffer.length ≤ Config.recorderCap
  sBuffer   : s.sPort.rx.length ≤ Config.rxCap
  fBuffer   : s.fPort.rx.length ≤ Config.rxCap

/-! ### Invariants that the spec states -/

/-- What R87, R114 and R126 say of a part in SETUP: no order for a guarded output waits in the order queue, the slots
or the steps, no ramp timer runs, every channel is IDLE, every configured line is NORMAL and the dispatch unit is
STOPPED. The trip queue is not named: STOP empties it (R87), and a SAFE trip order in flight at STOP may be entered
again when its frame is aborted (R66, log entry 16). -/
structure SetupRests (s : State) : Prop where
  orders   : s.part.state = .setup → ∀ e ∈ s.fwd.orders, e.isGuarded = false
  steps    : s.part.state = .setup → s.guard.steps = []
  slots    : s.part.state = .setup → s.dispatch.slots = []
  ramps    : s.part.state = .setup → ∀ g ∈ s.guard.recs, g.rampTimer = none
  channels : s.part.state = .setup → ∀ c ∈ s.emission.channels, c.run.opened = false
  lines    : s.part.state = .setup → ∀ l, (s.line l).configured = true → (s.line l).state = .normal
  dispatch : s.part.state = .setup → s.dispatch.state = .stopped

/-- In RUN no two configured guard records name the same point, as START found them (R71, R70). -/
def DistinctOutputs (s : State) : Prop :=
  s.part.state = .run → ∀ i j, (s.guardRec i).configured = true → (s.guardRec j).configured = true →
    (s.guardRec i).point = (s.guardRec j).point → i = j

/-- While a guarded output is TRIPPED or LATCHED, the order queue, the dispatch slots and the step slots hold no order for
it, and its ramp timer does not run (R73). -/
def TrippedHoldNothing (s : State) : Prop :=
  ∀ i, (s.guardRec i).configured = true → (s.guardRec i).state ≠ .clear →
    (∀ e ∈ s.fwd.orders, e.guardedFor (s.guardRec i).point = false) ∧
      (∀ o ∈ s.dispatch.slots, o.output ∉ dispatchOutputs s (s.guardRec i).point) ∧
      (∀ p ∈ s.guard.steps, p.record ≠ i) ∧ (s.guardRec i).rampTimer = none

/-- In RUN the stored signature is that of the guard, line and channel tables as they stand (R189). -/
def SignatureCurrent (s : State) : Prop := s.part.state = .run → s.part.signature = signatureOf s

end Sys2Proof.Machine
end

