-- ==== Sys2Proof/WellFormed.lean ====
section
/-! DEFINITION. Which commands are well formed: the operand ranges of the spec (point and record indexes, strap
values, header fields) and the frame lengths of R208. -/

namespace Sys2Proof

/-- The largest entry count of a kind (R208). -/
def Kind.maxCount : Kind → Nat
  | .report => 16
  | .order => 8
  | .query => 1
  | .answer => 1
  | .status => 8
  | .notice => 16
  | .setup => 16

/-- The body length that R208 gives for a kind and entry count. -/
def Kind.bodyLength (k : Kind) (count : Nat) : Nat :=
  match k with
  | .query => 2
  | .answer => 7
  | _ => 6 * count

/-- A frame that could stand in a receive buffer: header fields in range, a station as source, and the body length
of its kind and count (R166, R208). -/
def Frame.wf (f : Frame) : Bool :=
  decide (f.dest < 256) && decide (0 < f.src) && decide (f.src < 256) && decide (f.tag < 256) &&
    decide (1 ≤ f.count) && decide (f.count ≤ f.kind.maxCount) && decide (f.body.length = f.kind.bodyLength f.count)

/-- A command whose operands lie in the ranges of the spec. -/
def Instr.wf : Instr → Bool
  | .powerOn straps => decide (straps < 256)
  | .frameReceived _ _ _ => true
  | .symbolReceived _ _ => true
  | .pauseReceived _ => true
  | .resumeReceived _ => true
  | .pauseTimerExpiry _ => true
  | .linkDownExpiry _ => true
  | .frameCompletes _ => true
  | .addressConflict _ f => f.wf
  | .sPortFrameDropped f => f.wf
  | .orderToPart f => f.wf && decide (f.kind = .order)
  | .queryToPart f => f.wf && decide (f.kind = .query)
  | .orderFrameAcceptance f => f.wf && decide (f.kind = .order)
  | .passThroughEntry f => f.wf && decide (f.kind ≠ .order) && decide (f.kind ≠ .query)
  | .supervisoryQuery f => f.wf && decide (f.kind = .query)
  | .fieldReport f => f.wf && decide (f.kind = .report)
  | .fieldAnswer f => f.wf && decide (f.kind = .answer)
  | .upPassThrough f => f.wf && decide (f.kind ≠ .report)
  | .fieldFrameDropped f => f.wf
  | .freshnessExpiry p => decide (p < Config.points)
  | .answerTimerExpiry e => decide (e < 8)
  | .discardTimerExpiry e => decide (e < 8)
  | .rampTimerExpiry i => decide (i < Config.guards)
  | .periodBoundary => true
  | .inputHoldExpiry _ => true
  | .cycleTimerExpiry => true
  | .write f => f.wf && decide (f.kind = .setup)
  | .read f => f.wf && decide (f.kind = .setup)
  | .start f => f.wf && decide (f.kind = .setup)
  | .stop f => f.wf && decide (f.kind = .setup)
  | .time f => f.wf && decide (f.kind = .setup)
  | .substitute f => f.wf && decide (f.kind = .setup)
  | .unsubstitute f => f.wf && decide (f.kind = .setup)
  | .lock f => f.wf && decide (f.kind = .setup)
  | .reset f => f.wf && decide (f.kind = .setup)
  | .release f => f.wf && decide (f.kind = .setup)
  | .clear f => f.wf && decide (f.kind = .setup)
  | .force f => f.wf && decide (f.kind = .setup)
  | .portRestart f => f.wf && decide (f.kind = .setup)
  | .portRate f => f.wf && decide (f.kind = .setup)
  | .rearm f => f.wf && decide (f.kind = .setup)
  | .dispatchEnable f => f.wf && decide (f.kind = .setup)
  | .dispatchDisable f => f.wf && decide (f.kind = .setup)
  | .dispatchRun f => f.wf && decide (f.kind = .setup)
  | .dispatchHold f => f.wf && decide (f.kind = .setup)
  | .counterClear f => f.wf && decide (f.kind = .setup)
  | .powerOnReset => true

end Sys2Proof
end

