-- ==== Sys2Proof/Certificates/Slice0/Obligations.lean ====
section
/-! DEFINITION. The statements for the provers. In a statement about a command, `serve u` is the next state: `u` is
the state once the event has acted, and `serve` lets the flow symbols go out and the transmitters begin what they find
at that moment (R35, R59, R169); a command that places several pieces of work passes `serve` after each (log entry
17). What `serve` can do is stated in the second section. A frame command's hypothesis `Takes` says that the part is
in operation, that the frame heads the port's receive buffer, that its route gives the command and that the reply
outbox has room where the command bears a reply (R23); `taken` is the state once the frame has left the buffer and was
offered to the recorder, which TakenFrameIsOffered states. `beyondAttention`, `beyondRecorder`, `beyondGuard` and
`beyondWake` (Sys2Proof/Safety.lean) show all of a state but what the named blocks, or a wake with all that it causes,
can reach: an equation under one of them is a frame. -/

open Sys2Proof Sys2Proof.Machine

/-! ### The machine -/

/-- One step runs the command at the front of the queue on the state with the queue's rest. -/
def Obligations.StepRunsFrontCommand : Prop :=
  ∀ (c : Instr) (rest : List Instr) (s : State), step { s with pending := c :: rest } = exec c { s with pending := rest }

/-- With an empty queue, nothing ready and no cycle occasion owed, a step lets one millisecond pass on the elapsed
time and on the plant clock, the timers that are then due become pending commands, and nothing else changes (the
model's choice, log entry 2). -/
def Obligations.IdlePassesOneMillisecond : Prop :=
  ∀ s : State, s.pending = [] → s.held = false → readyCommands s = [] → s.dispatch.owed = false →
    ∃ t, step s = .next t ∧ t.now = s.now + 1 ∧
      absTime t.clock.day t.clock.ms = (absTime s.clock.day s.clock.ms + 1) % circle ∧
      t.clock.ms < Config.msPerDay ∧ t.clock.unset = s.clock.unset ∧ t.clock.handed = s.clock.handed ∧
      t.pending = dueCommands t ∧ { t with now := s.now, clock := s.clock, pending := s.pending } = s

/-- Nothing happens out of turn: a part held in reset takes nothing and sends nothing but for POWER_ON and
POWER_ON_RESET; a frame that does not head its buffer, is routed otherwise or finds no place for its reply is not taken;
a timer that is stopped, or that has not reached its moment, as after a restart in the same instant, does not expire; a
boundary that the clock has not reached is not handed; and with no frame in flight none completes. That such a command
changes nothing is the model's choice (log entries 1 and 2). -/
def Obligations.NothingHappensOutOfTurn : Prop :=
  ∀ s : State,
    let rests (timer : Option Nat) : Prop := ∀ m, timer = some m → s.now < m
    (s.held = true →
      (∀ c : Instr, (∀ n, c ≠ .powerOn n) → c ≠ .powerOnReset → exec c s = .next s) ∧
      (s.pending = [] → step s = .next s)) ∧
    (∀ c p f, frameTaken c = some (p, f) → ¬Takes p f c s → exec c s = .next s) ∧
    (∀ p, rests (s.point p).timer → exec (.freshnessExpiry p) s = .next s) ∧
    (∀ i, rests (s.queryEntry i).answerTimer → exec (.answerTimerExpiry i) s = .next s) ∧
    (∀ i, rests (s.queryEntry i).discardTimer → exec (.discardTimerExpiry i) s = .next s) ∧
    (∀ i, rests (s.guardRec i).rampTimer → exec (.rampTimerExpiry i) s = .next s) ∧
    (∀ i, rests (s.dispatch.input i).timer → exec (.inputHoldExpiry i) s = .next s) ∧
    (rests s.dispatch.timer → exec .cycleTimerExpiry s = .next s) ∧
    ((s.clock.day, s.clock.ms / 1800000) = s.clock.handed → exec .periodBoundary s = .next s) ∧
    (∀ p, (rests (s.port p).pauseTimer → exec (.pauseTimerExpiry p) s = .next s) ∧
      (rests (s.port p).linkTimer → exec (.linkDownExpiry p) s = .next s) ∧
      ((s.port p).tx = none → exec (.frameCompletes p) s = .next s))

/-- The state after reset meets every invariant stated below. -/
def Obligations.ResetMeetsInvariants : Prop :=
  Bounded State.reset ∧ SetupRests State.reset ∧ DistinctOutputs State.reset ∧ TrippedHoldNothing State.reset ∧
    SignatureCurrent State.reset

/-- Every step keeps the sizes and capacities that the spec gives the tables, queues, outboxes, slots, buffers and rings,
never puts two entries for one point in the upstream queue or two trip orders, steps or dispatch orders for one output in
their places, and keeps every channel's sums in step with its count, minimum and maximum. -/
def Obligations.StepKeepsBounds : Prop :=
  ∀ s t : State, Bounded s → step s = .next t → Bounded t

/-- In SETUP no order for a guarded output waits, no ramp timer runs, the channels are IDLE, the configured lines
NORMAL and the dispatch unit STOPPED, after every step from a state in which that holds. A trip order that waits in
SETUP was waiting there before the step, or was in flight and aborted (R66, the model's reading, log entry 16). -/
def Obligations.StepKeepsSetupAtRest : Prop :=
  ∀ s t : State, Bounded s → SetupRests s → step s = .next t →
    SetupRests t ∧
    (t.part.state = .setup → ∀ x ∈ t.guard.trips,
      s.part.state = .setup ∧ (x ∈ s.guard.trips ∨ s.fPort.tx.map (·.item) = some (.trip x)))

/-- While a guarded output is TRIPPED or LATCHED, the order queue, the dispatch slots and the step slots hold no order for
it and its ramp timer does not run: every step keeps this, with the distinctness of the output points in RUN. -/
def Obligations.TrippedOutputsHoldNothing : Prop :=
  ∀ s t : State, Bounded s → SetupRests s → DistinctOutputs s → TrippedHoldNothing s → step s = .next t →
    DistinctOutputs t ∧ TrippedHoldNothing t

/-- While the recorder is FROZEN its records do not change and it stays FROZEN, through every step but a REARM, a
RESET taking effect and a power-on reset. -/
def Obligations.FrozenRecordsDoNotChange : Prop :=
  ∀ s t : State, s.recorder.state = .frozen → step s = .next t →
    (∀ c ∈ s.pending.head?, (∀ n, c ≠ .powerOn n) ∧ c ≠ .powerOnReset ∧ (∀ f, c ≠ .rearm f) ∧
      (∀ p snd, c = .frameCompletes p → (s.port p).tx = some snd → snd.item ≠ .resetDone)) →
    t.recorder.state = .frozen ∧ t.recorder.buffer = s.recorder.buffer

/-- A set setup lock stays set through every step but a power-on reset, and while it is set no step changes a
configuration field of the line and channel tables. -/
def Obligations.SetupLockHolds : Prop :=
  ∀ s t : State, s.part.lock = true → step s = .next t →
    (∀ c ∈ s.pending.head?, (∀ n, c ≠ .powerOn n) ∧ c ≠ .powerOnReset) →
    t.part.lock = true ∧ t.emission.plan = s.emission.plan

/-- In RUN the signature of the part record is the CRC-32 of the guard, line and channel tables as they stand: every step
keeps this. -/
def Obligations.SignatureStaysCurrent : Prop :=
  ∀ s t : State, SignatureCurrent s → step s = .next t → SignatureCurrent t

/-! ### Taking frames and serving the transmitters -/

/-- A frame taken from the head of a receive buffer leaves it; a take that leaves 4 frames or fewer while HOLDING sets
the flow state OPEN and the symbol RESUME; the frame is offered to the recorder; nothing else changes but the recorder
and its flag, and what has appeared is served before the command acts. An ARMED recorder that no comparator matches
enters a frame of a selected kind as its newest record and no other frame; an OFF recorder does nothing; a FROZEN one
counts a matching frame as a missed trigger alone. -/
def Obligations.TakenFrameIsOffered : Prop :=
  ∀ (p : Port) (f : Frame) (rest : List Frame) (s : State), (s.port p).rx = f :: rest →
    taken p f s = serve (offered p f s) ∧
    beyondRecorder (offered p f s) = beyondRecorder (s.modPort p (fun r =>
      if r.holding = true ∧ rest.length ≤ Config.resumeLevel then
        { r with rx := rest, holding := false, symbol := .resume }
      else { r with rx := rest })) ∧
    (s.recorder.state = .off → (offered p f s).recorder = s.recorder ∧ (offered p f s).attention = s.attention) ∧
    (s.recorder.state = .frozen → (offered p f s).attention = s.attention ∧
      (offered p f s).recorder = { s.recorder with
        missed := if comparatorMarks s f = [] then s.recorder.missed else bump s.recorder.missed }) ∧
    (s.recorder.state = .armed → comparatorMarks s f = [] →
      (offered p f s).attention = s.attention ∧
      (offered p f s).recorder =
        if s.recorder.cfg.kindSel.getLsbD (kindCode f.kind - 1) = true then
          { s.recorder with
            buffer := ({ number := s.recorder.number, time := ⟨s.clock.day, s.clock.ms, s.clock.unset⟩,
                         origin := (match p with | .sPort => .sPort | .fPort => .fPort), kind := some f.kind,
                         src := some f.src, dest := some f.dest, count := f.count, point := (recordedEntry f).1,
                         value := (recordedEntry f).2, outcome := none, marks := [] } :: s.recorder.buffer).take 256,
            number := (s.recorder.number + 1) % 65536 }
        else s.recorder) ∧
    (s.recorder.state = .armed → comparatorMarks s f ≠ [] →
      (offered p f s).recorder.triggers = bump s.recorder.triggers ∧
      ((offered p f s).recorder.buffer.head?.map (·.marks)) = some (comparatorMarks s f) ∧
      (0 < s.recorder.cfg.postCount →
        (offered p f s).recorder.state = .post ∧ (offered p f s).recorder.post = s.recorder.cfg.postCount) ∧
      (s.recorder.cfg.postCount = 0 → (offered p f s).recorder.state = .frozen)) ∧
    (s.recorder.state = .post →
      (comparatorMarks s f ≠ [] ∨ s.recorder.cfg.kindSel.getLsbD (kindCode f.kind - 1) = true) →
      ((offered p f s).recorder.buffer.head?.map (fun r => (r.number, r.kind, r.marks))) =
        some (s.recorder.number, some f.kind, comparatorMarks s f) ∧
      (1 < s.recorder.post →
        (offered p f s).recorder.state = .post ∧ (offered p f s).recorder.post = s.recorder.post - 1) ∧
      (s.recorder.post ≤ 1 → (offered p f s).recorder.state = .frozen))

/-- The transmitter-free events of a moment reach the transmitters, their flow symbols and what feeds them, and
nothing else; queues lose entries from their heads alone; a transmitter in use keeps its frame and its sources. -/
def Obligations.CloseReachesTransmissionAlone : Prop := ∀ s : State, Closes s (serve s)

/-- The S-port transmitter, when the port may begin a frame, takes the first source that has one to give: the reply
outbox; the notice outbox, sent to the collector station of that moment, passed over while there is none; the up
pass-through queue; the upstream report queue, whose head entries, up to 16, leave it in one REPORT tagged with the
upstream frame number, passed over while there is no collector station; a removal that leaves the low watermark or less
ends THINNING and its condition. Otherwise it stays idle. -/
def Obligations.SPortServesInOrder : Prop :=
  ∀ s : State,
    (s.sPort.mayBegin = false → serveS s = s) ∧
    (s.sPort.mayBegin = true →
      (∀ snd rest, s.fwd.outbox = snd :: rest →
        serveS s = { s with sPort := { s.sPort with tx := some snd }, fwd := { s.fwd with outbox := rest } }) ∧
      (s.fwd.outbox = [] →
        (∀ n rest, s.part.collector ≠ 0 → s.attention.outbox = n :: rest →
          serveS s = { s with sPort := { s.sPort with tx := some ⟨{ n with dest := s.part.collector }, .plain⟩ },
                              attention := { s.attention with outbox := rest } }) ∧
        ((s.part.collector = 0 ∨ s.attention.outbox = []) →
          (∀ f rest, s.fwd.upPass = f :: rest →
            serveS s = { s with sPort := { s.sPort with tx := some ⟨f, .plain⟩ },
                                fwd := { s.fwd with upPass := rest } }) ∧
          (s.fwd.upPass = [] →
            ((s.part.collector = 0 ∨ s.fwd.up = []) → serveS s = s) ∧
            (s.part.collector ≠ 0 → s.fwd.up ≠ [] →
              let f : Frame :=
                { dest := s.part.collector, src := s.part.station, kind := .report, count := min 16 s.fwd.up.length,
                  tag := s.fwd.upFrameNo,
                  body := (s.fwd.up.take 16).flatMap (fun e => pointWord e.code e.point ++ signedBytes e.value) }
              let left : State := { s with
                sPort := { s.sPort with tx := some ⟨f, .plain⟩ }
                fwd := { s.fwd with up := s.fwd.up.drop 16, upFrameNo := (s.fwd.upFrameNo + 1) % 256 } }
              (s.fwd.lowMark < s.fwd.up.length - 16 → serveS s = left) ∧
              (s.fwd.up.length - 16 ≤ s.fwd.lowMark → serveS s =
                setCondition .thinning false { left with fwd := { left.fwd with thinning := false } }))))))

/-- At a grant event of the F-port a waiting trip order is granted before anything else and moves no pointer; otherwise
the first HIGH requester with work, searching the ring once round from the HIGH pointer, which then names the requester
after it; otherwise the same among the LOW requesters; otherwise, and while the port may not begin a frame, nothing is
granted. The granted requester supplies one frame and its grant is counted: SUPERVISORY a pass-through frame unchanged,
or the head entries of one destination and origin, at most 8; DISPATCH and STEP their first order; QUERY the QUERY of an
eligible entry under its send tag, the one with the lowest acceptance number (round the 32-bit circle): waiting to be
sent, not in flight, and with no order for its station or every station accepted before it still queued. What is sent
leaves its place, and a frame that the arbiter forms takes the field frame number, which advances. -/
def Obligations.FieldGrantOrder : Prop :=
  ∀ s : State,
    let own (dest src : Nat) (entries : List (Nat × Value)) : Frame :=
      { dest := dest, src := src, kind := .order, count := entries.length, tag := s.arbiter.frameNo,
        body := entries.flatMap (fun e => pointWord 0 e.1 ++ signedBytes e.2) }
    let sent (f : Frame) (i : SentItem) (t : State) : State := { t with fPort := { t.fPort with tx := some ⟨f, i⟩ } }
    let next : Nat := (s.arbiter.frameNo + 1) % 256
    let supplies (a : Arbiter) (r : Requester) : Prop := match r with
      | .supervisory =>
        (∀ f q rest, s.fwd.orders = .pass f q :: rest → serveF s = sent f .plain { s with
          fwd := { s.fwd with orders := rest },
          arbiter := { a with grants := { a.grants with supervisory := bump a.grants.supervisory } } }) ∧
        (∀ d p v o g q rest, s.fwd.orders = .order d p v o g q :: rest →
          let goes (e : QueueEntry) : Prop := ∃ p v g q, e = .order d p v o g q
          ∃ n, 1 ≤ n ∧ n ≤ 8 ∧ n ≤ s.fwd.orders.length ∧ (∀ e ∈ s.fwd.orders.take n, goes e) ∧
            (n < 8 → ∀ e, s.fwd.orders[n]? = some e → ¬goes e) ∧
            serveF s = sent (own d o ((s.fwd.orders.take n).map (·.sent))) .plain { s with
              fwd := { s.fwd with orders := s.fwd.orders.drop n },
              arbiter := { a with
                frameNo := next, grants := { a.grants with supervisory := bump a.grants.supervisory } } })
      | .dispatch => ∀ o rest, s.dispatch.slots = o :: rest →
        let p := s.dispatch.cfg.outputs.getD o.output 0
        serveF s = sent (own (ownerStation s p) s.part.station [(p, o.value)]) .plain { s with
          dispatch := { s.dispatch with slots := rest },
          arbiter := { a with frameNo := next, grants := { a.grants with dispatch := bump a.grants.dispatch } } }
      | .step => ∀ o rest, s.guard.steps = o :: rest →
        let p := (s.guardRec o.record).point
        serveF s = sent (own (ownerStation s p) s.part.station [(p, o.value)]) .plain { s with
          guard := { s.guard with steps := rest },
          arbiter := { a with frameNo := next, grants := { a.grants with step := bump a.grants.step } } }
      | .query =>
        let eligible (i : Nat) : Prop := i < 8 ∧ (s.queryEntry i).state = .waitingSend ∧
          (s.queryEntry i).inFlight = false ∧ ∀ o ∈ s.fwd.orders, ¬ match o with
            | .order d _ _ _ _ q =>
              (d = (s.queryEntry i).dest ∨ d = 255) ∧ (q - (s.queryEntry i).seq).slt 0 = true
            | .pass f q =>
              (f.dest = (s.queryEntry i).dest ∨ f.dest = 255) ∧ (q - (s.queryEntry i).seq).slt 0 = true
        let goes (i : Nat) : Prop :=
          let e := s.queryEntry i
          serveF s = sent { dest := e.dest, src := s.part.station, kind := .query, count := 1, tag := i * 32 + e.gen,
                            body := pointWord 0 e.point } (.query i e.gen) { s with
            query := { s.query with entries := s.query.entries.modify i (fun e => { e with inFlight := true }) },
            arbiter := { a with grants := { a.grants with query := bump a.grants.query } } }
        (∃ i, eligible i ∧ goes i) ∧
        (∀ i, eligible i → (∀ j, j ≠ i → eligible j →
          let ahead := ((s.queryEntry j).seq - (s.queryEntry i).seq).toNat
          0 < ahead ∧ ahead < 2147483648) → goes i)
    (s.fPort.mayBegin = false → serveF s = s) ∧
    (s.fPort.mayBegin = true →
      (∀ t rest, s.guard.trips = t :: rest →
        serveF s = sent (own (ownerStation s t.point) s.part.station [(t.point, t.value)]) (.trip t) { s with
          guard := { s.guard with trips := rest },
          arbiter := { s.arbiter with
            frameNo := next, grants := { s.arbiter.grants with trip := bump s.arbiter.grants.trip } } }) ∧
      (s.guard.trips = [] →
        (∀ pre r post, ringFrom s.arbiter.highPtr = pre ++ r :: post → s.arbiter.level r = .high → hasWork s r = true →
          (∀ q ∈ pre, ¬(s.arbiter.level q = .high ∧ hasWork s q = true)) →
          supplies { s.arbiter with highPtr := r.next } r) ∧
        ((∀ q, ¬(s.arbiter.level q = .high ∧ hasWork s q = true)) →
          (∀ pre r post, ringFrom s.arbiter.lowPtr = pre ++ r :: post → s.arbiter.level r = .low → hasWork s r = true →
            (∀ q ∈ pre, ¬(s.arbiter.level q = .low ∧ hasWork s q = true)) →
            supplies { s.arbiter with lowPtr := r.next } r) ∧
          ((∀ q, ¬(s.arbiter.level q = .low ∧ hasWork s q = true)) → serveF s = s))))

/-- A QUERY that the arbiter begins is that of an entry in WAITING-SEND whose frame is not in flight, under its send
tag, and no order or pass-through entry to the same station, or to every station, accepted before it is still in the
order queue. -/
def Obligations.QueryWaitsForEarlierOrders : Prop :=
  ∀ (s : State) (fr : Frame) (i g : Nat), s.fPort.tx = none → (serveF s).fPort.tx = some ⟨fr, .query i g⟩ →
    (s.queryEntry i).state = .waitingSend ∧ (s.queryEntry i).inFlight = false ∧ g = (s.queryEntry i).gen ∧
      fr = { dest := (s.queryEntry i).dest, src := s.part.station, kind := .query, count := 1,
             tag := i * 32 + (s.queryEntry i).gen, body := pointWord 0 (s.queryEntry i).point } ∧
      (∀ d p v o gd q, QueueEntry.order d p v o gd q ∈ s.fwd.orders → (d = (s.queryEntry i).dest ∨ d = 255) →
        ¬ ((q - (s.queryEntry i).seq).slt 0 = true)) ∧
      (∀ f q, QueueEntry.pass f q ∈ s.fwd.orders → (f.dest = (s.queryEntry i).dest ∨ f.dest = 255) →
        ¬ ((q - (s.queryEntry i).seq).slt 0 = true)) ∧
      ((serveF s).queryEntry i).inFlight = true

/-- Every SETUP frame addressed to the part and taken is answered by exactly one STATUS frame, at the end of the line
of replies, where an idle transmitter may first have begun one other frame that the command made ready: to the frame's
source, from the part, under the frame's tag, of the setup form with the operation's code. A reply without data,
`replySetup`, is one block of that form with its status code. Which row handles an unknown operation is the model's
choice (log entry 18). -/
def Obligations.SetupFrameGetsOneReply : Prop :=
  (∀ (f : Frame) (s : State), Takes .sPort f (routeSetup f) s →
    ∃ t snd, exec (routeSetup f) s = .next t ∧
      (replyLine t = replyLine s ++ [snd] ∨
        (replyLine s = [] ∧ ∃ n, replyLine t = [n, snd] ∧ t.sPort.tx = some n ∧ n.item = .plain)) ∧
      snd.frame.dest = f.src ∧ snd.frame.src = s.part.station ∧ snd.frame.tag = f.tag ∧ snd.frame.kind = .status ∧
      snd.frame.body.take 2 = [byteOf 16, byteOf (setupOp f)]) ∧
  (∀ (f : Frame) (c : Status) (s : State), replySetup f c s = { s with
    fwd := { s.fwd with outbox := s.fwd.outbox ++
      [⟨{ dest := f.src, src := s.part.station, kind := .status, count := 1, tag := f.tag,
          body := [byteOf 16, byteOf (setupOp f), byteOf (statusCode c), 0, 0, 0] }, .plain⟩] } })

/-! ### Attention -/

/-- A raise that finds its flag set changes nothing. One that finds it clear sets that flag and no other; while the
collector station is not 0 and the flag is enabled it places one NOTICE with the flag, the pending set, the forced
marks, the overflow mark and the time, which clears the overflow mark and advances the notice number; at a full outbox
it sets the overflow mark instead. -/
def Obligations.RaisedFlagRisesOnce : Prop :=
  ∀ (fl : Flag) (s : State), s.attention.flags.length = flagCount →
    ((s.flag fl.index).isSet = true → raiseFlag fl s = s) ∧
    ((s.flag fl.index).isSet = false →
      beyondAttention (raiseFlag fl s) = beyondAttention s ∧
      (∀ i, (raiseFlag fl s).flag i = if i = fl.index then { s.flag i with isSet := true } else s.flag i) ∧
      (((s.flag fl.index).enable = false ∨ s.part.collector = 0) →
        (raiseFlag fl s).attention = { s.attention with flags := (raiseFlag fl s).attention.flags }) ∧
      ((s.flag fl.index).enable = true → s.part.collector ≠ 0 → s.attention.outbox.length < 16 →
        (∃ n, (raiseFlag fl s).attention.outbox = s.attention.outbox ++ [n] ∧ n.src = s.part.station ∧ n.kind = .notice ∧
          n.tag = s.attention.noticeNo ∧
          n.body = [byteOf fl.index, byteOf (yesNo s.attention.overflow)] ++
            bytesOf 4 (flagBits (·.isSet) (raiseFlag fl s).attention.flags) ++
            bytesOf 4 (flagBits (·.forced) (raiseFlag fl s).attention.flags) ++
            stampBytes ⟨s.clock.day, s.clock.ms, s.clock.unset⟩ ++ [0, 0]) ∧
        (raiseFlag fl s).attention.overflow = false ∧
        (raiseFlag fl s).attention.noticeNo = (s.attention.noticeNo + 1) % 256) ∧
      ((s.flag fl.index).enable = true → s.part.collector ≠ 0 → 16 ≤ s.attention.outbox.length →
        (raiseFlag fl s).attention.outbox = s.attention.outbox ∧ (raiseFlag fl s).attention.overflow = true ∧
        (raiseFlag fl s).attention.noticeNo = s.attention.noticeNo))

/-- The end of a condition clears an AUTO flag that is not forced and leaves any other flag set; the beginning of one sets
its flag, with a notice only where the flag was clear; a condition that stands as it stood changes nothing. -/
def Obligations.ConditionFlagFollows : Prop :=
  ∀ (fl : Flag) (s : State), s.attention.flags.length = flagCount →
    (∀ b, (s.flag fl.index).cond = b → setCondition fl b s = s) ∧
    ((s.flag fl.index).cond = true →
      setCondition fl false s = { s with attention := { s.attention with
        flags := (setCondition fl false s).attention.flags } } ∧
      ∀ i, (setCondition fl false s).flag i =
        if i = fl.index then
          { s.flag i with
            cond := false,
            isSet := (s.flag i).isSet && ((s.flag i).latch || (s.flag i).forced) }
        else s.flag i) ∧
    ((s.flag fl.index).cond = false →
      setCondition fl true s = raiseFlag fl (s.modFlag fl.index (fun r => { r with cond := true })) ∧
      ∀ i, (setCondition fl true s).flag i =
        if i = fl.index then { s.flag i with cond := true, isSet := true } else s.flag i)

/-! ### Segment ports -/

/-- A frame written by the layout of R208 passes the receive checks as itself, every field at every value that it
admits. -/
def Obligations.FrameSurvivesTheLine : Prop := ∀ f : Frame, f.wf = true → checkFrame false (frameBytes f) = .good f

/-- A frame's bytes are symbols received, which end DOWN and DISABLED and restart the link-down timer; a port that so
becomes ACTIVE begins what it has to send. A frame that passes the checks is then stored at the tail of a receive
buffer with fewer than 16 frames and counted; a store that leaves 12 frames or more holds the peer with PAUSE. A frame
whose start delimiter came before a restart or RESET is neither checked, counted nor stored. That FRAME_RECEIVED
stands for the whole frame is the model's choice (log entry 15). -/
def Obligations.GoodFrameIsStored : Prop :=
  ∀ (p : Port) (cut : Bool) (bytes : List Byte) (s : State), s.held = false →
    let seen := serve (setCondition (linkFlag p) false (s.modPort p (fun r => { r with
      linkTimer := some (s.now + 2), state := if r.state = .paused then .paused else .active })))
    (∀ f, (s.port p).receiving ≠ .discarding → checkFrame cut bytes = .good f → (s.port p).rx.length < 16 →
      exec (.frameReceived p cut bytes) s = .next (serve (seen.modPort p (fun r => { r with
        rx := r.rx ++ [f], receiving := .none,
        holding := if 12 ≤ (s.port p).rx.length + 1 then true else r.holding,
        symbol := if 12 ≤ (s.port p).rx.length + 1 then .pause else r.symbol,
        counters := { r.counters with framesReceived := bump r.counters.framesReceived } })))) ∧
    ((s.port p).receiving = .discarding →
      exec (.frameReceived p cut bytes) s = .next (serve (seen.modPort p (fun r => { r with receiving := .none }))))

/-- A frame that fails a check is not stored: its cause is counted and FRAME-ERRORS is raised. The checks in their
order: an FCS error for a frame cut off, shorter than 6 bytes or whose FCS does not agree; a length error for a length
other than its kind and count give; a kind error for a kind code of 0 or above 7, a count outside its kind's range (such
frames are not judged for length) or the source 0. Any other frame passes with its fields as laid out. One that passes
while the buffer holds 16 is dropped and counted as an overrun; the first since OVERRUN was clear sets it, begins its
condition, which sets its flag, and hands the recorder its trigger. That FRAME_RECEIVED stands for the whole arrival of
the frame is the model's choice (log entry 15). -/
def Obligations.BadOrSurplusFrameIsDropped : Prop :=
  (∀ (p : Port) (cut : Bool) (bytes : List Byte) (s : State), s.held = false → (s.port p).receiving ≠ .discarding →
    let seen := serve (setCondition (linkFlag p) false (s.modPort p (fun r => { r with
      linkTimer := some (s.now + 2), state := if r.state = .paused then .paused else .active })))
    let counted (f : PortCounters → PortCounters) : State :=
      seen.modPort p (fun r => { r with receiving := .none, counters := f r.counters })
    (∀ f : PortCounters → PortCounters,
      ((checkFrame cut bytes = .fcsError ∧ f = fun c => { c with fcsError := bump c.fcsError }) ∨
        (checkFrame cut bytes = .lengthError ∧ f = fun c => { c with lengthError := bump c.lengthError }) ∨
        (checkFrame cut bytes = .kindError ∧ f = fun c => { c with kindError := bump c.kindError })) →
      exec (.frameReceived p cut bytes) s = .next (serve (raiseFlag .frameErrors (counted f)))) ∧
    (∀ g, checkFrame cut bytes = .good g → 16 ≤ (s.port p).rx.length →
      let full := counted (fun c => { c with overrun := bump c.overrun })
      ((s.port p).overrun = true → exec (.frameReceived p cut bytes) s = .next (serve full)) ∧
      ((s.port p).overrun = false →
        ∃ u, exec (.frameReceived p cut bytes) s = .next (serve u) ∧
          beyondRecorder u = beyondRecorder (full.modPort p (fun r => { r with overrun := true })) ∧
          (s.attention.flags.length = flagCount →
            (u.flag (overrunFlag p).index).cond = true ∧
            ((s.flag (overrunFlag p).index).cond = false → (u.flag (overrunFlag p).index).isSet = true)) ∧
          (s.recorder.state = .armed → s.recorder.cfg.sources.getLsbD 2 = true →
            u.recorder.triggers = bump s.recorder.triggers ∧
            (u.recorder.buffer.head?.map (fun e => (e.marks, e.value))) =
              some ([.portOverrun], some (portNumber p))) ∧
          ((s.recorder.state = .off ∨ s.recorder.cfg.sources.getLsbD 2 = false) → u.recorder = s.recorder)))) ∧
  (∀ (cut : Bool) (bytes : List Byte),
     let n := bytes.length
     let at_ (i : Nat) : Nat := (bytes.getD i 0).toNat
     let code := at_ 2 / 16
     let count := at_ 2 % 16 + 1
     let body := match code with | 3 => 2 | 4 => 7 | _ => 6 * count
     let badFcs := cut = true ∨ n < 6 ∨ fcsOf (bytes.take (n - 2)) ≠ at_ (n - 2) * 256 + at_ (n - 1)
     let counts := code = 1 ∨ (code = 2 ∧ count ≤ 8) ∨ ((code = 3 ∨ code = 4) ∧ count = 1) ∨ (code = 5 ∧ count ≤ 8) ∨
       code = 6 ∨ code = 7
     (badFcs → checkFrame cut bytes = .fcsError) ∧
     (¬badFcs → counts → n ≠ 4 + body + 2 → checkFrame cut bytes = .lengthError) ∧
     (¬badFcs → ¬counts → checkFrame cut bytes = .kindError) ∧
     (¬badFcs → counts → n = 4 + body + 2 → at_ 1 = 0 → checkFrame cut bytes = .kindError) ∧
     (¬badFcs → counts → n = 4 + body + 2 → at_ 1 ≠ 0 → ∀ k : Kind, kindCode k = code → checkFrame cut bytes =
       .good { dest := at_ 0, src := at_ 1, kind := k, count := count, tag := at_ 3, body := (bytes.drop 4).take body }))

/-- A symbol other than PAUSE restarts the link-down timer and ends DOWN and DISABLED; an IDLE or a start delimiter that
meets a frame being received counts it as cut off, an FCS error with FRAME-ERRORS, and a start delimiter begins a frame.
The rest of a frame that a restart discarded is not counted.
A RESUME does the same as an IDLE and, in PAUSED, also makes the port ACTIVE and stops the pause timer. How symbols
stand for a frame is the model's choice (log entry 15). -/
def Obligations.SymbolIsReceived : Prop :=
  ∀ (p : Port) (s : State), s.held = false →
    let r := s.port p
    let cut (more : Bool) := decide (r.receiving = .inFrame) && more
    let counted (more : Bool) : PortCounters :=
      if cut more then { r.counters with fcsError := bump r.counters.fcsError } else r.counters
    let noted (more : Bool) : State := if cut more then raiseFlag .frameErrors s else s
    (∀ y, ∃ u, exec (.symbolReceived p y) s = .next (serve u) ∧
      u.port p = { r with
        linkTimer := some (s.now + 2), state := if r.state = .paused then .paused else .active,
        receiving := (match y with | .startDelimiter => .inFrame | .frameByte => r.receiving | .idle => .none),
        counters := counted (decide (y ≠ .frameByte)) } ∧
      beyondAttention u = beyondAttention (s.modPort p (fun _ => u.port p)) ∧
      u.attention = (setCondition (linkFlag p) false (noted (decide (y ≠ .frameByte)))).attention) ∧
    (∃ u, exec (.resumeReceived p) s = .next (serve u) ∧
      u.port p = { r with
        linkTimer := some (s.now + 2), state := .active, receiving := .none, counters := counted true,
        pauseTimer := if r.state = .paused then none else r.pauseTimer } ∧
      beyondAttention u = beyondAttention (s.modPort p (fun _ => u.port p)) ∧
      u.attention = (setCondition (linkFlag p) false (noted true)).attention)

/-- A PAUSE is counted, starts the pause timer at 20 ms afresh and makes the port PAUSED from every state; the expiry of
the pause timer, once time has come to it, makes a PAUSED port ACTIVE. The link-down timer, once time has come to it,
takes the port to DOWN, counted, with its condition begun; the pause timer stops, and the frame in flight, the buffer,
OVERRUN and the flow state and symbol are kept. A PAUSE and a link-down first count a frame being received as cut off, an
FCS error with FRAME-ERRORS, whose notice an idle S-port may begin (the model's reading, log entries 15 and 17). -/
def Obligations.PauseAndLinkTimersExpire : Prop :=
  ∀ (p : Port) (s : State), s.held = false →
    let cut : State := serve (if (s.port p).receiving = .inFrame then
        raiseFlag .frameErrors (s.modPort p (fun r => { r with
          receiving := .none, counters := { r.counters with fcsError := bump r.counters.fcsError } }))
      else s.modPort p (fun r => { r with receiving := .none }))
    exec (.pauseReceived p) s = .next (serve (setCondition (linkFlag p) false (cut.modPort p (fun r => { r with
      state := .paused, pauseTimer := some (s.now + 20), linkTimer := some (s.now + 2),
      counters := { r.counters with pauseReceived := bump r.counters.pauseReceived } })))) ∧
    (∀ m, (s.port p).pauseTimer = some m → m ≤ s.now →
      exec (.pauseTimerExpiry p) s = .next (serve (if (s.port p).state = .paused then
          setCondition (linkFlag p) false (s.modPort p (fun r => { r with state := .active, pauseTimer := none }))
        else s))) ∧
    (∀ m, (s.port p).linkTimer = some m → m ≤ s.now →
      exec (.linkDownExpiry p) s = .next (serve (setCondition (linkFlag p) true (cut.modPort p (fun r => { r with
        state := .down, pauseTimer := none, linkTimer := none,
        counters := { r.counters with linkDown := bump r.counters.linkDown } })))))

/-- A frame that completes frees its transmitter, is counted, and lets a pending flow symbol go out before anything
else, each PAUSE sent counted. A query's completion takes it out of flight, and an entry still in WAITING-SEND enters
SENT with one attempt more and its answer timer running; an entry that has left it is otherwise left alone. The premise
on the generation is the model's reading (log entry 13). -/
def Obligations.FrameCompletes : Prop :=
  ∀ (p : Port) (s : State) (snd : Sending), s.held = false → (s.port p).tx = some snd →
    let r := s.port p
    let freed := s.modPort p (fun _ => { r with
      tx := none, symbol := if r.state = .disabled then r.symbol else .none,
      counters := { r.counters with
        framesSent := bump r.counters.framesSent,
        pauseSent := if r.state ≠ .disabled ∧ r.symbol = .pause then bump r.counters.pauseSent
          else r.counters.pauseSent } })
    ((snd.item = .plain ∨ ∃ t, snd.item = .trip t) → exec (.frameCompletes p) s = .next (serve freed)) ∧
    (∀ i g, snd.item = .query i g → (s.queryEntry i).gen = g →
      exec (.frameCompletes p) s = .next (serve (freed.modQuery i (fun e =>
        if e.state = .waitingSend then
          { e with inFlight := false, state := .sent, attempts := min (e.attempts + 1) 15,
                   answerTimer := some (s.now + s.query.timeout) }
        else { e with inFlight := false }))))

/-- A RESET takes effect when its DONE completes: every block takes its power-on values but for the setup lock, the
plant clock, the station number and strap value, the half-hour and day rings, each OPEN channel's with its CUT records
appended, and, under the lock, the configuration of the lines and channels; a frame being received is discarded. That
the strap value stays is the model's reading (log entry 23). -/
def Obligations.ResetTakesEffect : Prop :=
  ∀ (p : Port) (s : State) (fr : Frame), s.held = false → (s.port p).tx = some ⟨fr, .resetDone⟩ →
    s.emission.channels.length = Config.channels →
    ∃ u, exec (.frameCompletes p) s = .next (serve u) ∧
      u.part = { station := s.part.station, strap := s.part.strap, state := .setup, lock := s.part.lock, signature := 0,
                 collector := 0, pendingResets := 0 } ∧
      u.clock = s.clock ∧ u.now = s.now ∧ u.held = false ∧ u.pending = s.pending ∧
      u.points = List.replicate 1024 .blank ∧ u.fwd = .powerOn ∧ u.query = .powerOn ∧ u.arbiter = .powerOn ∧
      u.guard = .powerOn ∧ u.dispatch = .powerOn ∧ u.recorder = .powerOn ∧ 
      (∀ q, u.port q = { PortRec.powerOn s.now with
        receiving := if (s.port q).receiving = .none then .none else .discarding }) ∧ u.attention = .powerOn s.clock.unset ∧
      (∀ l, u.line l = { if s.part.lock then s.line l else LineRec.powerOn with operating := true, state := .normal }) ∧
      (∀ c < 16, (u.channel c).cfg = (if s.part.lock then (s.channel c).cfg else .powerOn) ∧
        (u.channel c).run = .idle 0 0 0 ∧
        (u.channel c).half = (if (s.channel c).run.opened then
          (halfRecord true (s.channel c) :: (s.channel c).half).take 48 else (s.channel c).half) ∧
        ((s.channel c).run.opened = false → (u.channel c).days = (s.channel c).days) ∧
        ((s.channel c).run.opened = true →
          ∃ d, (u.channel c).days = (d :: (s.channel c).days).take 31 ∧ d.status = .cut ∧ d.average = none ∧
            d.day = (s.channel c).run.accDay ∧ d.valid = (s.channel c).run.accValid ∧
            d.invalid = bump (s.channel c).run.accInvalid ∧ d.signature = s.part.signature))

/-- POWER_ON reads the straps, clamps 0 and 255 to station 254, and gives every block its power-on values;
POWER_ON_RESET holds the part in reset, as at power-on with no timer running; the queue of waiting commands is the
model's and stays. Its fields `held`, `now`, `handed` and the held part are the model's choices (log entries 3, 5 and
23). -/
def Obligations.PowerOnValues : Prop :=
  (∀ (n : Nat) (s : State),
    ∃ t, exec (.powerOn n) s = .next t ∧ t.held = false ∧ t.now = 0 ∧ t.pending = s.pending ∧
      t.part = { station := if n = 0 ∨ n = 255 then 254 else n, strap := n, state := .setup, lock := false, signature := 0,
                 collector := 0, pendingResets := 0 } ∧
      t.clock = { day := 0, ms := 0, unset := true, handed := (0, 0) } ∧ t.points = List.replicate 1024 .blank ∧
      t.fwd = .powerOn ∧ t.query = .powerOn ∧ t.arbiter = .powerOn ∧ t.guard = .powerOn ∧ t.emission = .powerOn ∧
      t.dispatch = .powerOn ∧ t.recorder = .powerOn ∧ t.attention = .powerOn true ∧
      (∀ p, t.port p = { rate := .r10, state := .active, rx := [], overrun := false, holding := false, symbol := .none,
                         tx := none, pauseTimer := none, linkTimer := some 2, receiving := .none, restarts := [],
                         counters := .zero })) ∧
  (∀ s : State,
    ∃ t, exec .powerOnReset s = .next t ∧ t.held = true ∧ t.pending = s.pending ∧ t.part.lock = false ∧
      t.part.state = .setup ∧ t.clock = .powerOn ∧ t.points = List.replicate 1024 .blank ∧ t.fwd = .powerOn ∧
      t.query = .powerOn ∧ t.arbiter = .powerOn ∧ t.guard = .powerOn ∧ t.emission = .powerOn ∧ t.dispatch = .powerOn ∧
      t.recorder = .powerOn ∧ t.attention = .powerOn true ∧
      ∀ p, (t.port p).tx = none ∧ (t.port p).linkTimer = none ∧ (t.port p).rx = [])

/-! ### Forwarding -/

/-- Which command a frame at the head of a receive buffer is, by its source, destination and kind. On the S-port, after
the source checks: to the part SETUP, ORDER and QUERY, anything else dropped; to every station ORDER accepted, QUERY
dropped, the rest passed through; to a station inside a window ORDER accepted, QUERY taken, the rest passed through; to
any other station dropped. On the F-port, after the source checks: a REPORT to the point table; to the part an ANSWER,
anything else dropped; to destination 0 or inside a window dropped; the rest passed up. `routeSetup` gives an unknown
operation to the WRITE row (the model's choice, log entry 18). That the F-port's row of the part comes before that of a
window, where a window of SETUP holds the part, is the model's reading (log entry 20). -/
def Obligations.FramesAreRouted : Prop :=
  ∀ (s : State) (f : Frame),
    (∀ p, f.src = s.part.station → route p s f = .addressConflict p f) ∧
    (f.src ≠ s.part.station →
      ((fieldSide s f.src = true ∨ f.src = 255) → route .sPort s f = .sPortFrameDropped f) ∧
      (fieldSide s f.src = false → f.src ≠ 255 →
        (f.dest = s.part.station →
          (f.kind = .setup → route .sPort s f = routeSetup f) ∧ (f.kind = .order → route .sPort s f = .orderToPart f) ∧
          (f.kind = .query → route .sPort s f = .queryToPart f) ∧
          (f.kind ≠ .setup → f.kind ≠ .order → f.kind ≠ .query → route .sPort s f = .sPortFrameDropped f)) ∧
        (f.dest ≠ s.part.station →
          ((f.dest = 255 ∨ fieldSide s f.dest = true) →
            (f.kind = .order → route .sPort s f = .orderFrameAcceptance f) ∧
            (f.kind = .query →
              route .sPort s f = if f.dest = 255 then .sPortFrameDropped f else .supervisoryQuery f) ∧
            (f.kind ≠ .order → f.kind ≠ .query → route .sPort s f = .passThroughEntry f)) ∧
          (f.dest ≠ 255 → fieldSide s f.dest = false → route .sPort s f = .sPortFrameDropped f))) ∧
      (fieldSide s f.src = false → route .fPort s f = .fieldFrameDropped f) ∧
      (fieldSide s f.src = true →
        (f.kind = .report → route .fPort s f = .fieldReport f) ∧
        (f.kind ≠ .report →
          (f.dest = s.part.station →
            route .fPort s f = if f.kind = .answer then .fieldAnswer f else .fieldFrameDropped f) ∧
          (f.dest ≠ s.part.station →
            ((f.dest = 0 ∨ fieldSide s f.dest = true) → route .fPort s f = .fieldFrameDropped f) ∧
            (f.dest ≠ 0 → fieldSide s f.dest = false → route .fPort s f = .upPassThrough f)))))

/-- A frame with the part's own station as source is counted, raises ADDRESS-CONFLICT, and hands the dispatch unit the
cause CONFLICT: HOLD from RUN, the cause replaced in HOLD, nothing in STOPPED. Beyond what a wake reaches nothing else
changes. -/
def Obligations.AddressConflictHoldsDispatch : Prop :=
  ∀ (p : Port) (f : Frame) (s : State), Takes p f (.addressConflict p f) s → s.attention.flags.length = flagCount →
    ∃ u, exec (.addressConflict p f) s = .next (serve u) ∧
      u.fwd.counters.addressConflict = bump s.fwd.counters.addressConflict ∧ (u.flag 16).isSet = true ∧
      (s.dispatch.state = .run →
        u.dispatch.state = .hold ∧ u.dispatch.cause = some .conflict ∧ u.dispatch.holds = bump s.dispatch.holds) ∧
      (s.dispatch.state = .hold →
        u.dispatch.state = .hold ∧ u.dispatch.cause = some .conflict ∧ u.dispatch.holds = s.dispatch.holds) ∧
      (s.dispatch.state = .stopped → u.dispatch.state = .stopped ∧ u.dispatch.cause = s.dispatch.cause) ∧
      beyondWake u = beyondWake (taken p f s)

/-- A frame that the part drops is counted by its reason, a misroute with its flag, and acts on nothing else; a field
frame to another field station is let go uncounted. That a field frame to the part counts as one to the part also where
a window of SETUP holds the part's station is the model's reading (log entry 20). -/
def Obligations.DroppedFramesAreCounted : Prop :=
  (∀ (f : Frame) (s : State), Takes .sPort f (.sPortFrameDropped f) s →
    let t := taken .sPort f s
    let c := s.fwd.counters
    let counted (c : FwdCounters) : State := { t with fwd := { t.fwd with counters := c } }
    ((fieldSide s f.src = true ∨ f.src = 255) →
      exec (.sPortFrameDropped f) s = .next (serve (counted { c with sourceWindow := bump c.sourceWindow }))) ∧
    (fieldSide s f.src = false → f.src ≠ 255 →
      (f.dest = s.part.station →
        exec (.sPortFrameDropped f) s = .next (serve (counted { c with toPartKind := bump c.toPartKind }))) ∧
      (f.dest ≠ s.part.station → f.dest = 255 →
        exec (.sPortFrameDropped f) s = .next (serve (counted { c with broadcastQuery := bump c.broadcastQuery }))) ∧
      (f.dest ≠ s.part.station → f.dest ≠ 255 →
        exec (.sPortFrameDropped f) s =
          .next (serve (raiseFlag .misroute (counted { c with misroute := bump c.misroute })))))) ∧
  (∀ (f : Frame) (s : State), Takes .fPort f (.fieldFrameDropped f) s →
    let t := taken .fPort f s
    let c := s.fwd.counters
    let counted (c : FwdCounters) : State := { t with fwd := { t.fwd with counters := c } }
    (fieldSide s f.src = false →
      exec (.fieldFrameDropped f) s = .next (serve (counted { c with fieldSource := bump c.fieldSource }))) ∧
    (fieldSide s f.src = true →
      (f.dest = s.part.station →
        exec (.fieldFrameDropped f) s = .next (serve (counted { c with fieldToPart := bump c.fieldToPart }))) ∧
      (f.dest ≠ s.part.station → f.dest = 0 →
        exec (.fieldFrameDropped f) s =
          .next (serve (raiseFlag .misroute (counted { c with misroute := bump c.misroute })))) ∧
      (f.dest ≠ s.part.station → f.dest ≠ 0 → exec (.fieldFrameDropped f) s = .next (serve t))))

/-- An ORDER to the part is judged entry by entry in frame order, and one STATUS names the refused entries in their
order. An entry for a configured SELF point writes it, clamped into its range, GOOD and FRESH with its timer restarted;
its consumers wake, its upstream entry is handed on if the write changed what the point shows, and cycle occasions are
acted on. One for a point with another owner is refused MISMATCH, and any other UNKNOWN-POINT, changing nothing. The
order of upstream entry and cycle occasions after the wake is the model's (log entries 7 and 12), as is the service of
what appears between (entry 17). -/
def Obligations.OrderToPartWritesPoints : Prop :=
  (∀ (f : Frame) (s : State), Takes .sPort f (.orderToPart f) s →
    let a := judgeEntries takeSelfEntry (orderEntries f) (taken .sPort f s)
    exec (.orderToPart f) s = .next (serve (if a.1 = [] then a.2 else
      { a.2 with fwd := { a.2.fwd with outbox := a.2.fwd.outbox ++
          [⟨{ dest := f.src, src := s.part.station, kind := .status, count := a.1.length, tag := f.tag,
              body := a.1.flatMap (fun r => pointWord 0 r.1 ++ [byteOf (statusCode r.2), 0, 0, 0]) }, .plain⟩] } }))) ∧
  (∀ (p : Nat) (v : Value) (s : State),
    (p < 1024 → (s.point p).configured = true → (s.point p).owner = .self →
      let s1 := s.modPoint p (fun r => { r with
        value := clampTo r.low r.high v, quality := .good, fresh := .fresh, updated := s.now,
        lastUpdate := some ⟨s.clock.day, s.clock.ms, s.clock.unset⟩,
        timer := if r.limit = 0 then none else some (s.now + r.limit) })
      let q := s1.point p
      let woken := wakeConsumers p s1
      takeSelfEntry (p, v) s = (none, settle (serve (
        if (s.point p).effValue = q.effValue ∧ (s.point p).effQuality = q.effQuality then woken
        else handUpstream ⟨p, q.effValue, qualityCode q.effQuality, q.cls⟩ woken))) ∧
      beyondWake (takeSelfEntry (p, v) s).2 = beyondWake s1) ∧
    (∀ n, p < 1024 → (s.point p).configured = true → (s.point p).owner = .station n →
      takeSelfEntry (p, v) s = (some .mismatch, s)) ∧
    ((1024 ≤ p ∨ (s.point p).configured = false) → takeSelfEntry (p, v) s = (some .unknownPoint, s)))

/-- A QUERY to the part is answered at once: a configured point with its effective value and quality code and status
0, any other number with value 0, code BAD and status NO-POINT 1. Nothing else changes. -/
def Obligations.QueryToPartIsAnswered : Prop :=
  ∀ (f : Frame) (s : State), Takes .sPort f (.queryToPart f) s →
    let t := taken .sPort f s
    let p := queryPoint f
    let answered (code : Nat) (v : Value) (st : Nat) : State := { t with fwd := { t.fwd with outbox := t.fwd.outbox ++
      [⟨{ dest := f.src, src := s.part.station, kind := .answer, count := 1, tag := f.tag,
          body := pointWord code p ++ signedBytes v ++ [byteOf st] }, .plain⟩] } }
    ((p < 1024 ∧ (s.point p).configured = true) →
      exec (.queryToPart f) s =
        .next (serve (answered (qualityCode (s.point p).effQuality) (s.point p).effValue 0))) ∧
    (¬(p < 1024 ∧ (s.point p).configured = true) → exec (.queryToPart f) s = .next (serve (answered 2 0 1)))

/-- An ORDER frame that finds fewer free places in the order queue than it has entries is refused whole: counted,
offered to the recorder as BUSY with its first entry where the kind selection has ORDER, every entry named BUSY.
Otherwise its entries are judged in frame order and one STATUS names the refused ones: an entry for a configured point
of another owner is counted and refused MISMATCH; an unguarded one joins the queue with the next acceptance number; a
guarded one is the guard's, refused HELD or OWNED or taken. An entry placed is served at once by an idle transmitter
(the model's reading, log entry 17). Of two records for one point the lowest index counts (entry 10). -/
def Obligations.OrderFrameIsAccepted : Prop :=
  (∀ (f : Frame) (s : State), Takes .sPort f (.orderFrameAcceptance f) s →
    let t := taken .sPort f s
    let reply (rs : List (Nat × Status)) (u : State) : State := { u with fwd := { u.fwd with outbox := u.fwd.outbox ++
      [⟨{ dest := f.src, src := s.part.station, kind := .status, count := rs.length, tag := f.tag,
          body := rs.flatMap (fun r => pointWord 0 r.1 ++ [byteOf (statusCode r.2), 0, 0, 0]) }, .plain⟩] } }
    (32 < t.fwd.orders.length + f.count →
      exec (.orderFrameAcceptance f) s = .next (serve (recordBusy f
        (reply ((orderEntries f).map (fun e => (e.1, .busy)))
          { t with fwd := { t.fwd with counters := { t.fwd.counters with busy := bump t.fwd.counters.busy } } })))) ∧
    (t.fwd.orders.length + f.count ≤ 32 →
      let a := judgeEntries (judgeOrderEntry f) (orderEntries f) t
      exec (.orderFrameAcceptance f) s = .next (serve (if a.1 = [] then a.2 else reply a.1 a.2)))) ∧
  (∀ (f : Frame) (p : Nat) (v : Value) (s : State),
    let r := s.point p
    let wrong := p < 1024 ∧ r.configured = true ∧
      (r.owner = .self ∨ ∃ n, r.owner = .station n ∧ if f.dest = 255 then fieldSide s n = false else n ≠ f.dest)
    (wrong → judgeOrderEntry f (p, v) s = (some .mismatch, { s with fwd := { s.fwd with
      counters := { s.fwd.counters with mismatch := bump s.fwd.counters.mismatch } } })) ∧
    (¬wrong → (∀ i < 96, ¬((s.guardRec i).configured = true ∧ (s.guardRec i).point = p)) →
      judgeOrderEntry f (p, v) s = (none, serve { s with fwd := { s.fwd with
        orders := s.fwd.orders ++ [.order f.dest p v f.src false s.fwd.acceptance],
        acceptance := s.fwd.acceptance + 1 } })) ∧
    (∀ i < 96, ¬wrong → (s.guardRec i).configured = true → (s.guardRec i).point = p →
      (∀ j < i, ¬((s.guardRec j).configured = true ∧ (s.guardRec j).point = p)) →
      (judgeOrderEntry f (p, v) s).2 = serve (guardOrder (.supervisory f.dest f.src) i v s).2 ∧
      (judgeOrderEntry f (p, v) s).1 = (match (guardOrder (.supervisory f.dest f.src) i v s).1 with
        | .held => some .held | .owned => some .owned | .taken => none | .dropped => none))) ∧
  (∀ (f : Frame) (s : State), f.kind = .order → recordBusy f s =
    if s.recorder.cfg.kindSel.getLsbD 1 = true then
      enterRecord { number := 0, time := ⟨0, 0, false⟩, origin := .sPort, kind := some .order, src := some f.src,
                    dest := some f.dest, count := f.count, point := some (orderEntryAt f 0).1,
                    value := some (orderEntryAt f 0).2, outcome := some .busy, marks := [] } s
    else s)

/-- A pass-through frame takes a place in the order queue as it stands with the next acceptance number; a full queue
refuses it with BUSY for point 0, counted. A field frame passed up joins the up pass-through queue unchanged while it
holds fewer than 8; at a full one it is dropped and counted. -/
def Obligations.PassedFramesQueueUnchanged : Prop :=
  (∀ (f : Frame) (s : State), Takes .sPort f (.passThroughEntry f) s →
    let t := taken .sPort f s
    (t.fwd.orders.length < 32 →
      exec (.passThroughEntry f) s = .next (serve { t with fwd := { t.fwd with
        orders := t.fwd.orders ++ [.pass f s.fwd.acceptance], acceptance := s.fwd.acceptance + 1 } })) ∧
    (32 ≤ t.fwd.orders.length →
      exec (.passThroughEntry f) s = .next (serve { t with fwd := { t.fwd with
        counters := { s.fwd.counters with busy := bump s.fwd.counters.busy },
        outbox := t.fwd.outbox ++
          [⟨{ dest := f.src, src := s.part.station, kind := .status, count := 1, tag := f.tag,
              body := [0, 0, 2, 0, 0, 0] }, .plain⟩] } }))) ∧
  (∀ (f : Frame) (s : State), Takes .fPort f (.upPassThrough f) s →
    let t := taken .fPort f s
    (t.fwd.upPass.length < 8 →
      exec (.upPassThrough f) s = .next (serve { t with fwd := { t.fwd with upPass := t.fwd.upPass ++ [f] } })) ∧
    (8 ≤ t.fwd.upPass.length →
      exec (.upPassThrough f) s = .next (serve { t with fwd := { t.fwd with
        counters := { s.fwd.counters with upPassDrop := bump s.fwd.counters.upPassDrop } } })))

/-- A supervisory QUERY is judged by the first case that applies: its key in an entry that waits or was sent gives
PENDING; its key in an entry that is DONE or FAILED delivers the stored answer and frees the entry; a free entry is
allocated to it with the next acceptance number and generation, PENDING; otherwise it is counted and refused BUSY. -/
def Obligations.SupervisoryQueryIsTaken : Prop :=
  ∀ (f : Frame) (s : State), Takes .sPort f (.supervisoryQuery f) s → s.query.entries.length = 8 →
    let t := taken .sPort f s
    let keyed (i : Nat) : Prop := (s.queryEntry i).state ≠ .free ∧ (s.queryEntry i).origin = f.src ∧
      (s.queryEntry i).dest = f.dest ∧ (s.queryEntry i).point = queryPoint f ∧ (s.queryEntry i).tag = f.tag
    let reply (fr : Frame) (u : State) : State :=
      { u with fwd := { u.fwd with outbox := u.fwd.outbox ++ [⟨fr, .plain⟩] } }
    let status (c : Status) : Frame :=
      { dest := f.src, src := s.part.station, kind := .status, count := 1, tag := f.tag,
        body := pointWord 0 (queryPoint f) ++ [byteOf (statusCode c), 0, 0, 0] }
    (∀ i < 8, keyed i → (∀ j < i, ¬keyed j) →
      (((s.queryEntry i).state = .waitingSend ∨ (s.queryEntry i).state = .sent) →
        exec (.supervisoryQuery f) s = .next (serve (reply (status .pending) t))) ∧
      (((s.queryEntry i).state = .done ∨ (s.queryEntry i).state = .failed) →
        ∀ a, (s.queryEntry i).answer = some a →
        exec (.supervisoryQuery f) s = .next (serve ((reply
          { dest := f.src, src := s.part.station, kind := .answer, count := 1, tag := f.tag,
            body := pointWord a.code a.point ++ signedBytes a.value ++ [byteOf a.status] } t).modQuery i
          (fun e => { state := .free, origin := 0, dest := 0, point := 0, tag := 0, attempts := 0,
                      inFlight := e.inFlight, gen := e.gen, answer := none, seq := 0, answerTimer := none,
                      discardTimer := none }))))) ∧
    ((∀ i < 8, ¬keyed i) →
      (∀ i < 8, (s.queryEntry i).state = .free → (∀ j < i, (s.queryEntry j).state ≠ .free) →
        exec (.supervisoryQuery f) s = .next (serve (reply (status .pending)
          { t with
            fwd := { t.fwd with acceptance := s.fwd.acceptance + 1 },
            query := { t.query with entries := t.query.entries.modify i (fun e =>
              { state := .waitingSend, origin := f.src, dest := f.dest, point := queryPoint f, tag := f.tag,
                attempts := 0, inFlight := false, gen := (e.gen + 1) % 32, answer := none, seq := s.fwd.acceptance,
                answerTimer := none, discardTimer := none }) } }))) ∧
      ((∀ i < 8, (s.queryEntry i).state ≠ .free) →
        exec (.supervisoryQuery f) s = .next (serve (reply (status .busy)
          { t with query := { t.query with
              counters := { s.query.counters with queryBusy := bump s.query.counters.queryBusy } } }))))

/-- A field REPORT acts entry by entry in frame order: the point table first, then the upstream queue, unless its
destination is another field station. The point table accepts an entry from the point's owner, with code 0 as GOOD, 1 as
UNCERTAIN and any other as BAD: guard terms, channels, lines and dispatch inputs wake in that order, and then cycle
occasions are acted on (log entries 7 and 12). It counts one from another station as foreign and leaves unconfigured
points alone. The queue takes an entry in the place of one for its point; refuses a ROUTINE one, counted, in THINNING or
when full; loses an ESSENTIAL one, counted and flagged, when full; else it goes to the tail, and the high watermark
begins THINNING. That a REPORT to the part goes upstream whatever the windows hold is the model's reading (log entry
20). -/
def Obligations.FieldReportUpdatesPoints : Prop :=
  (∀ (f : Frame) (s : State), Takes .fPort f (.fieldReport f) s →
    exec (.fieldReport f) s = .next (serve ((reportEntries f).foldl (fun u e =>
      let v := takeReportEntry f.src e u
      serve (if f.dest = s.part.station ∨ fieldSide s f.dest = false then
        handUpstream ⟨e.point, e.value, e.code,
          if (v.point e.point).configured = true then (v.point e.point).cls else .routine⟩ v
      else v)) (taken .fPort f s)))) ∧
  (∀ (src : Nat) (e : ReportEntry) (s : State),
    let p := e.point
    let quality : Quality := match e.code with | 0 => .good | 1 => .uncertain | _ => .bad
    (p < 1024 → (s.point p).configured = true → (s.point p).owner = .station src →
      let s1 := s.modPoint p (fun r => { r with
        value := e.value, quality := quality, fresh := .fresh,
        updated := s.now, lastUpdate := some ⟨s.clock.day, s.clock.ms, s.clock.unset⟩,
        timer := if r.limit = 0 then none else some (s.now + r.limit) })
      takeReportEntry src e s =
        settle (wakeDispatch p (wakeLines p (wakeChannels p e.value quality (wakeGuard p s1)))) ∧
      beyondWake (takeReportEntry src e s) = beyondWake s1) ∧
    (p < 1024 → (s.point p).configured = true → (s.point p).owner ≠ .station src →
      takeReportEntry src e s = s.modPoint p (fun r => { r with foreign := bump r.foreign })) ∧
    ((1024 ≤ p ∨ (s.point p).configured = false) → takeReportEntry src e s = s)) ∧
  (∀ (e : UpEntry) (s : State),
    let c := s.fwd.counters
    let queued := ∃ x ∈ s.fwd.up, x.point = e.point
    let full := 128 ≤ s.fwd.up.length
    (queued → handUpstream e s = { s with fwd := { s.fwd with
      up := s.fwd.up.map (fun x => if x.point = e.point then e else x) } }) ∧
    (¬queued →
      (e.cls = .routine → (s.fwd.thinning = true ∨ full) → handUpstream e s = { s with fwd := { s.fwd with
        counters := { c with thinningRefusal := bump c.thinningRefusal } } }) ∧
      (e.cls = .essential → full → handUpstream e s = raiseFlag .upstreamLoss { s with fwd := { s.fwd with
        counters := { c with upstreamLoss := bump c.upstreamLoss } } }) ∧
      ((e.cls = .essential ∨ s.fwd.thinning = false) → ¬full →
        (s.fwd.up.length + 1 < s.fwd.highMark →
          handUpstream e s = { s with fwd := { s.fwd with up := s.fwd.up ++ [e] } }) ∧
        (s.fwd.highMark ≤ s.fwd.up.length + 1 →
          handUpstream e s = setCondition .thinning true
            { s with fwd := { s.fwd with up := s.fwd.up ++ [e], thinning := true } }))))

/-- A field ANSWER that names an entry by its tag, with its generation, station and point, completes it as DONE with the
answer as carried and the discard timer running, if it waits or was sent; any other is counted as late and changes nothing
else. -/
def Obligations.FieldAnswerCompletesItsQuery : Prop :=
  ∀ (f : Frame) (s : State), Takes .fPort f (.fieldAnswer f) s →
    let t := taken .fPort f s
    let i := f.tag / 32
    let e := s.queryEntry i
    let matched := (e.state = .waitingSend ∨ e.state = .sent) ∧ e.gen = f.tag % 32 ∧ e.dest = f.src ∧
      e.point = (answerOf f).point
    (matched → exec (.fieldAnswer f) s = .next (serve (t.modQuery i (fun e => { e with
      state := .done, answer := some (answerOf f), answerTimer := none,
      discardTimer := some (s.now + if s.query.long then 20000 else 2000) })))) ∧
    (¬matched → exec (.fieldAnswer f) s = .next (serve { t with query := { t.query with
      counters := { s.query.counters with lateAnswer := bump s.query.counters.lateAnswer } } }))

/-! ### Timers and the plant clock -/

/-- A freshness timer's expiry, once time has come to it, makes the point EXPIRED and stops its timer; its consumers
wake, POINT-STALE rises for an ESSENTIAL point, a SELF point hands its entry upstream if that changed what it shows, and
cycle occasions are acted on. Beyond what a wake reaches nothing else changes. That POINT-STALE, the upstream entry and
the cycle occasions follow the wake in this order is the model's (log entries 7 and 12), as is the service of what
appears between (entry 17). -/
def Obligations.FreshnessExpires : Prop :=
  ∀ (p : Nat) (s : State) (m : Nat), s.held = false → (s.point p).timer = some m → m ≤ s.now →
    let s1 := s.modPoint p (fun r => { r with fresh := .expired, timer := none })
    let q := s1.point p
    let woken := wakeConsumers p s1
    let noted := if q.cls = .essential then raiseFlag .pointStale woken else woken
    let shows := ¬((s.point p).effValue = q.effValue ∧ (s.point p).effQuality = q.effQuality)
    ∃ u, exec (.freshnessExpiry p) s = .next (serve u) ∧
      u = settle (serve (if q.configured = true ∧ q.owner = .self ∧ shows then
          handUpstream ⟨p, q.effValue, qualityCode q.effQuality, q.cls⟩ noted
        else noted)) ∧
      beyondWake u = beyondWake s1 ∧
      ((s.point p).cls = .essential → s.attention.flags.length = flagCount → (u.flag 19).isSet = true)

/-- An answer timer's expiry, once time has come to it, sends the query again while its attempts are under the limit,
counted; at the limit the entry is FAILED with NO-ANSWER, its discard timer running, counted, with QUERY-NO-ANSWER. A
discard timer's expiry frees the entry, keeping its generation and in-flight mark, counted, with QUERY-DISCARD. -/
def Obligations.QueryTimersExpire : Prop :=
  (∀ (i : Nat) (s : State) (m : Nat), s.held = false → (s.queryEntry i).answerTimer = some m → m ≤ s.now →
    let c := s.query.counters
    let after (f : QueryEntry → QueryEntry) (c : QueryCounters) : State := { s with
      query := { s.query with entries := s.query.entries.modify i f, counters := c } }
    ((s.queryEntry i).attempts < s.query.attemptLimit →
      exec (.answerTimerExpiry i) s = .next (serve (after
        (fun e => { e with state := .waitingSend, answerTimer := none }) { c with resend := bump c.resend }))) ∧
    (s.query.attemptLimit ≤ (s.queryEntry i).attempts →
      exec (.answerTimerExpiry i) s = .next (serve (raiseFlag .queryNoAnswer (after
        (fun e => { e with state := .failed, answerTimer := none,
                           answer := some { point := e.point, code := 2, value := 0, status := 2 },
                           discardTimer := some (s.now + if s.query.long then 20000 else 2000) })
        { c with noAnswer := bump c.noAnswer }))))) ∧
  (∀ (i : Nat) (s : State) (m : Nat), s.held = false → (s.queryEntry i).discardTimer = some m → m ≤ s.now →
    exec (.discardTimerExpiry i) s = .next (serve (raiseFlag .queryDiscard { s with
      query := { s.query with
        entries := s.query.entries.modify i (fun e =>
          { state := .free, origin := 0, dest := 0, point := 0, tag := 0, attempts := 0, inFlight := e.inFlight,
            gen := e.gen, answer := none, seq := 0, answerTimer := none, discardTimer := none }),
        counters := { s.query.counters with discard := bump s.query.counters.discard } } })))

/-- A ramp timer's expiry, once time has come to it, for a CLEAR output in RUN whose issued value differs from its
target, issues one step toward the target, at most the output's step and clamped into its range: into the step slot,
replacing a pending step in its place, with the outcome RAMPED and the timer restarted while the target is not
reached. Otherwise the timer stops and nothing else changes. The replacing step's from value is the model's reading
(log entry 9). -/
def Obligations.RampTimerIssuesAStep : Prop :=
  ∀ (i : Nat) (s : State) (m : Nat), s.held = false → (s.guardRec i).rampTimer = some m → m ≤ s.now →
    let g := s.guardRec i
    let live (iss tgt : Value) : Prop := g.configured = true ∧ g.state = .clear ∧ s.part.state = .run ∧
      g.issued = some iss ∧ g.target = some tgt ∧ iss ≠ tgt
    (∀ iss tgt, live iss tgt →
      let hi := if g.restricted = true ∧ ∃ l, g.line = some l ∧ (s.line l).state = .restrict then g.rhigh else g.high
      let v := clampTo g.low hi
        (if g.rate = 0 then tgt else if iss < tgt then min tgt (iss + g.step) else max tgt (iss - g.step))
      exec (.rampTimerExpiry i) s = .next (serve
        (recordOutcome .part .ramped s.part.station (ownerStation s g.point) g.point v { s with
          guard := { s.guard with
            recs := s.guard.recs.modify i (fun g => { g with
              issued := some v, lastIssue := some s.now, rampTimer := if tgt = v then none else some (s.now + g.interval) }),
            steps := if s.guard.steps.any (fun q => decide (q.record = i)) then
                s.guard.steps.map (fun q => if q.record = i then ⟨i, v, iss⟩ else q)
              else s.guard.steps ++ [⟨i, v, iss⟩] } }))) ∧
    ((∀ iss tgt, ¬live iss tgt) →
      exec (.rampTimerExpiry i) s = .next (serve { s with
        guard := { s.guard with recs := s.guard.recs.modify i (fun g => { g with rampTimer := none }) } }))

/-- A period boundary that the clock has reached: every OPEN channel appends the record of its half-hour, at midnight
that of its day too, and opens the period entered; a line with an OPEN channel takes the emission state that its
enforcing channels then give. PERIOD-CLOSED rises if a closing channel has notice mode EVERY or its record is INVALID or
exceeded, DAY-CLOSED at midnight, PERIOD-CUT never. With no OPEN channel nothing else changes. The hypothesis says that
the part itself does not write the operating points, whose wake would set operated flags between the closes. The period
handed last is the model's field (log entry 5). -/
def Obligations.PeriodBoundaryClosesHalfHours : Prop :=
  ∀ (s : State), s.held = false → s.emission.channels.length = Config.channels →
    s.attention.flags.length = flagCount → (s.clock.day, s.clock.ms / 1800000) ≠ s.clock.handed →
    (∀ l, publishes s.emission s.dispatch.cfg (s.line l).opPoint = false) →
    let entered := if s.clock.handed.2 < 47 then (s.clock.handed.1, s.clock.handed.2 + 1)
      else ((s.clock.handed.1 + 1) % 65536, 0)
    let moved : State := { s with clock := { s.clock with handed := entered } }
    ((∀ c < 16, (s.channel c).run.opened = false) → exec .periodBoundary s = .next (serve moved)) ∧
    (∀ k < 16, (s.channel k).run.opened = true →
      ∃ u, exec .periodBoundary s = .next (serve u) ∧ beyondWake u = beyondWake moved ∧
        (∀ c < 16, (s.channel c).run.opened = true →
          let ch := s.channel c
          let h := halfRecord false ch
          (u.channel c).half = (h :: ch.half).take 48 ∧
          (u.channel c).days = (if entered.2 = 0 then
              (dayRecord false s.part.signature { ch with run := afterHalf ch h } :: ch.days).take 31
            else ch.days) ∧
          (u.channel c).run = openedRun moved { ch with run := afterHalf ch h }) ∧
        (∀ c < 16, (s.channel c).run.opened = false → u.channel c = s.channel c) ∧
        (∀ l, (s.line l).configured = true → (∃ c < 16, (s.channel c).run.opened = true ∧ (s.channel c).cfg.line = l) →
          (∀ c < 16, (s.channel c).run.opened = false → (s.channel c).run.warn = false) →
          ((∃ c < 16, (s.channel c).cfg.configured = true ∧ (s.channel c).cfg.line = l ∧
            (s.channel c).cfg.enforcing = true ∧ (u.channel c).run.latch = true) → (u.line l).state = .restrict) ∧
          (¬(∃ c < 16, (s.channel c).cfg.configured = true ∧ (s.channel c).cfg.line = l ∧
            (s.channel c).cfg.enforcing = true ∧ (u.channel c).run.latch = true) → (u.line l).state = .normal)) ∧
        ((u.flag 22).isSet = true ↔ (s.flag 22).isSet = true ∨ ∃ c < 16, (s.channel c).run.opened = true ∧
          ((s.channel c).cfg.exceptions = false ∨ (halfRecord false (s.channel c)).status = .invalid ∨
            (halfRecord false (s.channel c)).exceeded = true)) ∧
        (u.flag 23).isSet = (s.flag 23).isSet ∧
        ((u.flag 24).isSet = true ↔ (s.flag 24).isSet = true ∨ entered.2 = 0))

/-- A hold timer's expiry makes its input EXPIRED, its last value kept, and takes a unit in RUN to HOLD with cause
INPUT, counted; a unit in HOLD or STOPPED stays as it is; beyond what a wake reaches nothing else changes. The
hypothesis says that the part itself does not write the input's point. An unconfigured unit does nothing at a wake, the
demands included (the model's reading of R131, log entry 33). A wake of a configured one: a required input of that point
takes a usable value and is USABLE, without a timer; an unusable one makes a USABLE input HOLDING with the hold timer
running and leaves any other; a demand takes a usable value; the trip point's value is noted, and a changed one is a
cycle occasion of a unit not STOPPED; the three conditions are judged again, DISPATCH-HOLD, then TURBINE-TRIP, then
DEMAND-STALE. That order and the mark of an owed occasion are the model's (log entries 8 and 12). -/
def Obligations.InputHoldExpiryHoldsDispatch : Prop :=
  (∀ (i : ReqInput) (s : State) (m : Nat), s.held = false → (s.dispatch.input i).timer = some m → m ≤ s.now →
    publishes s.emission.plan s.dispatch.cfg (s.dispatch.cfg.inputPoint i) = false →
    ∃ u, exec (.inputHoldExpiry i) s = .next (serve u) ∧
      beyondWake u = beyondWake s ∧
      u.dispatch.input i = { last := (s.dispatch.input i).last, state := .expired, timer := none } ∧
      (s.dispatch.state = .run →
        u.dispatch.state = .hold ∧ u.dispatch.cause = some .input ∧ u.dispatch.holds = bump s.dispatch.holds) ∧
      (s.dispatch.state ≠ .run → u.dispatch.state = s.dispatch.state ∧ u.dispatch.cause = s.dispatch.cause ∧
        u.dispatch.holds = s.dispatch.holds)) ∧
  (∀ (p : Nat) (s : State),
    let d := s.dispatch
    let c := d.cfg
    let v := (s.point p).effValue
    let usable (q : Nat) : Prop := (s.point q).effQuality.usable = true
    let read (q : Nat) (r : InputRec) : InputRec :=
      if q ≠ p then r
      else if usable p then { last := some v, state := .usable, timer := none }
      else if r.state = .usable then { r with state := .holding, timer := some (s.now + d.oper.holdLimit) }
      else r
    (c.configured = false → wakeDispatch p s = s) ∧
    (c.configured = true →
      wakeDispatch p s =
        setCondition .demandStale (decide (d.state ≠ .stopped ∧ ¬(usable c.heat ∧ usable c.grid)))
          (setCondition .turbineTrip (decide (d.state ≠ .stopped ∧ (read c.trip d.trip).last.getD 0 ≠ 0))
            (setCondition .dispatchHold (decide (d.state = .hold)) { s with dispatch := { d with
              fa := read c.fa d.fa, fb := read c.fb d.fb, trip := read c.trip d.trip
              heat := if c.heat = p ∧ usable p then some v else d.heat
              grid := if c.grid = p ∧ usable p then some v else d.grid
              tripSeen := if c.trip = p then some v else d.tripSeen
              owed := decide (d.owed = true ∨
                (c.trip = p ∧ d.state ≠ .stopped ∧ d.tripSeen ≠ none ∧ d.tripSeen ≠ some v)) } }))))

/-- The cycle timer's expiry restarts it; in RUN one cycle runs, computed from the state as it stands, counted and
recorded, its orders handed, and its available steam, power and state go to the points that the table names; in HOLD
with cause INPUT and all inputs USABLE the unit returns to RUN and runs its first cycle; otherwise nothing else
changes. The hypotheses say that no other occasion waits and that the part itself does not write the trip point. Owed
occasions are the model's choice (log entry 12). -/
def Obligations.CycleTimerRunsOneCycle : Prop :=
  ∀ (s : State) (m : Nat), s.held = false → s.dispatch.timer = some m → m ≤ s.now → s.dispatch.owed = false →
    publishes s.emission.plan s.dispatch.cfg s.dispatch.cfg.trip = false →
    let d := s.dispatch
    let moved : State := { s with dispatch := { d with timer := some (s.now + d.oper.interval) } }
    let counted : State := { moved with dispatch := { moved.dispatch with
      cycleNo := (d.cycleNo + 1) % 65536, cycles := bump d.cycles } }
    let returns := d.state = .hold ∧ d.cause = some .input ∧ d.fa.state = .usable ∧ d.fb.state = .usable ∧
      d.trip.state = .usable
    ((d.state = .run ∨ returns) →
      ∃ u, exec .cycleTimerExpiry s = .next (serve u) ∧ beyondWake u = beyondWake moved ∧
        u.dispatch.state = .run ∧ u.dispatch.cause = (if d.state = .run then d.cause else none) ∧
        u.dispatch.first = false ∧ u.dispatch.timer = some (s.now + d.oper.interval) ∧
        u.dispatch.cycleNo = (d.cycleNo + 1) % 65536 ∧ u.dispatch.cycles = bump d.cycles ∧
        (d.state = .run →
          u.dispatch.record = some { computeCycle s with handed := (handAll (computeCycle s) counted).1 } ∧
          (∀ q, d.cfg.steamPoint = some q → d.cfg.powerPoint ≠ some q → d.cfg.statePoint ≠ some q → q < s.points.length →
            (u.point q).value = (computeCycle s).avail ∧ (u.point q).quality = .good ∧ (u.point q).fresh = .fresh) ∧
          (∀ q, d.cfg.powerPoint = some q → d.cfg.statePoint ≠ some q → q < s.points.length →
            (u.point q).value = (computeCycle s).power) ∧
          (∀ q, d.cfg.statePoint = some q → q < s.points.length → (u.point q).value = 1) ∧
          (d.cfg.steamPoint = none → d.cfg.powerPoint = none → d.cfg.statePoint = none →
            let h := handAll (computeCycle s) counted
            u = serve { h.2 with dispatch := { h.2.dispatch with
              first := false, record := some { computeCycle s with handed := h.1 } } }))) ∧
    ((d.state ≠ .run ∧ ¬returns) → exec .cycleTimerExpiry s = .next (serve moved))

/-! ### Setup: WRITE and READ -/

/-- WRITE judges in order, the first failure answering and changing nothing else: an operation code that the part does
not know, BAD-VALUE (the model's choice of row, log entry 18); an unknown table, BAD-TABLE; an index or field group
outside it, BAD-INDEX; a table or field not writable in the present part or recorder state, REFUSED-STATE; the line and
channel tables under the lock, REFUSED-LOCKED; a bad field, value, code or combination, BAD-VALUE. An empty list replies
DONE; otherwise all the fields are stored together, and DONE. What each table stores and refuses is stated in
WriteStoresSettings and WriteStartsRecordsAfresh. Where checks meet, the order is the model's reading, as it is that in
RUN a DISPATCH item outside the operating fields is refused by its state whether or not its offset begins a field (log
entry 19). -/
def Obligations.WriteChecksInOrder : Prop :=
  ∀ (f : Frame) (s : State), Takes .sPort f (.write f) s →
    let t := taken .sPort f s
    let k := headByte f 1
    let index := headWord f 2
    let items := writeItems f
    let refused (c : Status) : Prop := exec (.write f) s = .next (serve (replySetup f c t))
    (setupOp f ≠ 0 → refused .badValue) ∧
    (setupOp f = 0 →
      (21 ≤ k → refused .badTable) ∧
      (∀ tb, tableOfCode k = some tb →
        let outside := tb.holds index = false ∨ ∃ i ∈ items, tb.groups ≤ i.group
        let closed := 12 ≤ k ∨ (k ≤ 7 ∧ s.part.state = .run) ∨
          (k = 11 ∧ t.recorder.state ≠ .off ∧ t.recorder.state ≠ .frozen) ∨
          (∃ i ∈ items, readOnlyItem tb i = true) ∨
          (k = 8 ∧ s.part.state = .run ∧ ∃ i ∈ items, ¬(i.group = 2 ∧ 13 ≤ i.offset))
        let locked := s.part.lock = true ∧ (k = 6 ∨ k = 7)
        (outside → refused .badIndex) ∧
        (¬outside → closed → refused .refusedState) ∧
        (¬outside → ¬closed → locked → refused .refusedLocked) ∧
        (¬outside → ¬closed → ¬locked →
          (headByte f 4 ≠ items.length → refused .badValue) ∧
          (headByte f 4 = items.length →
            (items = [] → refused .done) ∧
            (items ≠ [] →
              (writeTable tb index items t = none → refused .badValue) ∧
              (∀ u, writeTable tb index items t = some u →
                exec (.write f) s = .next (serve (replySetup f .done u))))))))

/-- What a WRITE stores in the tables that need little of their owner: an enabled window with 1 ≤ base ≤ limit ≤ 254,
and no other enabled one; the collector station 0 to 254; a requester's level; watermarks with low below high, judged at
once; the query settings in their ranges; a flag's enable, and the clear mode of a CONDITION flag, AUTO clearing a set
flag, not forced, whose condition has ended; the recorder table, which leaves the governing configuration, the buffer
and the counters as they stand; the fields of the dispatch table, where a required input that names a new point, and all
three when the table becomes configured, start afresh, and a demand that names a new point has no value. Nothing else
changes, and a value outside is refused. LONG as code 1, a notice of THINNING served before the reply, and that a point
counts as new only where it differs from the old one are the model's readings (log entries 21, 17 and 19). The point,
guard, line and channel tables stand in WriteStartsRecordsAfresh. -/
def Obligations.WriteStoresSettings : Prop :=
  ∀ (s : State),
    (∀ i b l : Nat, i < 4 → s.fwd.windows.length = 4 →
      writeTable .window i [⟨0, 0, 1⟩, ⟨0, 1, b⟩, ⟨0, 2, l⟩] s =
        if 1 ≤ b ∧ b ≤ l ∧ l ≤ 254 then
          some { s with fwd := { s.fwd with windows := s.fwd.windows.set i ⟨true, b, l⟩ } }
        else none) ∧
    (∀ v : Nat, writeTable .part 0 [⟨0, 8, v⟩] s =
      if v ≤ 254 then some { s with part := { s.part with collector := v } } else none) ∧
    (∀ i v : Nat, i < 4 → ∃ a : Arbiter,
      writeTable .arbiterLevel i [⟨0, 0, v⟩] s = (if v < 3 then some { s with arbiter := a } else none) ∧
      (v < 3 → (∀ r, a.level r = if r.code = i then
          (match v with | 0 => .high | 1 => .low | _ => .masked) else s.arbiter.level r) ∧
        a.highPtr = s.arbiter.highPtr ∧ a.lowPtr = s.arbiter.lowPtr ∧ a.frameNo = s.arbiter.frameNo ∧
        a.grants = s.arbiter.grants)) ∧
    (∀ h l : Nat,
      (¬(16 ≤ h ∧ h ≤ 128 ∧ l < h) → writeTable .upstream 0 [⟨0, 0, h⟩, ⟨0, 1, l⟩] s = none) ∧
      (16 ≤ h → h ≤ 128 → l < h → ∃ u, writeTable .upstream 0 [⟨0, 0, h⟩, ⟨0, 1, l⟩] s = some (serve u) ∧
        u.fwd = { s.fwd with highMark := h, lowMark := l, thinning :=
          if h ≤ s.fwd.up.length then true else if s.fwd.up.length ≤ l then false else s.fwd.thinning } ∧
        beyondAttention u = beyondAttention { s with fwd := u.fwd })) ∧
    (∀ n t d : Nat, writeTable .querySettings 0 [⟨0, 0, n⟩, ⟨0, 1, t⟩, ⟨0, 3, d⟩] s =
      if (1 ≤ n ∧ n ≤ 15) ∧ (10 ≤ t ∧ t ≤ 2000) ∧ d ≤ 1 then
        some { s with query := { s.query with attemptLimit := n, timeout := t, long := decide (d = 1) } }
      else none) ∧
    (∀ i v : Nat, i < 25 →
      writeTable .attention i [⟨0, 2, v⟩] s =
        (if v ≤ 1 then some (s.modFlag i (fun r => { r with enable := decide (v = 1) })) else none) ∧
      writeTable .attention i [⟨0, 4, v⟩] s =
        if i ≤ 12 ∧ v ≤ 1 then some (s.modFlag i (fun r => { r with
          latch := decide (v = 1), isSet := r.isSet && !(r.latch && decide (v = 0) && !r.forced && !r.cond) }))
        else none) ∧
    (let stored (c : RecorderCfg) : State := { s with recorder := { s.recorder with table := c } }
     let c := s.recorder.table
     (∀ i en pat mask kinds rel v : Nat, i < 4 → ∀ x, [CmpRelation.any, .equal, .above, .below][rel]? = x →
      writeTable .recorderConfig i [⟨0, 0, en⟩, ⟨0, 1, pat⟩, ⟨0, 3, mask⟩, ⟨0, 5, kinds⟩, ⟨0, 6, rel⟩, ⟨0, 7, v⟩] s =
        if en ≤ 1 ∧ pat < 1024 ∧ mask ≤ 4095 ∧ kinds ≤ 3 then
          x.map (fun x =>
            let written : Comparator := ⟨decide (en = 1), pat, mask, BitVec.ofNat 2 kinds, x, signed32 v⟩
            stored { c with comparators := c.comparators.set i written })
        else none) ∧
     (∀ k o n fz sr : Nat,
      writeTable .recorderConfig 4 [⟨0, 0, k⟩, ⟨0, 1, o⟩, ⟨0, 2, n⟩, ⟨0, 3, fz⟩, ⟨0, 4, sr⟩] s =
        if k ≤ 127 ∧ o ≤ 7 ∧ n ≤ 255 ∧ fz ≤ 1 ∧ sr ≤ 15 then
          some (stored { c with
            kindSel := BitVec.ofNat 7 k, outcomeSel := BitVec.ofNat 3 o, postCount := n, freezeStop := decide (fz = 1),
            sources := BitVec.ofNat 4 sr })
        else none)) ∧
    (let d := s.dispatch
     let c := d.cfg
     let o := d.oper
     let writes (g off v : Nat) (ok : Prop) (e : DispatchUnit) : Prop :=
      (ok → writeTable .dispatch 0 [⟨g, off, v⟩] s = some { s with dispatch := e }) ∧
      (¬ok → writeTable .dispatch 0 [⟨g, off, v⟩] s = none)
     let fresh (same : Prop) (r : InputRec) (t : InputRec) : Prop :=
      (same → t = r) ∧ (¬same → t = { last := none, state := .expired, timer := none })
     (∀ v : Nat,
      writes 2 13 v (v ≤ 1) { d with oper := { o with mode := if v = 0 then .heatLed else .powerLed } } ∧
      writes 2 14 v (v ≤ 100) { d with oper := { o with shareA := v } } ∧
      writes 2 15 v (1 ≤ v ∧ v ≤ 10000) { d with oper := { o with ramp := v } } ∧
      writes 2 17 v (200 ≤ v ∧ v ≤ 10000) { d with oper := { o with interval := v } } ∧
      writes 2 19 v (1000 ≤ v ∧ v ≤ 60000) { d with oper := { o with holdLimit := v } } ∧
      (∀ k < 5, writes 2 (21 + 4 * k) v (v ≤ 1000000) { d with oper := { o with deadbands := o.deadbands.set k v } }) ∧
      (∀ k < 5, writes 0 (11 + 2 * k) v (v < 1024) { d with cfg := { c with outputs := c.outputs.set k v } }) ∧
      (∀ r, fresh (v = c.fa) d.fa r → writes 0 1 v (v < 1024) { d with cfg := { c with fa := v }, fa := r }) ∧
      (∀ r, fresh (v = c.fb) d.fb r → writes 0 3 v (v < 1024) { d with cfg := { c with fb := v }, fb := r }) ∧
      (∀ r, fresh (v = c.trip) d.trip r → writes 0 5 v (v < 1024) { d with
        cfg := { c with trip := v }, trip := r, tripSeen := if v = c.trip then d.tripSeen else none }) ∧
      writes 0 7 v (v < 1024) { d with cfg := { c with heat := v }, heat := if v = c.heat then d.heat else none } ∧
      writes 0 9 v (v < 1024) { d with cfg := { c with grid := v }, grid := if v = c.grid then d.grid else none } ∧
      (let point : Option Nat := if v = 65535 then none else some v
       writes 0 21 v (v < 1024 ∨ v = 65535) { d with cfg := { c with steamPoint := point } } ∧
       writes 0 23 v (v < 1024 ∨ v = 65535) { d with cfg := { c with powerPoint := point } } ∧
       writes 0 25 v (v < 1024 ∨ v = 65535) { d with cfg := { c with statePoint := point } }) ∧
      writes 1 0 v (v ≤ 10000000) { d with cfg := { c with turbineMin := v } } ∧
      writes 1 4 v (v ≤ 10000000) { d with cfg := { c with turbineMax := v } } ∧
      writes 1 8 v (v ≤ 10000000) { d with cfg := { c with extMax := v } } ∧
      writes 1 12 v (1 ≤ v ∧ v ≤ 2000) { d with cfg := { c with kq := v } } ∧
      writes 1 14 v (1 ≤ v ∧ v ≤ 1000) { d with cfg := { c with ke := v } } ∧
      writes 1 16 v (1 ≤ v ∧ v ≤ 1000) { d with cfg := { c with kx := v } } ∧
      (∀ (line : LineShare → DispatchUnit) (l : LineShare) (g off : Nat),
        (g = 1 ∧ off = 18 ∧ l = c.lineA ∧ line = fun x => { d with cfg := { c with lineA := x } }) ∨
          (g = 2 ∧ off = 0 ∧ l = c.lineB ∧ line = fun x => { d with cfg := { c with lineB := x } }) →
        writes g off v (v ≤ 10000000) (line { l with min := v }) ∧
        writes g (off + 4) v (v ≤ 10000000) (line { l with max := v }) ∧
        writes g (off + 8) v (50 ≤ v ∧ v ≤ 100) (line { l with warn := v }) ∧
        writes g (off + 9) v (v ≤ 10000000) (line { l with trip := v }))) ∧
     (∀ v : Nat, ∀ fa fb tr, fresh (¬(v = 1 ∧ c.configured = false)) d.fa fa →
      fresh (¬(v = 1 ∧ c.configured = false)) d.fb fb → fresh (¬(v = 1 ∧ c.configured = false)) d.trip tr →
      writes 0 0 v (v ≤ 1) { d with
        cfg := { c with configured := decide (v = 1) }, fa := fa, fb := fb, trip := tr,
        tripSeen := if v = 1 ∧ c.configured = false then none else d.tripSeen }))

/-- What a WRITE stores in the point, guard, line and channel tables, and what their owners then do. The items, in their
order, each set the field that begins at their offset to a value in its range or code list; an item that does neither,
and an order range left with low above high, refuse them all. What the owners do with the record as written: a point or
guard record whose configured flag changes takes its runtime starting values, its configuration as written; a guard
record as written withdraws every order queue entry for its point; a FRESH point with a new freshness limit is timed
from its last update, and expires at once where the limit has already passed; a limit of 0 stops the timer; a channel
whose configured flag changes returns to IDLE with zero counters and keeps its rings; a line whose configured flag
changes starts NORMAL. What counts as a new limit, that the later of two items for a field stands (log entry 19), the
codes by place (entry 21) and what a point's expiry at its WRITE brings (entries 7, 12 and 17) are the model's readings.
-/
def Obligations.WriteStartsRecordsAfresh : Prop :=
  (∀ (p : Nat) (r : Point) (w : Bool) (s : State), p < s.points.length →
    (r.configured ≠ (s.point p).configured →
      (writePoint p r w s).point p = { r with
        value := 0, quality := .stale, fresh := .never, subActive := false, subValue := 0, lastUpdate := none,
        foreign := 0, timer := none, updated := 0 } ∧
      beyondRecorder (writePoint p r w s) =
        beyondRecorder (s.modPoint p (fun _ => (writePoint p r w s).point p))) ∧
    (r.configured = (s.point p).configured →
      let written := s.modPoint p (fun _ => r)
      ((r.configured = false ∨ w = false) → writePoint p r w s = written) ∧
      (r.configured = true → w = true →
        (r.limit = 0 → writePoint p r w s = s.modPoint p (fun _ => { r with timer := none })) ∧
        (r.limit ≠ 0 →
          (r.fresh ≠ .fresh → writePoint p r w s = written) ∧
          (r.fresh = .fresh → s.now < r.updated + r.limit →
            writePoint p r w s = s.modPoint p (fun _ => { r with timer := some (r.updated + r.limit) })) ∧
          (r.fresh = .fresh → r.updated + r.limit ≤ s.now →
            writePoint p r w s = settle (expireFreshness p written) ∧
            beyondWake (writePoint p r w s) =
              beyondWake (s.modPoint p (fun _ => { r with fresh := .expired, timer := none }))))))) ∧
  (∀ (i : Nat) (g : GuardRec) (s : State), i < s.guard.recs.length →
    ((writeGuard i g s).guardRec i).plan = g.plan ∧
    (g.configured ≠ (s.guardRec i).configured →
      (writeGuard i g s).guardRec i = { g with
        state := .clear, target := none, issued := none, lastIssue := none, step := 0, rampTimer := none,
        clamped := 0, held := 0, owned := 0, trips := 0,
        terms := g.terms.map (fun t => { t with active := false }) }) ∧
    (∀ j, j ≠ i → (writeGuard i g s).guardRec j = s.guardRec j) ∧
    (writeGuard i g s).fwd = { s.fwd with orders :=
      if g.configured = true then s.fwd.orders.filter (fun e => match e with
        | .order _ p _ _ _ _ => decide (p ≠ g.point)
        | .pass _ _ => true)
      else s.fwd.orders } ∧
    beyondAttention (writeGuard i g s) =
      beyondAttention { s with guard := (writeGuard i g s).guard, fwd := (writeGuard i g s).fwd }) ∧
  (∀ (c : Nat) (cfg : ChannelCfg) (s : State), c < s.emission.channels.length →
    writeChannel c cfg s = s.modChannel c (fun ch => { ch with
      cfg := cfg, run := if cfg.configured ≠ (s.channel c).cfg.configured then .idle 0 0 0 else ch.run })) ∧
  (∀ (l : LineId) (r : LineRec) (s : State), s.part.state = .setup →
    writeLine l r s = s.modLine l (fun old => { r with
      operating := if r.configured = true then
          !(decide ((s.point r.opPoint).configured = true ∧ (s.point r.opPoint).effQuality.usable = true ∧
            (s.point r.opPoint).effValue = 0))
        else if old.configured = true then true else r.operating,
      state := if r.configured ≠ old.configured then .normal else r.state })) ∧
  (let written {α : Type} (field : α → Item → Option α) (items : List Item) (r : α) : Option α :=
     items.foldl (fun x i => x.bind (fun r => field r i)) (some r)
   ∀ (s : State) (items : List Item),
    (∀ p, writeTable .point p items s =
      match written (fun r i => setPointField r i.offset i.value) items (s.point p) with
      | none => none
      | some r => if r.low ≤ r.high then some (writePoint p r (decide (∃ i ∈ items, i.offset = 3)) s) else none) ∧
    (∀ i, writeTable .guard i items s = (written (fun g x =>
        if x.group = 0 then setGuardField g x.offset x.value else setGuardTerm g x.group x.offset x.value) items
      (s.guardRec i)).map (fun g => writeGuard i g s)) ∧
    (∀ l, writeTable .line (match l with | LineId.a => 0 | .b => 1) items s =
      (written (fun r i => setLineField r i.offset i.value) items (s.line l)).map (fun r => writeLine l r s)) ∧
    (∀ c, writeTable .channel c items s =
      (written (fun r i => setChannelField r i.offset i.value) items (s.channel c).cfg).map
        (fun r => writeChannel c r s))) ∧
  (∀ (off v : Nat),
    let put {α : Type} (lo hi : Nat) (r : α) : Option α := if lo ≤ v ∧ v ≤ hi then some r else none
    let on : Bool := decide (v = 1)
    let absent {α : Type} (r : Option Nat → α) : Option α :=
      if v = 65535 then some (r none) else if v ≤ 1023 then some (r (some v)) else none
    signed32 v = (if v < 2147483648 then (v : Int) else v - 4294967296) ∧
    (∀ r : Point, setPointField r off v = match off with
      | 0 => put 0 1 { r with configured := on }
      | 1 => put 0 254 { r with owner := if v = 0 then .self else .station v }
      | 2 => put 0 1 { r with cls := if v = 0 then .routine else .essential }
      | 3 => if v = 0 ∨ 100 ≤ v ∧ v ≤ 600000 then some { r with limit := v } else none
      | 7 => some { r with low := signed32 v }
      | 11 => some { r with high := signed32 v }
      | _ => none) ∧
    (∀ g : GuardRec, setGuardField g off v = match off with
      | 0 => put 0 1 { g with configured := on }
      | 1 => put 0 1023 { g with point := v }
      | 3 => put 0 2 { g with line := if v = 0 then some .a else if v = 1 then some .b else none }
      | 4 => put 0 1 { g with restricted := on }
      | 5 => put 0 2 { g with owner := if v = 0 then .supervisory else if v = 1 then .dispatch else .shared }
      | 6 => some { g with low := signed32 v }
      | 10 => some { g with rhigh := signed32 v }
      | 14 => some { g with high := signed32 v }
      | 18 => some { g with safe := signed32 v }
      | 22 => put 0 1 { g with action := if v = 0 then .safe else .hold }
      | 23 => put 0 1 { g with latching := on }
      | 24 => put 0 1000000 { g with rate := v }
      | 28 => put 100 5000 { g with interval := v }
      | _ => none) ∧
    (∀ (g : GuardRec) (k : Nat), k < 4 → off < 13 →
      let t := g.terms.getD k .blank
      setGuardTerm g (1 + k / 2) (13 * (k % 2) + off) v = Option.map (fun t => { g with terms := g.terms.set k t })
        (match off with
        | 0 => put 0 1 { t with used := on }
        | 1 => put 0 1023 { t with point := v }
        | 3 => put 0 2 { t with relation := if v = 0 then .above else if v = 1 then .below else .notGood }
        | 4 => some { t with threshold := signed32 v }
        | 8 => put 0 2147483647 { t with hysteresis := v }
        | 12 => put 0 1 { t with failActive := on }
        | _ => none)) ∧
    (∀ (g : GuardRec) (k : Nat), 26 ≤ off → setGuardTerm g k off v = none) ∧
    (∀ r : LineRec, setLineField r off v = match off with
      | 0 => put 0 1 { r with configured := on }
      | 1 => put 0 1023 { r with opPoint := v }
      | 3 => absent (fun p => { r with statePoint := p })
      | _ => none) ∧
    (∀ c : ChannelCfg, setChannelField c off v = match off with
      | 0 => put 0 1 { c with configured := on }
      | 1 => put 0 1 { c with line := if v = 0 then .a else .b }
      | 2 => put 0 1023 { c with pollutant := v }
      | 4 => put 0 1023 { c with o2 := v }
      | 6 => absent (fun p => { c with h2o := p })
      | 8 => put 300 1500 { c with o2Ref := v }
      | 10 => put 1500 2000 { c with o2Cap := v }
      | 12 => put 1 7200 { c with minValid := v }
      | 14 => put 1 10000000 { c with halfLimit := v }
      | 18 => put 1 10000000 { c with dayLimit := v }
      | 22 => put 50 100 { c with warnPct := v }
      | 23 => put 1 7200 { c with warnMin := v }
      | 25 => put 0 48 { c with allowance := v }
      | 26 => put 0 1 { c with enforcing := on }
      | 27 => put 0 1 { c with exceptions := on }
      | 28 => absent (fun p => { c with avgPoint := p })
      | _ => none))

/-- READ completes with one STATUS of the setup form and changes nothing in the part but for that reply. It refuses an
unknown table or group with BAD-TABLE, then a count outside 1 to 8 with BAD-VALUE, then a refused index with BAD-INDEX
(that order is the model's reading, log entry 19); otherwise it returns records from the first index upward, each as
it stands: at least one, and fewer than the count only where the next index is a multiple of 32, is refused, or its
record would pass 42 bytes. It gives the lowest index from there on that a READ would accept, or END. The last
hypotheses give the dispatch table its five outputs. The bytes of a record, `recordBytes`, are those of R210 as log
entries 14, 21 and 24 read them. -/
def Obligations.ReadReturnsRecords : Prop :=
  ∀ (f : Frame) (s : State), Takes .sPort f (.read f) s →
    let t := taken .sPort f s
    let first := headWord f 2
    let group := headByte f 4
    let count := headByte f 5
    let refused (c : Status) : Prop := exec (.read f) s = .next (serve (replySetup f c t))
    (∃ c next n data, exec (.read f) s = .next (serve (placeReply (setupStatus t f c next n data) .plain t))) ∧
    (tableOfCode (headByte f 1) = none → refused .badTable) ∧
    (∀ tb, tableOfCode (headByte f 1) = some tb →
      (tb.groups ≤ group → refused .badTable) ∧
      (group < tb.groups →
        (¬(1 ≤ count ∧ count ≤ 8) → refused .badValue) ∧
        (1 ≤ count → count ≤ 8 →
          (tb.holds first = false → refused .badIndex) ∧
          (tb.holds first = true →
            s.dispatch.cfg.outputs.length = 5 → s.dispatch.oper.deadbands.length = 5 →
            s.dispatch.lastOrdered.length = 5 →
            let bytes (n : Nat) : List Byte := (List.range n).flatMap (fun j => recordBytes t tb group (first + j))
            ∃ n next : Nat, 1 ≤ n ∧ n ≤ count ∧
              (∀ j < n, tb.holds (first + j) = true ∧ (first + j) / 32 = first / 32) ∧ (bytes n).length ≤ 42 ∧
              (n < count →
                (first + n) % 32 = 0 ∨ tb.holds (first + n) = false ∨ 42 < (bytes (n + 1)).length) ∧
              first + n ≤ next ∧ (∀ j, first + n ≤ j → j < next → tb.holds j = false) ∧
              (tb.holds next = true ∨ (next = 65535 ∧ ∀ j, first + n ≤ j → tb.holds j = false)) ∧
              exec (.read f) s = .next (serve (placeReply (setupStatus t f .done next n (bytes n)) .plain t))))))

/-! ### Setup: START and STOP -/

/-- Validation takes the checks of R188 in their order, and the first that fails gives its table, index and reason,
coded 0 to 18; one point as both demand points is one use (the model's reading, log entry 22). START in RUN is refused;
one whose validation fails answers CHECK-FAILED with these and changes nothing else. One that passes enters RUN with the
signature of the tables; every configured output has its step, no ramp and the live value of its point as issued value
and target, and trips if its interlock is active, as the guard's action leaves it where the part publishes no point of
its terms and no channel is latched; with the clock set every configured channel opens the period handed last with its
warn level; an enabled, configured dispatch unit enters HOLD if a required input is EXPIRED, otherwise RUN. The
hypotheses of the last clause say that the part itself writes no required input. The period handed last is the model's
field (log entry 5). -/
def Obligations.StartValidatesThenRuns : Prop :=
  (∀ s : State,
    let known (p : Nat) : Prop := p < 1024 ∧ (s.point p).configured = true
    let self (p : Nat) : Prop := known p ∧ (s.point p).owner = .self
    let line (i : Nat) : LineRec := if i = 0 then s.emission.lineA else s.emission.lineB
    let window (i : Nat) : Window := s.fwd.windows.getD i ⟨false, 0, 0⟩
    let d := s.dispatch.cfg
    let published : List Nat := d.steamPoint.toList ++ d.powerPoint.toList ++ d.statePoint.toList
    let fits (l : LineShare) : Prop := l.min ≤ l.max * l.warn / 100
    let uses : List (Nat × Nat × Nat) :=
      (List.range 2).flatMap (fun i => if (line i).configured then (line i).statePoint.toList.map ((6, i, ·)) else []) ++
      (List.range 16).flatMap (fun i => if (s.channel i).cfg.configured then
        (s.channel i).cfg.avgPoint.toList.map ((7, i, ·)) else []) ++
      (if d.configured then
        (published ++ if d.heat = d.grid then [d.heat] else [d.heat, d.grid]).map ((8, 0, ·)) else [])
    let checks : List (Failure × Prop) :=
      (List.range 4).flatMap (fun i =>
        let w := window i
        [(⟨2, i, .overlap⟩, ∀ j < i, w.enable = true → (window j).enable = true →
          w.limit < (window j).base ∨ (window j).limit < w.base),
         (⟨2, i, .holdsPart⟩, w.enable = true →
           s.part.station = 0 ∨ s.part.station = 255 ∨ s.part.station < w.base ∨ w.limit < s.part.station)]) ++
      [(⟨0, 0, .collectorSide⟩, s.part.collector = 0 ∨
        fieldSide s s.part.collector = false ∧ s.part.collector ≠ s.part.station)] ++
      (List.range 96).flatMap (fun i =>
        let g := s.guardRec i
        if g.configured then
          [(⟨5, i, .pointUnconfigured⟩, known g.point),
           (⟨5, i, .ownerNotField⟩, ∃ n, (s.point g.point).owner = .station n ∧ fieldSide s n = true),
           (⟨5, i, .duplicatePoint⟩, ∀ j < i, (s.guardRec j).configured = true → (s.guardRec j).point ≠ g.point),
           (⟨5, i, .limitOrder⟩, g.low ≤ g.rhigh ∧ g.rhigh ≤ g.high),
           (⟨5, i, .safeRange⟩, g.low ≤ g.safe ∧ g.safe ≤ g.high ∧ (g.restricted = true → g.safe ≤ g.rhigh)),
           (⟨5, i, .lineMissing⟩, g.restricted = true → ∃ l, g.line = some l ∧ (s.line l).configured = true),
           (⟨5, i, .rampStep⟩, g.rate = 0 ∨ 1000 ≤ g.rate * g.interval),
           (⟨5, i, .termPoint⟩, ∀ t ∈ g.terms, t.used = true → known t.point)]
        else []) ++
      (List.range 2).flatMap (fun i => if (line i).configured then
          [(⟨6, i, .pointUnconfigured⟩, known (line i).opPoint),
           (⟨6, i, .notSelf⟩, ∀ p, (line i).statePoint = some p → self p)]
        else []) ++
      (List.range 16).flatMap (fun i =>
        let c := (s.channel i).cfg
        if c.configured then
          [(⟨7, i, .lineMissing⟩, (s.line c.line).configured = true),
           (⟨7, i, .pointUnconfigured⟩, known c.pollutant ∧ known c.o2 ∧ ∀ p, c.h2o = some p → known p),
           (⟨7, i, .samePoint⟩, c.pollutant ≠ c.o2 ∧ c.h2o ≠ some c.pollutant),
           (⟨7, i, .o2Cap⟩, c.o2Ref < c.o2Cap),
           (⟨7, i, .notSelf⟩, ∀ p, c.avgPoint = some p → self p)]
        else []) ++
      (if d.configured then
          [(⟨8, 0, .pointUnconfigured⟩, known d.fa ∧ known d.fb ∧ known d.trip),
           (⟨8, 0, .notSelf⟩, self d.heat ∧ self d.grid ∧ ∀ p ∈ published, self p),
           (⟨8, 0, .outputNotGuarded⟩, ∀ p ∈ d.outputs, ∃ i < 96, (s.guardRec i).configured = true ∧
             (s.guardRec i).point = p ∧ (s.guardRec i).owner ≠ .supervisory),
           (⟨8, 0, .duplicatePoint⟩, d.outputs.Nodup),
           (⟨8, 0, .turbineRange⟩, d.turbineMin ≤ d.turbineMax),
           (⟨8, 0, .lineMinimum⟩, fits d.lineA ∧ fits d.lineB)]
        else []) ++
      (List.range 96).flatMap (fun i =>
        let g := s.guardRec i
        if g.configured = true ∧ g.owner = .dispatch then
          [(⟨5, i, .dispatchOwner⟩, d.configured = true ∧ g.point ∈ d.outputs)]
        else []) ++
      (List.range uses.length).flatMap (fun k => uses[k]?.toList.map (fun u =>
        (⟨u.1, u.2.1, .publishedShared⟩, ∀ j < k, ∀ v, uses[j]? = some v → v.2.2 ≠ u.2.2)))
    (∀ pre e ok post, checks = pre ++ (e, ok) :: post → (∀ x ∈ pre, x.2) → ¬ok → validate s = some e) ∧
    ((∀ x ∈ checks, x.2) → validate s = none) ∧
    ([Reason.overlap, .holdsPart, .collectorSide, .pointUnconfigured, .ownerNotField, .duplicatePoint, .limitOrder,
      .safeRange, .lineMissing, .rampStep, .termPoint, .notSelf, .samePoint, .o2Cap, .outputNotGuarded, .turbineRange,
      .lineMinimum, .dispatchOwner, .publishedShared].map Reason.code = List.range 19)) ∧
  (∀ (f : Frame) (s : State), Takes .sPort f (.start f) s →
    let t := taken .sPort f s
    (s.part.state = .run → exec (.start f) s = .next (serve (replySetup f .refusedState t))) ∧
    (∀ e, s.part.state = .setup → validate t = some e →
      exec (.start f) s = .next (serve (placeReply (setupStatus t f .checkFailed 0 0
        [byteOf e.table, byteOf (e.index / 256), byteOf e.index, byteOf e.reason.code]) .plain t))) ∧
    (s.part.state = .setup → validate t = none →
      ∃ u, exec (.start f) s =
          .next (serve (placeReply (setupStatus u f .done 0 0 (bytesOf 4 (signatureOf s))) .plain u)) ∧
        u.part = { s.part with state := .run, signature := signatureOf s } ∧
        beyondWake u = beyondWake { t with part := u.part } ∧
        u = serve (dispatchStart (emissionStart (guardStart { t with part := u.part }))) ∧
        (∀ i, s.dispatch.owed = false → publishes s.emission.plan s.dispatch.cfg s.dispatch.cfg.trip = false →
          (∀ c ∈ s.emission.channels, c.run.latch = false) →
          (∀ m ∈ (s.guardRec i).terms, m.used = true → publishes s.emission.plan s.dispatch.cfg m.point = false) →
          let g := guardStart { t with part := u.part }
          u.guardRec i = g.guardRec i ∧
          (∀ x ∈ g.guard.trips, x ∈ u.guard.trips ∨ u.fPort.tx.map (·.item) = some (.trip x))) ∧
        (s.clock.unset = false → s.emission.channels.length = Config.channels →
          ∀ c < 16, (s.channel c).cfg.configured = true →
            (u.channel c).run.opened = true ∧
            ((u.channel c).run.day, (u.channel c).run.index) = s.clock.handed ∧
            (u.channel c).run.valid = 0 ∧ (u.channel c).run.sum = 0 ∧
            (u.channel c).run.warnLevel = (s.channel c).cfg.halfLimit * (s.channel c).cfg.warnPct / 100) ∧
        (s.dispatch.state = .stopped → s.dispatch.owed = false →
          (∀ i, publishes s.emission.plan s.dispatch.cfg (s.dispatch.cfg.inputPoint i) = false) →
          (¬(s.dispatch.enable = true ∧ s.dispatch.cfg.configured = true) → u.dispatch.state = .stopped) ∧
          (s.dispatch.enable = true → s.dispatch.cfg.configured = true →
            u.dispatch.timer = some (s.now + s.dispatch.oper.interval) ∧
            (let expired := ∃ i, (s.point (s.dispatch.cfg.inputPoint i)).effQuality.usable = false ∧
                ((s.dispatch.input i).last = none ∨ (s.dispatch.input i).state = .expired);
              (expired → u.dispatch.state = .hold ∧ u.dispatch.cause = some .input) ∧
              (¬expired → u.dispatch.state = .run)))))) ∧
  (∀ (i : Nat) (s : State), i < s.guard.recs.length → i < 96 → (s.guardRec i).configured = true →
    s.guard.trips = [] →
    let g := s.guardRec i
    let p := s.point g.point
    let live := if p.effQuality = .good ∨ p.effQuality = .uncertain then some p.effValue else none
    let locked := ∃ t ∈ g.terms, t.used = true ∧
      evalTerm { t with active := false } (s.point t.point).effValue (s.point t.point).effQuality = true
    let g' := (guardStart s).guardRec i
    let waits (x : TripOrder) (t : State) : Prop := x ∈ t.guard.trips ∨ t.fPort.tx.map (·.item) = some (.trip x)
    g'.step = g.rate * g.interval / 1000 ∧ g'.rampTimer = none ∧ g'.plan = g.plan ∧
    (¬locked → g'.state = .clear ∧ g'.issued = live ∧ g'.target = live ∧ g'.lastIssue = none ∧ g'.trips = g.trips) ∧
    (locked → g.action = .hold →
      g'.state = .tripped ∧ g'.issued = live ∧ g'.target = live ∧ g'.trips = bump g.trips) ∧
    (locked → g.action = .safe →
      g'.state = .tripped ∧ g'.issued = some g.safe ∧ g'.target = some g.safe ∧ g'.lastIssue = some s.now ∧
        g'.trips = bump g.trips ∧ waits ⟨i, g.point, g.safe⟩ (guardStart s)))

/-- STOP in SETUP is refused. In RUN it enters SETUP: no trip order, step, dispatch slot or guarded order waits and no
ramp timer runs; every OPEN channel appends its half-hour and day as CUT and every channel is IDLE, with PERIOD-CUT,
PERIOD-CLOSED and DAY-CLOSED where one was OPEN; the configured lines are NORMAL; the dispatch unit is STOPPED; with
freeze-on-STOP an ARMED or POST recorder freezes. Beyond what a wake reaches nothing else changes. -/
def Obligations.StopWithdrawsAndCuts : Prop :=
  ∀ (f : Frame) (s : State), Takes .sPort f (.stop f) s → Bounded s →
    let t := taken .sPort f s
    (s.part.state = .setup → exec (.stop f) s = .next (serve (replySetup f .refusedState t))) ∧
    (s.part.state = .run →
      ∃ u, exec (.stop f) s = .next (serve (replySetup f .done u)) ∧
        u.part = { s.part with state := .setup } ∧ beyondWake u = beyondWake { t with part := u.part } ∧
        u.guard.trips = [] ∧ u.guard.steps = [] ∧ u.dispatch.slots = [] ∧
        u.fwd.orders <:+ t.fwd.orders.filter (fun e => !e.isGuarded) ∧ (∀ i, (u.guardRec i).rampTimer = none) ∧
        (∀ i, (u.guardRec i).state = (s.guardRec i).state ∧ (u.guardRec i).target = (s.guardRec i).target) ∧
        (∀ c < 16, (u.channel c).run =
          .idle (s.channel c).run.warnLevel (s.channel c).run.concClamp (s.channel c).run.countFull) ∧
        (∀ c < 16, (s.channel c).run.opened = true →
          let ch := s.channel c
          (u.channel c).half = (halfRecord true ch :: ch.half).take 48 ∧
          (u.channel c).days =
            (dayRecord true s.part.signature { ch with run := afterHalf ch (halfRecord true ch) } :: ch.days).take 31 ∧
          (u.flag 23).isSet = true ∧ (u.flag 24).isSet = true) ∧
        (∀ j, 22 ≤ j → j ≤ 24 →
          ((u.flag j).isSet = true ↔ (s.flag j).isSet = true ∨ ∃ c < 16, (s.channel c).run.opened = true)) ∧
        (∀ l, (s.line l).configured = true → (u.line l).state = .normal) ∧
        u.dispatch.state = .stopped ∧ u.dispatch.enable = s.dispatch.enable ∧
        (s.recorder.state = .off → u.recorder.state = .off) ∧
        (s.recorder.cfg.freezeStop = true → s.recorder.state ≠ .off → u.recorder.state = .frozen))

/-! ### Setup: the other commands -/

/-- TIME refuses a millisecond of day above 86,399,999, and under the lock with the clock set a distance of more than
60,000 ms the shorter way round. Otherwise the clock takes the reading and its period, TIME-UNSET ends and no timer
moves. In RUN, with no OPEN channel every configured one opens the period; with every OPEN channel in that period
nothing more changes; otherwise every OPEN channel closes its half-hour as CUT and, if one has another day, its day, and
opens the period, with PERIOD-CUT and PERIOD-CLOSED, and DAY-CLOSED for the day. The hypothesis of the last clause says
that the part itself does not write the operating points. The period handed last is the model's field (log entry 5). -/
def Obligations.TimeSetsTheClock : Prop :=
  ∀ (f : Frame) (s : State), Takes .sPort f (.time f) s →
    let t := taken .sPort f s
    let day := natAt f.body 6 2
    let ms := natAt f.body 8 4
    let ahead := (day * 86400000 + ms + circle - (s.clock.day * 86400000 + s.clock.ms)) % circle
    let far := 60000 < ahead ∧ ahead < circle - 60000
    let refusedLock := s.part.lock = true ∧ s.clock.unset = false ∧ far
    let period := (day, ms / 1800000)
    let set : State := { t with clock := { day := day, ms := ms, unset := false, handed := period } }
    ((f.count < 2 ∨ 86400000 ≤ ms) → exec (.time f) s = .next (serve (replySetup f .badValue t))) ∧
    (2 ≤ f.count → ms < 86400000 → refusedLock → exec (.time f) s = .next (serve (replySetup f .refusedLocked t))) ∧
    (2 ≤ f.count → ms < 86400000 → ¬refusedLock →
      ∃ u, exec (.time f) s = .next (serve (replySetup f .done u)) ∧ u.clock = set.clock ∧ u.now = s.now ∧
        beyondWake u = beyondWake set ∧
        (s.attention.flags.length = flagCount → (u.flag 12).cond = false) ∧
        ((s.part.state = .setup ∨
            ∃ k < 16, (s.channel k).run.opened = true ∧ ∀ c < 16, (s.channel c).run.opened = true →
              ((s.channel c).run.day, (s.channel c).run.index) = period) →
          u = serve (setCondition .timeUnset false set)) ∧
        (s.part.state = .run → s.emission.channels.length = Config.channels →
          (∀ c < 16, (s.channel c).run.opened = false) → ∀ c < 16, (s.channel c).cfg.configured = true →
            (u.channel c).run = openedRun set (s.channel c) ∧ (u.channel c).half = (s.channel c).half) ∧
        (s.part.state = .run → (∀ c < 16, (s.channel c).run.opened = false) →
          ∀ j, 22 ≤ j → j ≤ 24 → (u.flag j).isSet = (s.flag j).isSet) ∧
        (s.part.state = .run → s.emission.channels.length = Config.channels → s.attention.flags.length = flagCount →
          (∃ c < 16, (s.channel c).run.opened = true ∧ ((s.channel c).run.day, (s.channel c).run.index) ≠ period) →
          (u.flag 22).isSet = true ∧ (u.flag 23).isSet = true ∧
          ((u.flag 24).isSet = true ↔ (s.flag 24).isSet = true ∨
            ∃ k < 16, (s.channel k).run.opened = true ∧ (s.channel k).run.accDay ≠ day)) ∧
        (s.part.state = .run → s.emission.channels.length = Config.channels →
          (∀ l, publishes s.emission s.dispatch.cfg (s.line l).opPoint = false) →
          (∃ c < 16, (s.channel c).run.opened = true ∧ ((s.channel c).run.day, (s.channel c).run.index) ≠ period) →
          ∀ c < 16, (s.channel c).run.opened = true →
            let ch := s.channel c
            let cut := { ch with run := afterHalf ch (halfRecord true ch) }
            (u.channel c).half = (halfRecord true ch :: ch.half).take 48 ∧
            (u.channel c).run = openedRun set cut ∧
            ((∃ k < 16, (s.channel k).run.opened = true ∧ (s.channel k).run.accDay ≠ day) →
              (u.channel c).days = (dayRecord true s.part.signature cut :: ch.days).take 31) ∧
            ((∀ k < 16, (s.channel k).run.opened = true → (s.channel k).run.accDay = day) →
              (u.channel c).days = ch.days)))

/-- What a point shows: a substituted point its substitute value with quality SUBSTITUTED; otherwise its stored value,
with its stored quality while it is FRESH and STALE while it is not. SUBSTITUTE of a configured point sets the
substitution and its value, UNSUBSTITUTE ends it; the consumers wake, a SELF point hands its entry upstream if that
changed what it shows, and cycle occasions are acted on. An UNSUBSTITUTE of a point without one, and either command for
a point that is not configured, change nothing. Beyond what a wake reaches nothing else changes. The order of upstream
entry and cycle occasions after the wake is the model's (log entries 7 and 12), as is the service of what appears
between (entry 17). -/
def Obligations.SubstitutionShowsThrough : Prop :=
  (∀ r : Point, r.effValue = (if r.subActive = true then r.subValue else r.value) ∧
    r.effQuality = (if r.subActive = true then .substituted else if r.fresh = .fresh then r.quality else .stale)) ∧
  (∀ (f : Frame) (s : State),
    let t := taken .sPort f s
    let changed (p : Nat) (change : Point → Point) : State :=
      let s1 := t.modPoint p change
      let q := s1.point p
      let shows := ¬((s.point p).effValue = q.effValue ∧ (s.point p).effQuality = q.effQuality)
      settle (serve (if q.owner = .self ∧ shows then
          handUpstream ⟨p, q.effValue, qualityCode q.effQuality, q.cls⟩ (wakeConsumers p s1)
        else wakeConsumers p s1))
    (Takes .sPort f (.substitute f) s →
      let p := natAt f.body 6 2
      (f.count < 2 → exec (.substitute f) s = .next (serve (replySetup f .badValue t))) ∧
      (2 ≤ f.count → ¬(p < 1024 ∧ (s.point p).configured = true) →
        exec (.substitute f) s = .next (serve (replySetup f .unknownPoint t))) ∧
      (2 ≤ f.count → p < 1024 → (s.point p).configured = true →
        ∃ u, exec (.substitute f) s = .next (serve (replySetup f .done u)) ∧
          u = changed p (fun r => { r with subActive := true, subValue := valueAt f.body 8 }) ∧
          (u.point p).effValue = valueAt f.body 8 ∧ (u.point p).effQuality = .substituted ∧
          beyondWake u =
            beyondWake (t.modPoint p (fun r => { r with subActive := true, subValue := valueAt f.body 8 })))) ∧
    (Takes .sPort f (.unsubstitute f) s →
      let p := headWord f 1
      (¬(p < 1024 ∧ (s.point p).configured = true) →
        exec (.unsubstitute f) s = .next (serve (replySetup f .unknownPoint t))) ∧
      (p < 1024 → (s.point p).configured = true → (s.point p).subActive = false →
        exec (.unsubstitute f) s = .next (serve (replySetup f .done t))) ∧
      (p < 1024 → (s.point p).configured = true → (s.point p).subActive = true →
        ∃ u, exec (.unsubstitute f) s = .next (serve (replySetup f .done u)) ∧
          u = changed p (fun r => { r with subActive := false }) ∧ (u.point p).subActive = false ∧
          beyondWake u = beyondWake (t.modPoint p (fun r => { r with subActive := false })))))

/-- LOCK sets the setup lock and changes nothing else. RESET adds one to the pending resets and places its DONE, whose
completion carries the reset; until then nothing else changes. -/
def Obligations.LockAndResetAreTaken : Prop :=
  (∀ (f : Frame) (s : State), Takes .sPort f (.lock f) s →
    let t := taken .sPort f s
    exec (.lock f) s = .next (serve (replySetup f .done { t with part := { s.part with lock := true } }))) ∧
  (∀ (f : Frame) (s : State), Takes .sPort f (.reset f) s →
    let t := taken .sPort f s
    exec (.reset f) s = .next (serve { t with
      part := { s.part with pendingResets := s.part.pendingResets + 1 },
      fwd := { t.fwd with outbox := t.fwd.outbox ++
        [⟨{ dest := f.src, src := s.part.station, kind := .status, count := 1, tag := f.tag,
            body := [16, byteOf (setupOp f), 0, 0, 0, 0] }, .resetDone⟩] } }))

/-- RELEASE refuses an index above 95 or an unconfigured record with BAD-INDEX. For a configured record a LATCHED output
becomes CLEAR, target and issued value unchanged, and DONE; a TRIPPED one stays, STILL-ACTIVE; a CLEAR one stays, DONE.
OUTPUT-LATCHED follows; nothing is evaluated, withdrawn or sent. -/
def Obligations.ReleaseClearsALatchedOutput : Prop :=
  ∀ (f : Frame) (s : State), Takes .sPort f (.release f) s →
    let t := taken .sPort f s
    let i := headWord f 1
    ((95 < i ∨ (s.guardRec i).configured = false) → exec (.release f) s = .next (serve (replySetup f .badIndex t))) ∧
    (i ≤ 95 → (s.guardRec i).configured = true →
      ((s.guardRec i).state = .tripped → exec (.release f) s = .next (serve (replySetup f .stillActive t))) ∧
      ((s.guardRec i).state = .clear → exec (.release f) s = .next (serve (replySetup f .done t))) ∧
      ((s.guardRec i).state = .latched →
        ∃ u, exec (.release f) s = .next (serve (replySetup f .done u)) ∧
          u.guardRec i = { s.guardRec i with state := .clear } ∧
          beyondAttention u = beyondAttention (t.modGuard i (fun g => { g with state := .clear })) ∧
          (t.attention.flags.length = flagCount → ((u.flag 5).cond = true ↔
            ∃ g ∈ u.guard.recs, g.configured = true ∧ g.state = .latched))))

/-- CLEAR refuses a set that names an index above 24 and changes nothing. Otherwise every named flag clears with its
forced mark, but for a set CONDITION flag that is not forced and whose condition holds: it stays set and is listed in
the DONE. No notice is queued. FORCE sets its flag and the forced mark and places one notice whatever the enable, or
sets the overflow mark at a full outbox; for RECORDER-FROZEN the recorder is handed its FORCE trigger. -/
def Obligations.ClearAndForceActOnFlags : Prop :=
  (∀ (f : Frame) (s : State), Takes .sPort f (.clear f) s →
    let t := taken .sPort f s
    let set := natAt f.body 6 4
    let kept (i : Nat) : Bool := decide (i ≤ 12) && (t.flag i).isSet && !(t.flag i).forced && (t.flag i).cond
    ((f.count < 2 ∨ 33554432 ≤ set) → exec (.clear f) s = .next (serve (replySetup f .badValue t))) ∧
    (2 ≤ f.count → set < 33554432 → s.attention.flags.length = flagCount →
      ∃ u, exec (.clear f) s = .next (serve (placeReply (setupStatus u f .done 0 0
          (bytesOf 4 (((List.range 25).filter (fun i => set.testBit i && kept i)).map (2 ^ ·)).sum)) .plain u)) ∧
        u = { t with attention := { t.attention with flags := u.attention.flags } } ∧
        ∀ i < 25, u.flag i =
          if set.testBit i = true ∧ kept i = false then { t.flag i with isSet := false, forced := false }
          else t.flag i)) ∧
  (∀ (f : Frame) (s : State), Takes .sPort f (.force f) s →
    let t := taken .sPort f s
    let i := headByte f 1
    (25 ≤ i → exec (.force f) s = .next (serve (replySetup f .badValue t))) ∧
    (i < 25 → s.attention.flags.length = flagCount →
      ∃ u, exec (.force f) s = .next (serve (replySetup f .done (serve u))) ∧ beyondRecorder u = beyondRecorder t ∧
        (u.flag i).isSet = true ∧ (u.flag i).forced = true ∧ (u.flag i).enable = (t.flag i).enable ∧
        (∀ j, j ≠ i → u.flag j = t.flag j) ∧
        (i ≠ 11 → u.recorder = t.recorder ∧ (u.flag i).cond = (t.flag i).cond) ∧
        (s.part.collector = 0 → u.attention.outbox = t.attention.outbox ∧ u.attention.overflow = t.attention.overflow) ∧
        (s.part.collector ≠ 0 → t.attention.outbox.length < 16 →
          (∃ n, u.attention.outbox = t.attention.outbox ++ [n] ∧ n.tag = t.attention.noticeNo ∧
            n.body.head? = some (byteOf i)) ∧ u.attention.overflow = false ∧
          u.attention.noticeNo = (t.attention.noticeNo + 1) % 256) ∧
        (s.part.collector ≠ 0 → 16 ≤ t.attention.outbox.length →
          u.attention.outbox = t.attention.outbox ∧ u.attention.overflow = true) ∧
        (i = 11 → s.recorder.cfg.sources.getLsbD 3 = true →
          (t.recorder.state = .armed → u.recorder.triggers = bump t.recorder.triggers ∧
            (u.recorder.buffer.head?.map (·.marks)) = some [.force]) ∧
          (t.recorder.state = .frozen → u.recorder.missed = bump t.recorder.missed))))

/-- PORT-RESTART and PORT-RATE refuse an unknown port or rate code with BAD-VALUE. On the F-port the restart acts at
once: a frame in flight is aborted (a query only leaves flight; a trip order is entered again where its output is
still tripped; anything else is lost), the frame being received is discarded, the receive buffer is emptied, OVERRUN
clears, the flow is OPEN with RESUME to send, the pause timer stops, the counters are 0, the rate is taken, and the
port is DISABLED with its link-down timer restarted. On the S-port it waits for its own DONE, at whose completion the
oldest one acts so. That a trip order is entered again in SETUP too is the model's reading of R66 beside R87 (log
entry 16). -/
def Obligations.PortRestartActs : Prop :=
  (∀ (rate : Option Rate) (f : Frame) (c : Instr) (s : State), Takes .sPort f c s →
    (c = .portRestart f ∧ rate = none ∨
      c = .portRate f ∧ ∃ r : Rate, rate = some r ∧ r.code = headByte f 2) →
    let t := taken .sPort f s
    (2 ≤ headByte f 1 → exec c s = .next (serve (replySetup f .badValue t))) ∧
    (headByte f 1 = 0 →
      exec c s = .next (serve { t with
        sPort := { t.sPort with restarts := s.sPort.restarts ++ [rate] },
        fwd := { t.fwd with outbox := t.fwd.outbox ++
          [⟨{ dest := f.src, src := s.part.station, kind := .status, count := 1, tag := f.tag,
              body := [16, byteOf (setupOp f), 0, 0, 0, 0] }, .restartDone⟩] } })) ∧
    (headByte f 1 = 1 → exec c s = .next (serve (replySetup f .done (restartPort .fPort rate t))))) ∧
  (∀ (f : Frame) (s : State), Takes .sPort f (.portRate f) s → 4 ≤ headByte f 2 →
    exec (.portRate f) s = .next (serve (replySetup f .badValue (taken .sPort f s)))) ∧
  (∀ (p : Port) (rate : Option Rate) (s : State),
    let u := restartPort p rate s
    u.port p = { s.port p with
      rate := rate.getD (s.port p).rate, state := .disabled, rx := [], overrun := false, holding := false,
      symbol := .resume, tx := none, pauseTimer := none, linkTimer := some (s.now + 2),
      receiving := if (s.port p).receiving = .none then .none else .discarding,
      counters := ⟨0, 0, 0, 0, 0, 0, 0, 0, 0⟩ } ∧
    beyondAttention u = beyondAttention { s.modPort p (fun _ => u.port p) with guard := u.guard, query := u.query } ∧
    (∀ i g, (s.port p).tx.map (·.item) = some (.query i g) → (s.queryEntry i).gen = g →
      u.query = { s.query with entries := s.query.entries.modify i (fun e => { e with inFlight := false }) } ∧
        u.guard = s.guard) ∧
    (∀ x : TripOrder, (s.port p).tx.map (·.item) = some (.trip x) → u.query = s.query ∧
      u.guard = (if (s.guardRec x.record).state ≠ .clear ∧ (s.guardRec x.record).action = .safe ∧
          ∀ t ∈ s.guard.trips, t.record ≠ x.record then
        { s.guard with trips := s.guard.trips ++ [x] } else s.guard)) ∧
    ((∀ x, (s.port p).tx.map (·.item) ≠ some (.trip x)) → (∀ i g, (s.port p).tx.map (·.item) ≠ some (.query i g)) →
      u.guard = s.guard ∧ u.query = s.query) ∧
    (s.attention.flags.length = flagCount →
      (u.flag (overrunFlag p).index).cond = false ∧ (u.flag (linkFlag p).index).cond = false)) ∧
  (∀ (fr : Frame) (rate : Option Rate) (rest : List (Option Rate)) (s : State), s.held = false →
    s.sPort.tx = some ⟨fr, .restartDone⟩ → s.sPort.restarts = rate :: rest →
    ∃ v, exec (.frameCompletes .sPort) s = .next (serve (restartPort .sPort rate v)) ∧
      { v with sPort := s.sPort } = s ∧
      v.sPort = { s.sPort with
        tx := none, restarts := rest, symbol := v.sPort.symbol, counters := v.sPort.counters } ∧
      (restartPort .sPort rate v).sPort.rate = rate.getD s.sPort.rate)

/-- REARM empties and arms the recorder in every state: no record, post counter, record number and both counters 0,
and the configuration table as it stands governs from then on; a FROZEN recorder's condition ends. COUNTER-CLEAR sets
every counter of the group that its code names to 0, those of all groups for ALL, and refuses a code above 10 with
BAD-VALUE; numbers, conditions and flags stay. -/
def Obligations.RearmAndCounterClear : Prop :=
  (∀ (f : Frame) (s : State), Takes .sPort f (.rearm f) s →
    let t := taken .sPort f s
    ∃ u, exec (.rearm f) s = .next (serve (replySetup f .done u)) ∧
      u.recorder = { s.recorder with
        state := .armed, buffer := [], post := 0, number := 0, triggers := 0, missed := 0,
        cfg := s.recorder.table } ∧
      beyondRecorder u = beyondRecorder t ∧
      (s.attention.flags.length = flagCount → (u.flag 11).cond = false)) ∧
  (∀ (f : Frame) (s : State), Takes .sPort f (.counterClear f) s →
    let t := taken .sPort f s
    let k := headByte f 1
    let named (n : Nat) : Prop := k = n ∨ k = 10
    (11 ≤ k → exec (.counterClear f) s = .next (serve (replySetup f .badValue t))) ∧
    (k ≤ 10 →
      ∃ u, exec (.counterClear f) s = .next (serve (replySetup f .done u)) ∧
        u = { t with
          sPort := { t.sPort with counters := u.sPort.counters }, fPort := { t.fPort with counters := u.fPort.counters },
          fwd := { t.fwd with counters := u.fwd.counters }, points := u.points,
          query := { t.query with counters := u.query.counters },
          arbiter := { t.arbiter with grants := u.arbiter.grants }, guard := { t.guard with recs := u.guard.recs },
          emission := { t.emission with channels := u.emission.channels },
          dispatch := { t.dispatch with cycles := u.dispatch.cycles, holds := u.dispatch.holds },
          recorder := { t.recorder with triggers := u.recorder.triggers, missed := u.recorder.missed } } ∧
        (named 0 → u.sPort.counters = ⟨0, 0, 0, 0, 0, 0, 0, 0, 0⟩) ∧
        (¬named 0 → u.sPort.counters = t.sPort.counters) ∧
        (named 1 → u.fPort.counters = ⟨0, 0, 0, 0, 0, 0, 0, 0, 0⟩) ∧
        (¬named 1 → u.fPort.counters = t.fPort.counters) ∧
        (named 2 → u.fwd.counters = ⟨0, 0, 0, 0, 0, 0, 0, 0, 0, 0, 0, 0⟩) ∧
        (¬named 2 → u.fwd.counters = t.fwd.counters) ∧
        (named 3 → u.points = t.points.map (fun p => { p with foreign := 0 })) ∧ (¬named 3 → u.points = t.points) ∧
        (named 4 → u.query.counters = ⟨0, 0, 0, 0, 0⟩) ∧ (¬named 4 → u.query.counters = t.query.counters) ∧
        (named 5 → u.arbiter.grants = ⟨0, 0, 0, 0, 0⟩) ∧ (¬named 5 → u.arbiter.grants = t.arbiter.grants) ∧
        (named 6 → u.guard.recs = t.guard.recs.map
          (fun g => { g with clamped := 0, held := 0, owned := 0, trips := 0 })) ∧
        (¬named 6 → u.guard.recs = t.guard.recs) ∧
        (named 7 → u.emission.channels = t.emission.channels.map
          (fun c => { c with run := { c.run with concClamp := 0, countFull := 0 } })) ∧
        (¬named 7 → u.emission.channels = t.emission.channels) ∧
        (named 8 → u.dispatch.cycles = 0 ∧ u.dispatch.holds = 0) ∧
        (¬named 8 → u.dispatch.cycles = t.dispatch.cycles ∧ u.dispatch.holds = t.dispatch.holds) ∧
        (named 9 → u.recorder.triggers = 0 ∧ u.recorder.missed = 0) ∧
        (¬named 9 → u.recorder.triggers = t.recorder.triggers ∧ u.recorder.missed = t.recorder.missed)))

/-- The four DISPATCH sub-commands by the dispatch state. ENABLE: STOPPED sets the enable and, in RUN with the table
configured, enters RUN, or HOLD if an input is EXPIRED; otherwise DONE with no change. DISABLE: the enable becomes no
and the unit STOPPED. RUN: STOPPED refuses; RUN answers DONE; HOLD takes the cause INPUT if an input is EXPIRED, else
returns to RUN and runs a first cycle. HOLD: STOPPED refuses; otherwise HOLD with cause COMMAND. An unknown sub-command
is refused. The hypotheses on `publishes` and `owed` say that the part itself writes no required input and that no
occasion waits. That an unknown sub-command is this row's is the model's choice (log entry 18), and that DISABLE ends the
enable in RUN and HOLD too is its reading (log entry 30). -/
def Obligations.DispatchCommandsActByState : Prop :=
  (∀ (f : Frame) (s : State), Takes .sPort f (.dispatchEnable f) s →
    let t := taken .sPort f s
    let enabled : State := { t with dispatch := { t.dispatch with enable := true } }
    (headByte f 1 ≠ 0 → exec (.dispatchEnable f) s = .next (serve (replySetup f .badValue t))) ∧
    (headByte f 1 = 0 →
      (s.dispatch.state ≠ .stopped → exec (.dispatchEnable f) s = .next (serve (replySetup f .done t))) ∧
      (s.dispatch.state = .stopped → (s.part.state = .setup ∨ s.dispatch.cfg.configured = false) →
        exec (.dispatchEnable f) s = .next (serve (replySetup f .done (serve enabled)))) ∧
      (s.dispatch.state = .stopped → s.part.state = .run → s.dispatch.cfg.configured = true → s.dispatch.owed = false →
        (∀ i, publishes s.emission.plan s.dispatch.cfg (s.dispatch.cfg.inputPoint i) = false) →
        ∃ u, exec (.dispatchEnable f) s = .next (serve (replySetup f .done u)) ∧ beyondWake u = beyondWake enabled ∧
          u.dispatch.timer = some (s.now + s.dispatch.oper.interval) ∧
          (let expired := ∃ i, (s.point (s.dispatch.cfg.inputPoint i)).effQuality.usable = false ∧
              ((s.dispatch.input i).last = none ∨ (s.dispatch.input i).state = .expired);
            (expired → u.dispatch.state = .hold ∧ u.dispatch.cause = some .input) ∧
            (¬expired → u.dispatch.state = .run ∧ u.dispatch.first = true ∧
              u.dispatch.lastOrdered = [none, none, none, none, none]))))) ∧
  (∀ (f : Frame) (s : State), Takes .sPort f (.dispatchDisable f) s →
    let t := taken .sPort f s
    let off : State := { t with dispatch := { t.dispatch with enable := false } }
    (s.dispatch.state = .stopped → s.dispatch.owed = false →
      exec (.dispatchDisable f) s = .next (serve (replySetup f .done (serve off)))) ∧
    (s.dispatch.state ≠ .stopped →
      ∃ u, exec (.dispatchDisable f) s = .next (serve (replySetup f .done u)) ∧ beyondWake u = beyondWake off ∧
        u.dispatch.state = .stopped ∧ u.dispatch.timer = none ∧ u.dispatch.cause = none ∧ u.dispatch.first = false)) ∧
  (∀ (f : Frame) (s : State), Takes .sPort f (.dispatchRun f) s →
    let t := taken .sPort f s
    let expired := s.dispatch.fa.state = .expired ∨ s.dispatch.fb.state = .expired ∨ s.dispatch.trip.state = .expired
    (s.dispatch.state = .stopped → exec (.dispatchRun f) s = .next (serve (replySetup f .refusedState t))) ∧
    (s.dispatch.state = .run → exec (.dispatchRun f) s = .next (serve (replySetup f .done t))) ∧
    (s.dispatch.state = .hold → s.dispatch.owed = false →
      (expired → exec (.dispatchRun f) s =
        .next (serve (replySetup f .done (serve { t with dispatch := { t.dispatch with cause := some .input } })))) ∧
      (¬expired → publishes s.emission.plan s.dispatch.cfg s.dispatch.cfg.trip = false →
        ∃ u, exec (.dispatchRun f) s = .next (serve (replySetup f .done u)) ∧ beyondWake u = beyondWake t ∧
          u.dispatch.state = .run ∧ u.dispatch.cause = none ∧ u.dispatch.first = false ∧
          u.dispatch.cycleNo = (s.dispatch.cycleNo + 1) % 65536 ∧ u.dispatch.cycles = bump s.dispatch.cycles ∧
          u.dispatch.timer = some (s.now + s.dispatch.oper.interval)))) ∧
  (∀ (f : Frame) (s : State), Takes .sPort f (.dispatchHold f) s →
    let t := taken .sPort f s
    (s.dispatch.state = .stopped → exec (.dispatchHold f) s = .next (serve (replySetup f .refusedState t))) ∧
    (s.dispatch.state ≠ .stopped →
      ∃ u, exec (.dispatchHold f) s = .next (serve (replySetup f .done u)) ∧ beyondWake u = beyondWake t ∧
        u.dispatch.state = .hold ∧ u.dispatch.cause = some .command ∧
        u.dispatch.holds = if s.dispatch.state = .run then bump s.dispatch.holds else s.dispatch.holds))

/-! ### The arithmetic of the blocks -/

/-- A term is active by its relation, threshold and, once active, hysteresis on a usable value, by its fail mode on an
unusable one. A wake in RUN evaluates each output's used terms on the point, in record order: an interlock that becomes
active trips an output that is not TRIPPED, one that becomes inactive makes a TRIPPED output CLEAR or, if latching,
LATCHED. Lines and dispatch unit wake after the guard (log entry 7): a configured line takes its operating flag, which
only a usable 0 of its configured operating point makes no, and one that comes on in RUN marks its open channels. A trip
withdraws every order that waits for the output, stops its ramp, counts, raises OUTPUT-TRIP, and with action SAFE issues
the safe value with one trip order, with action HOLD takes the issued value as target; the recorder has it last (log
entry 8): with action SAFE the TRIP-SAFE outcome of the safe value, a trigger marked OUTPUT-TRIPPED while that source is
enabled and else under the PART selection, with action HOLD the marker; a disabled source marks nothing. The recorder
enters a record as its newest under its number and time in ARMED and POST alone; a trigger is counted, in FROZEN as
missed, and starts the post count, whose last record freezes it. What the trip passes on to the transmitters goes as it
appears (entry 17). -/
def Obligations.TermsTripTheirOutput : Prop :=
  (∀ (t : Term) (v : Value) (q : Quality),
    (t.relation = .notGood → evalTerm t v q = !q.usable) ∧
    (t.relation ≠ .notGood → q.usable = false → evalTerm t v q = t.failActive) ∧
    (t.relation = .above → q.usable = true →
      (evalTerm t v q = true ↔ (if t.active = true then t.threshold - t.hysteresis else t.threshold) < v)) ∧
    (t.relation = .below → q.usable = true →
      (evalTerm t v q = true ↔ v < if t.active = true then t.threshold + t.hysteresis else t.threshold))) ∧
  (∀ (p i : Nat) (s : State), i < s.guard.recs.length →
    let g := s.guardRec i
    let reads := g.configured = true ∧ ∃ t ∈ g.terms, t.used = true ∧ t.point = p
    let woken : GuardRec := { g with terms := g.terms.map (fun t =>
      if t.used = true ∧ t.point = p then
        { t with active := evalTerm t (s.point p).effValue (s.point p).effQuality } else t) }
    let seen := s.modGuard i (fun _ => woken)
    let before := ∃ t ∈ g.terms, t.used = true ∧ t.active = true
    let after := ∃ t ∈ woken.terms, t.used = true ∧ t.active = true
    (¬reads → wakeOutput p i s = s) ∧
    (reads → after → ¬before → g.state ≠ .tripped → wakeOutput p i s = tripOutput i seen) ∧
    (reads → ¬after → before → g.state = .tripped →
      (wakeOutput p i s).guardRec i = { woken with state := if g.latching = true then .latched else .clear } ∧
      beyondAttention (wakeOutput p i s) =
        beyondAttention (s.modGuard i (fun _ => (wakeOutput p i s).guardRec i))) ∧
    (reads → ¬(after ∧ ¬before ∧ g.state ≠ .tripped) → ¬(¬after ∧ before ∧ g.state = .tripped) →
      wakeOutput p i s = seen)) ∧
  (∀ (i : Nat) (s : State), i < s.guard.recs.length →
    let g := s.guardRec i
    let outs := dispatchOutputs s g.point
    let issued := match s.guard.steps.find? (fun q => decide (q.record = i)) with
      | some q => some q.fromVal
      | none => g.issued
    let withdrawn : State := { s with
      fwd := { s.fwd with orders := s.fwd.orders.filter (fun e => !e.guardedFor g.point) }
      guard := { s.guard with
        steps := s.guard.steps.filter (fun q => decide (q.record ≠ i)),
        recs := s.guard.recs.modify i (fun r => { r with issued := issued, rampTimer := none }) }
      dispatch := { s.dispatch with
        slots := s.dispatch.slots.filter (fun o => decide (o.output ∉ outs)),
        lastOrdered := s.dispatch.lastOrdered.mapIdx (fun k x =>
          if k ∈ outs ∧ ∃ o ∈ s.dispatch.slots, o.output = k then none else x) } }
    let v := serve withdrawn
    let tripped : GuardRec := match g.action with
      | .safe => { g with
          state := .tripped, target := some g.safe, issued := some g.safe, lastIssue := some s.now, rampTimer := none,
          trips := bump g.trips }
      | .hold => { g with
          state := .tripped, target := issued, issued := issued, rampTimer := none, trips := bump g.trips }
    let acted : State := { v with guard := { v.guard with
      recs := v.guard.recs.modify i (fun _ => tripped)
      trips := if g.action = .safe ∧ ∀ t ∈ v.guard.trips, t.record ≠ i then v.guard.trips ++ [⟨i, g.point, g.safe⟩]
        else v.guard.trips } }
    let flagged := raiseFlag .outputTrip (setCondition .outputLatched
      (acted.guard.recs.any (fun r => decide (r.configured = true ∧ r.state = .latched))) acted)
    withdrawOrders i s = withdrawn ∧
    tripOutput i s = serve (match g.action with
      | .safe => recordTripSafe g.point g.safe flagged
      | .hold => markerTrigger (some g.point) issued .outputTripped flagged) ∧
    beyondGuard (tripOutput i s) = beyondGuard s ∧ (tripOutput i s).guardRec i = tripped ∧
    (∀ j, j ≠ i → (tripOutput i s).guardRec j = s.guardRec j) ∧
    (s.attention.flags.length = flagCount → ((tripOutput i s).flag 20).isSet = true)) ∧
  (∀ (p : Nat) (s : State),
    let woken (l : LineId) (t : State) : State :=
      let o := t.point p
      let on := ¬(o.configured = true ∧ o.effQuality.usable = true ∧ o.effValue = 0)
      let set := t.modLine l (fun r => { r with operating := decide on })
      if (t.line l).opPoint = p ∧ (t.line l).configured = true then
        if on ∧ (t.line l).operating = false ∧ t.part.state = .run then
          { set with emission := { set.emission with channels := set.emission.channels.map (fun c =>
            if c.cfg.line = l ∧ c.run.opened = true then { c with run := { c.run with operated := true } } else c) } }
        else set
      else t
    (s.part.state = .setup → wakeGuard p s = s) ∧
    (s.part.state = .run → wakeGuard p s = (List.range 96).foldl (fun t i => wakeOutput p i t) s) ∧
    wakeLines p s = woken .b (woken .a s) ∧
    wakeConsumers p s = wakeDispatch p (wakeLines p (wakeGuard p s))) ∧
  (∀ (r : RecEntry) (s : State),
    let c := s.recorder
    let entry : RecEntry := { r with number := c.number, time := ⟨s.clock.day, s.clock.ms, s.clock.unset⟩ }
    let pushed : Recorder := { c with buffer := (entry :: c.buffer).take 256, number := (c.number + 1) % 65536 }
    let counted : Recorder := { pushed with triggers := bump c.triggers }
    let after (c : Recorder) : State := { s with recorder := c }
    let frozen (c : Recorder) : State := setCondition .recorderFrozen true (after { c with state := .frozen, post := 0 })
    (c.state = .off → enterRecord r s = s ∧ enterTrigger r s = s) ∧
    (c.state = .frozen → enterRecord r s = s ∧ enterTrigger r s = after { c with missed := bump c.missed }) ∧
    (c.state = .armed → enterRecord r s = after pushed ∧ enterTrigger r s =
      if c.cfg.postCount = 0 then frozen counted else after { counted with state := .post, post := c.cfg.postCount }) ∧
    (c.state = .post →
      (1 < c.post → enterRecord r s = after { pushed with post := c.post - 1 } ∧
        enterTrigger r s = after { counted with post := c.post - 1 }) ∧
      (c.post ≤ 1 → enterRecord r s = frozen pushed ∧ enterTrigger r s = frozen counted))) ∧
  (∀ (p : Nat) (v : Value) (s : State),
    let safe (marks : List TriggerMark) : RecEntry :=
      { number := 0, time := ⟨0, 0, false⟩, origin := .part, kind := some .order, src := some s.part.station,
        dest := some (ownerStation s p), count := 1, point := some p, value := some v, outcome := some .tripSafe,
        marks := marks }
    recordTripSafe p v s =
      if s.recorder.cfg.sources.getLsbD 0 = true then enterTrigger (safe [.outputTripped]) s
      else if s.recorder.cfg.outcomeSel.getLsbD 2 = true then enterRecord (safe []) s
      else s) ∧
  (∀ (p : Option Nat) (v : Option Value) (m : TriggerMark) (s : State),
    let marks (bit : Nat) : Prop := markerTrigger p v m s =
      if s.recorder.cfg.sources.getLsbD bit = true then
        enterTrigger { number := 0, time := ⟨0, 0, false⟩, origin := .part, kind := none, src := none, dest := none,
                       count := 0, point := p, value := v, outcome := none, marks := [m] } s
      else s
    (m = .outputTripped → marks 0) ∧ (m = .lineRestrict → marks 1) ∧ (m = .portOverrun → marks 2) ∧ (m = .force → marks 3))

/-- The guard's judgement of an order, after a pending step of the output is withdrawn: in SETUP HELD; for an output
owned by DISPATCH, from the supervisory while the dispatch unit is in RUN, OWNED; for an output not CLEAR, HELD or, from
dispatch, dropped; each counted and changing neither target nor issued value. Otherwise the target is the value clamped
between low and the effective high, and placed at once where there is no ramp, no issued value, no distance or urgency;
else one step toward it is placed once the ramp interval has passed and no ramp timer runs; else the ramp timer runs and
nothing is placed. What is placed lies within the range. The recorder is handed one outcome for each decision, under
origin GUARD or DISPATCH and its selection: HELD for a drop too, RAMPED for a step or an absorbed order, CLAMPED or
PASSED, with the value placed or else given. The RESTRICT entry of a line, in record order, lowers the target of each
CLEAR output restricted by it and all that waits for it to the restricted high, and issues a step to that value where
the issued value lies above it. The step's from value and its service as it is written are the model's readings (log
entries 9 and 17). -/
def Obligations.GuardJudgesOrders : Prop :=
  (∀ (org : OrderOrigin) (i : Nat) (given : Value) (s0 : State), i < s0.guard.recs.length →
    let s := withdrawStep i s0
    let g := s.guardRec i
    let hi := if g.restricted = true ∧ ∃ l, g.line = some l ∧ (s.line l).state = .restrict then g.rhigh else g.high
    let v := clampTo g.low hi given
    let a := guardOrder org i given s0
    let u := a.2
    let r := u.guardRec i
    let supervisory := ∃ d f, org = .supervisory d f
    let urgent := ∃ k, org = .dispatch k true
    let unplaced := u.fwd = s.fwd ∧ u.dispatch = s.dispatch
    let placed (x : Value) : Prop :=
      (∀ d f, org = .supervisory d f → u.dispatch = s.dispatch ∧ u.fwd = { s.fwd with
        orders := s.fwd.orders ++ [.order d g.point x f true s.fwd.acceptance], acceptance := s.fwd.acceptance + 1 }) ∧
      (∀ k b, org = .dispatch k b → u.fwd = s.fwd ∧ u.dispatch = { s.dispatch with
        slots := if s.dispatch.slots.any (fun o => decide (o.output = k)) then
            s.dispatch.slots.map (fun o => if o.output = k then ⟨k, x, b⟩ else o)
          else s.dispatch.slots ++ [⟨k, x, b⟩] })
    let recorded (o : RecOutcome) (x : Value) : Prop := u.recorder = (match org with
      | .supervisory d f => recordOutcome .guard o f d g.point x s0
      | .dispatch _ _ => recordOutcome .dispatch o s.part.station (ownerStation s g.point) g.point x s0).recorder
    beyondGuard u = beyondGuard s0 ∧ (∀ j, j ≠ i → u.guardRec j = s0.guardRec j) ∧ u.guard.trips = s0.guard.trips ∧
    u.guard.steps = s.guard.steps ∧
    (s.part.state = .setup →
      a.1 = .held ∧ r = { g with held := bump g.held } ∧ unplaced ∧ recorded .held given ∧
        (supervisory → s.attention.flags.length = flagCount → (u.flag 21).isSet = true)) ∧
    (s.part.state = .run →
      (supervisory → g.owner = .dispatch → s.dispatch.state = .run →
        a.1 = .owned ∧ r = { g with owned := bump g.owned } ∧ unplaced ∧ recorded .owned given) ∧
      (¬(supervisory ∧ g.owner = .dispatch ∧ s.dispatch.state = .run) →
        (g.state ≠ .clear →
          (supervisory → a.1 = .held) ∧ (¬supervisory → a.1 = .dropped) ∧ r = { g with held := bump g.held } ∧ unplaced ∧
          recorded .held given ∧
          (supervisory → s.attention.flags.length = flagCount → (u.flag 21).isSet = true)) ∧
        (g.state = .clear →
          let at_once := g.issued = some v ∨ g.rate = 0 ∨ g.issued = none ∨ urgent
          let passed := ∀ t, g.lastIssue = some t → g.rampTimer = none ∧ t + g.interval ≤ s.now
          let count := if v = given then g.clamped else bump g.clamped
          a.1 = .taken ∧ (g.low ≤ hi → g.low ≤ v ∧ v ≤ hi) ∧
          (at_once → placed v ∧ recorded (if v = given then .passed else .clamped) v ∧
            r = { g with
              target := some v, issued := some v, lastIssue := some s.now, rampTimer := none, clamped := count }) ∧
          (¬at_once → passed → ∀ iss, g.issued = some iss →
            let w := clampTo g.low hi (if iss < v then min v (iss + g.step) else max v (iss - g.step))
            placed w ∧ recorded .ramped w ∧ (g.low ≤ hi → g.low ≤ w ∧ w ≤ hi) ∧
            r = { g with
              target := some v, issued := some w, lastIssue := some s.now, clamped := count,
              rampTimer := if w = v then none else some (s.now + g.interval) }) ∧
          (¬at_once → ¬passed → ∀ t, g.lastIssue = some t → unplaced ∧ recorded .ramped given ∧
            r = { g with
              target := some v, clamped := count,
              rampTimer := if g.rampTimer = none then some (t + g.interval) else g.rampTimer }))))) ∧
  (∀ (l : LineId) (i : Nat) (s : State),
    let g := s.guardRec i
    let rh := g.rhigh
    let acts := g.configured = true ∧ g.line = some l ∧ g.restricted = true ∧ g.state = .clear
    let target := g.target.map (fun t => min t rh)
    let low : State := { s with
      fwd := { s.fwd with orders := s.fwd.orders.map (fun e => match e with
        | .order d p v o true q => .order d p (if p = g.point ∧ rh < v then rh else v) o true q
        | e => e) }
      dispatch := { s.dispatch with slots := s.dispatch.slots.map (fun o =>
        if o.output ∈ dispatchOutputs s g.point ∧ rh < o.value then { o with value := rh } else o) }
      guard := { s.guard with
        recs := s.guard.recs.modify i (fun r => { r with target := target })
        steps := s.guard.steps.map (fun q => if q.record = i ∧ rh < q.value then { q with value := rh } else q) } }
    (¬acts → restrictOutput l i s = s) ∧
    (acts →
      ((∀ iss, g.issued = some iss → iss ≤ rh) → restrictOutput l i s = low) ∧
      (∀ iss, g.issued = some iss → rh < iss → restrictOutput l i s = serve
        (recordOutcome .part .clamped s.part.station (ownerStation s g.point) g.point rh { low with
          guard := { low.guard with
            recs := s.guard.recs.modify i (fun r => { r with
              target := target, issued := some rh, lastIssue := some s.now,
              rampTimer := if target = some rh then none else some (s.now + g.interval) })
            steps := if s.guard.steps.any (fun q => decide (q.record = i)) then
                s.guard.steps.map (fun q => if q.record = i then ⟨i, rh, iss⟩ else q)
              else s.guard.steps ++ [⟨i, rh, iss⟩] } }))) ∧
    restrictEntry l s = (List.range 96).foldl (fun t j => restrictOutput l j t) s) ∧
  (∀ (org : RecOrigin) (o : RecOutcome) (src dest p : Nat) (x : Value) (s : State),
    let entered := enterRecord
      { number := 0, time := ⟨0, 0, false⟩, origin := org, kind := some .order, src := some src, dest := some dest,
        count := 1, point := some p, value := some x, outcome := some o, marks := [] } s
    let selects (bit : Nat) : Prop :=
      recordOutcome org o src dest p x s = if s.recorder.cfg.outcomeSel.getLsbD bit = true then entered else s
    (org = .guard → selects 0) ∧ (org = .dispatch → selects 1) ∧ (org = .part → selects 2))

/-- A dispatch cycle's arithmetic (R133 to R140): the available steam is the sum of the line flows, and turbine steam
and bypass add up to it; extraction and condensing add up to the turbine steam; the turbine order is the previous order,
moved toward the target by at most one ramp step and clamped into the available steam; a TRIP or LOW-STEAM cycle gives
the turbine nothing; the power follows R138; a line's target is its share, clamped while it operates, with one
redistribution pass, and lies between zero and its effective maximum. The record shows the values used (a value never
read counts as 0) and their held marks as the model reads them (log entry 27). The outputs are then decided in order and
handed to the guard (R141, R142), each slot served as it is written (log entry 17): a deadband of 0 hands an unchanged
value too (entry 11), and an output without a guard record gives no order and a refusal HELD counts as dropped (entry
32), as the model reads them. -/
def Obligations.CycleBalancesSteam : Prop :=
  (∀ (s : State),
    let d := s.dispatch
    let c := d.cfg
    let o := d.oper
    let r := computeCycle s
    let la := s.emission.lineA
    let lb := s.emission.lineB
    let effA : Value := if la.state = .normal then c.lineA.max else ((c.lineA.max * c.lineA.warn / 100 : Nat) : Int)
    let effB : Value := if lb.state = .normal then c.lineB.max else ((c.lineB.max * c.lineB.warn / 100 : Nat) : Int)
    r.number = (d.cycleNo + 1) % 65536 ∧ r.first = d.first ∧ r.mode = o.mode ∧ r.shareA = o.shareA ∧
    r.fa = clampTo 0 10000000 (d.fa.last.getD 0) ∧ r.fb = clampTo 0 10000000 (d.fb.last.getD 0) ∧
    r.trip = d.trip.last.getD 0 ∧ r.heat = max 0 (d.heat.getD 0) ∧ r.grid = max 0 (d.grid.getD 0) ∧
    (r.faHeld = true ↔ d.fa.state = .holding) ∧ (r.fbHeld = true ↔ d.fb.state = .holding) ∧
    (r.tripHeld = true ↔ d.trip.state = .holding) ∧
    (r.heatHeld = true ↔ (s.point c.heat).effQuality.usable = false) ∧
    (r.gridHeld = true ↔ (s.point c.grid).effQuality.usable = false) ∧
    r.avail = r.fa + r.fb ∧ 0 ≤ r.fa ∧ 0 ≤ r.fb ∧ r.turbine + r.bypass = r.avail ∧
    r.extraction + r.condensing = r.turbine ∧ 0 ≤ r.extraction ∧ r.extraction ≤ r.turbine ∧ 0 ≤ r.bypass ∧ 0 ≤ r.turbine ∧
    (r.outcome = .trip ↔ r.trip ≠ 0) ∧ (r.outcome = .lowSteam ↔ r.trip = 0 ∧ r.avail < c.turbineMin) ∧
    (r.outcome ≠ .normal → r.turbine = 0 ∧ r.extraction = 0 ∧ r.condensing = 0 ∧ r.power = 0 ∧ r.turbAvail = none ∧
      r.ext = none ∧ r.cond = none ∧ r.target = none ∧ r.previous = none) ∧
    (r.outcome = .trip → r.extReq = none ∧ r.condReq = none ∧ r.total = none ∧
      r.lineA.target = (if la.operating = true then clampTo c.lineA.min effA c.lineA.trip else 0) ∧
      r.lineB.target = (if lb.operating = true then clampTo c.lineB.min effB c.lineB.trip else 0)) ∧
    (r.outcome ≠ .trip → 0 < c.kq → 0 < c.ke →
      ∃ e q t, r.extReq = some e ∧ r.condReq = some q ∧ r.total = some t ∧ 0 ≤ e ∧ e ≤ c.extMax ∧ 0 ≤ q ∧ q ≤ 10000000 ∧
        (e < c.extMax → r.heat * 100 ≤ e * c.kq) ∧ (0 < e → (e - 1) * c.kq < r.heat * 100) ∧
        (q < 10000000 → 100 * r.grid - c.kx * e ≤ q * c.ke) ∧ (0 < q → (q - 1) * c.ke < 100 * r.grid - c.kx * e) ∧
        t = min (e + q) c.turbineMax) ∧
    (∀ t, r.total = some t →
      let both := la.operating = true ∧ lb.operating = true
      let shareA : Value := if both then t * o.shareA / 100 else if la.operating = true then t else 0
      let shareB : Value := if both then t - shareA else if lb.operating = true then t else 0
      let cutA : Value := if la.operating = true then clampTo c.lineA.min effA shareA else 0
      let cutB : Value := if lb.operating = true then clampTo c.lineB.min effB shareB else 0
      r.lineA.target = (if both then min effA (cutA + max 0 (shareB - cutB)) else cutA) ∧
      r.lineB.target = (if both then min effB (cutB + max 0 (shareA - cutA)) else cutB)) ∧
    r.lineA.operating = la.operating ∧ r.lineA.state = la.state ∧ r.lineA.effMax = effA ∧
    r.lineB.operating = lb.operating ∧ r.lineB.state = lb.state ∧ r.lineB.effMax = effB ∧
    (r.outcome = .normal →
      ∃ e q at_ ext cond target previous, r.extReq = some e ∧ r.condReq = some q ∧ r.turbAvail = some at_ ∧
        r.ext = some ext ∧ r.cond = some cond ∧ r.target = some target ∧ r.previous = some previous ∧
        at_ = min r.avail c.turbineMax ∧ target = max (ext + cond) c.turbineMin ∧
        (o.mode = .heatLed → ext = min e at_ ∧ cond = min q (at_ - ext)) ∧
        (o.mode = .powerLed → cond = min q at_ ∧ ext = min e (at_ - cond)) ∧
        (let names (i : Nat) : Prop := i < 96 ∧ (s.guardRec i).configured = true ∧
            (s.guardRec i).point = c.outputs.getD 0 0;
          (∀ i, names i → (∀ j < i, ¬names j) →
            previous = (s.guardRec i).issued.getD ((d.lastOrdered.getD 0 none).getD target)) ∧
          ((∀ i, ¬names i) → previous = (d.lastOrdered.getD 0 none).getD target)) ∧
        (let step : Int := max 1 ((o.ramp * o.interval / 1000 : Nat) : Int);
          r.turbine = clampTo 0 at_
            (if previous < target then min target (previous + step) else max target (previous - step))) ∧
        r.extraction = min ext r.turbine ∧ r.power = (c.ke * r.condensing + c.kx * r.extraction) / 100) ∧
    (c.lineA.min ≤ c.lineA.max * c.lineA.warn / 100 → c.lineA.warn ≤ 100 → 0 ≤ r.lineA.target ∧ r.lineA.target ≤ effA) ∧
    (c.lineB.min ≤ c.lineB.max * c.lineB.warn / 100 → c.lineB.warn ≤ 100 →
      0 ≤ r.lineB.target ∧ r.lineB.target ≤ effB)) ∧
  (∀ (r : CycleRecord) (s : State),
    (∀ (k : Nat) (v : Value),
      let p := s.dispatch.cfg.outputs.getD k 0
      let last := s.dispatch.lastOrdered.getD k none
      let order (i : Nat) : Decision × State := guardOrder (.dispatch k (decide (r.outcome = .trip))) i v s
      let ordered (x : Option Value) (t : State) : State :=
        { t with dispatch := { t.dispatch with lastOrdered := t.dispatch.lastOrdered.set k x } }
      (∀ i, guardOf s p = some i →
        let due := r.first = true ∨ last = none ∨
          (r.outcome = .trip ∧ (last ≠ some v ∨ (s.guardRec i).issued ≠ some v)) ∨
          (r.outcome ≠ .trip ∧ ∃ w, last = some w ∧ s.dispatch.oper.deadbands.getD k 0 ≤ |v - w|)
        (¬due → handOutput r k v s = (.no, s)) ∧
        (due → (order i).1 = .taken → handOutput r k v s = (.placed, ordered (some v) (order i).2)) ∧
        (due → (order i).1 ≠ .taken → handOutput r k v s = (.dropped, ordered none (order i).2))) ∧
      (guardOf s p = none → handOutput r k v s = (.no, s))) ∧
    (let h0 := handOutput r 0 r.turbine s
      let h1 := handOutput r 1 r.extraction (serve h0.2)
      let h2 := handOutput r 2 r.bypass (serve h1.2)
      let h3 := handOutput r 3 r.lineA.target (serve h2.2)
      let h4 := handOutput r 4 r.lineB.target (serve h3.2)
      handAll r s = ([h0.1, h1.1, h2.1, h3.1, h4.1], serve h4.2)))

/-- The arithmetic of a sample and of a half-hour close. The normalised value is N / D rounded half up and lies between
0 and 360,000,000. A close is OFF where nothing operated, VALID with at least the minimum valid count, else INVALID;
only a VALID one has an average, the sum over the count rounded half up, between the smallest and the largest normalised
sample; it is exceeded when its average is above the limit. A sample of an open channel is of no account while its line
is off, INVALID and counted where the entry or a companion point is not GOOD, else VALID: accumulated, or counted alone
once the count is full, and the WARN test follows it. A line's emission state is what its enforcing channels give,
RESTRICT before WARN; entry into RESTRICT is the recorder's trigger and then the guard's entry, the conditions follow,
and its state point is written last, with the cycle occasions of that (log entries 8 and 12). An accepted report samples
the open channels of its pollutant in ascending index (log entry 7). -/
def Obligations.SamplesAverageWithinRange : Prop :=
  (∀ (c o2 h2o : Int) (ref : Nat), 0 ≤ c → c ≤ 10000000 → 0 ≤ o2 → o2 ≤ 2000 → 0 ≤ h2o → h2o ≤ 5000 → 300 ≤ ref →
    ref ≤ 1500 →
    let n := c * 10000 * (2100 - ref)
    let d := (10000 - h2o) * (2100 - o2)
    normalise c o2 h2o ref = (2 * n + d) / (2 * d) ∧ 500000 ≤ d ∧ 0 ≤ normalise c o2 h2o ref ∧
      normalise c o2 h2o ref ≤ 360000000 ∧ (c = 0 → normalise c o2 h2o ref = 0)) ∧
  (∀ (s : State) (k : Nat), Bounded s → k < 16 →
    let ch := s.channel k
    let r := halfRecord false ch
    (ch.run.operated = false → r.status = .off) ∧
    (ch.run.operated = true → ch.cfg.minValid ≤ ch.run.valid → r.status = .valid) ∧
    (ch.run.operated = true → ch.run.valid < ch.cfg.minValid → r.status = .invalid) ∧
    (r.status ≠ .valid → r.average = none ∧ r.exceeded = false) ∧
    (r.status = .valid →
      ∃ lo hi a, r.minmax = some (lo, hi) ∧ r.average = some a ∧ lo ≤ a ∧ a ≤ hi ∧ a ≤ 360000000 ∧
        ch.cfg.minValid ≤ r.valid ∧ a = (2 * ch.run.sum + ch.run.valid) / (2 * ch.run.valid) ∧
        (r.exceeded = true ↔ (ch.cfg.halfLimit : Int) < a))) ∧
  (∀ (k : Nat) (v : Value) (q : Quality) (s : State), k < s.emission.channels.length →
    let ch := s.channel k
    let c := ch.cfg
    let on := (s.line c.line).operating = true
    let good (p : Nat) : Prop := (s.point p).effQuality = .good
    let valid := q = .good ∧ good c.o2 ∧ ∀ p, c.h2o = some p → good p
    let becomes (r : ChannelRun) : State := s.modChannel k (fun ch => { ch with run := r })
    let n := normalise (clampTo 0 10000000 v) (clampTo 0 c.o2Cap (s.point c.o2).effValue)
      (match c.h2o with | none => 0 | some p => clampTo 0 5000 (s.point p).effValue) c.o2Ref
    let seen : ChannelRun := { ch.run with
      operated := true
      concClamp := if v < 0 ∨ 10000000 < v then bump ch.run.concClamp else ch.run.concClamp }
    let added : ChannelRun := { seen with
      sum := ch.run.sum + n, valid := ch.run.valid + 1
      minmax := match ch.run.minmax with
        | none => some (n, n)
        | some (lo, hi) => some (min lo n, max hi n) }
    let warns := c.warnMin ≤ added.valid ∧ (ch.run.warnLevel : Int) * added.valid < added.sum ∧ ch.run.warn = false
    (¬on → takeSample k v q s = s) ∧
    (on → ¬valid → takeSample k v q s = becomes { ch.run with operated := true, invalid := bump ch.run.invalid }) ∧
    (on → valid → 65535 ≤ ch.run.valid →
      takeSample k v q s = becomes { seen with countFull := bump ch.run.countFull }) ∧
    (on → valid → ch.run.valid < 65535 →
      (¬warns → takeSample k v q s = becomes added) ∧
      (warns → takeSample k v q s =
        if c.enforcing = true then deriveEmission false c.line (becomes { added with warn := true })
        else becomes { added with warn := true }))) ∧
  (∀ (p : Nat) (v : Value) (q : Quality) (s : State), wakeChannels p v q s = (List.range 16).foldl (fun t k =>
    if (t.channel k).cfg.configured = true ∧ (t.channel k).run.opened = true ∧ (t.channel k).cfg.pollutant = p then
      takeSample k v q t
    else t) s) ∧
  (∀ (always : Bool) (l : LineId) (s : State),
    let enforced (c : Channel) : Prop := c.cfg.configured = true ∧ c.cfg.line = l ∧ c.cfg.enforcing = true
    let old := (s.line l).state
    let new : EmissionState :=
      if ∃ c ∈ s.emission.channels, enforced c ∧ c.run.latch = true then .restrict
      else if ∃ c ∈ s.emission.channels, enforced c ∧ c.run.warn = true then .warn
      else .normal
    let stated := s.modLine l (fun r => { r with state := new })
    let entered := if new = .restrict ∧ old ≠ .restrict then
        restrictEntry l (markerTrigger none (some (match l with | .a => 0 | .b => 1)) .lineRestrict stated)
      else stated
    let either (e : EmissionState) : Bool :=
      decide (entered.emission.lineA.state = e ∨ entered.emission.lineB.state = e)
    let judged := setCondition .emissionWarn (either .warn) (setCondition .emissionRestrict (either .restrict) entered)
    ((s.line l).configured = false → deriveEmission always l s = s) ∧
    ((s.line l).configured = true → deriveEmission always l s =
      if always = true ∨ new ≠ old then
        settle (match (s.line l).statePoint with
          | none => judged
          | some p => writeSelf p (match new with | .normal => 0 | .warn => 1 | .restrict => 2) judged)
      else judged))
end

