-- ==== Sys2Proof/Laws/State.lean ====
section
/-! SUPPORT. One lemma for each field under each named update of the state: what the update leaves is read off without
unfolding it; and what a record reads after its own update. -/

namespace Sys2Proof.Machine

open Sys2Proof

/-! ### modPoint -/

@[simp] theorem State.modPoint_held (s : State) (p : Nat) (f : Point → Point) : (s.modPoint p f).held = s.held := rfl
@[simp] theorem State.modPoint_now (s : State) (p : Nat) (f : Point → Point) : (s.modPoint p f).now = s.now := rfl
@[simp] theorem State.modPoint_part (s : State) (p : Nat) (f : Point → Point) : (s.modPoint p f).part = s.part := rfl
@[simp] theorem State.modPoint_clock (s : State) (p : Nat) (f : Point → Point) : (s.modPoint p f).clock = s.clock := rfl
@[simp] theorem State.modPoint_fwd (s : State) (p : Nat) (f : Point → Point) : (s.modPoint p f).fwd = s.fwd := rfl
@[simp] theorem State.modPoint_query (s : State) (p : Nat) (f : Point → Point) : (s.modPoint p f).query = s.query := rfl
@[simp] theorem State.modPoint_arbiter (s : State) (p : Nat) (f : Point → Point) : (s.modPoint p f).arbiter = s.arbiter := rfl
@[simp] theorem State.modPoint_guard (s : State) (p : Nat) (f : Point → Point) : (s.modPoint p f).guard = s.guard := rfl
@[simp] theorem State.modPoint_emission (s : State) (p : Nat) (f : Point → Point) : (s.modPoint p f).emission = s.emission := rfl
@[simp] theorem State.modPoint_dispatch (s : State) (p : Nat) (f : Point → Point) : (s.modPoint p f).dispatch = s.dispatch := rfl
@[simp] theorem State.modPoint_recorder (s : State) (p : Nat) (f : Point → Point) : (s.modPoint p f).recorder = s.recorder := rfl
@[simp] theorem State.modPoint_sPort (s : State) (p : Nat) (f : Point → Point) : (s.modPoint p f).sPort = s.sPort := rfl
@[simp] theorem State.modPoint_fPort (s : State) (p : Nat) (f : Point → Point) : (s.modPoint p f).fPort = s.fPort := rfl
@[simp] theorem State.modPoint_attention (s : State) (p : Nat) (f : Point → Point) : (s.modPoint p f).attention = s.attention := rfl
@[simp] theorem State.modPoint_pending (s : State) (p : Nat) (f : Point → Point) : (s.modPoint p f).pending = s.pending := rfl

/-! ### modGuard -/

@[simp] theorem State.modGuard_held (s : State) (i : Nat) (f : GuardRec → GuardRec) : (s.modGuard i f).held = s.held := rfl
@[simp] theorem State.modGuard_now (s : State) (i : Nat) (f : GuardRec → GuardRec) : (s.modGuard i f).now = s.now := rfl
@[simp] theorem State.modGuard_part (s : State) (i : Nat) (f : GuardRec → GuardRec) : (s.modGuard i f).part = s.part := rfl
@[simp] theorem State.modGuard_clock (s : State) (i : Nat) (f : GuardRec → GuardRec) : (s.modGuard i f).clock = s.clock := rfl
@[simp] theorem State.modGuard_points (s : State) (i : Nat) (f : GuardRec → GuardRec) : (s.modGuard i f).points = s.points := rfl
@[simp] theorem State.modGuard_fwd (s : State) (i : Nat) (f : GuardRec → GuardRec) : (s.modGuard i f).fwd = s.fwd := rfl
@[simp] theorem State.modGuard_query (s : State) (i : Nat) (f : GuardRec → GuardRec) : (s.modGuard i f).query = s.query := rfl
@[simp] theorem State.modGuard_arbiter (s : State) (i : Nat) (f : GuardRec → GuardRec) : (s.modGuard i f).arbiter = s.arbiter := rfl
@[simp] theorem State.modGuard_emission (s : State) (i : Nat) (f : GuardRec → GuardRec) : (s.modGuard i f).emission = s.emission := rfl
@[simp] theorem State.modGuard_dispatch (s : State) (i : Nat) (f : GuardRec → GuardRec) : (s.modGuard i f).dispatch = s.dispatch := rfl
@[simp] theorem State.modGuard_recorder (s : State) (i : Nat) (f : GuardRec → GuardRec) : (s.modGuard i f).recorder = s.recorder := rfl
@[simp] theorem State.modGuard_sPort (s : State) (i : Nat) (f : GuardRec → GuardRec) : (s.modGuard i f).sPort = s.sPort := rfl
@[simp] theorem State.modGuard_fPort (s : State) (i : Nat) (f : GuardRec → GuardRec) : (s.modGuard i f).fPort = s.fPort := rfl
@[simp] theorem State.modGuard_attention (s : State) (i : Nat) (f : GuardRec → GuardRec) : (s.modGuard i f).attention = s.attention := rfl
@[simp] theorem State.modGuard_pending (s : State) (i : Nat) (f : GuardRec → GuardRec) : (s.modGuard i f).pending = s.pending := rfl

/-! ### modQuery -/

@[simp] theorem State.modQuery_held (s : State) (i : Nat) (f : QueryEntry → QueryEntry) : (s.modQuery i f).held = s.held := rfl
@[simp] theorem State.modQuery_now (s : State) (i : Nat) (f : QueryEntry → QueryEntry) : (s.modQuery i f).now = s.now := rfl
@[simp] theorem State.modQuery_part (s : State) (i : Nat) (f : QueryEntry → QueryEntry) : (s.modQuery i f).part = s.part := rfl
@[simp] theorem State.modQuery_clock (s : State) (i : Nat) (f : QueryEntry → QueryEntry) : (s.modQuery i f).clock = s.clock := rfl
@[simp] theorem State.modQuery_points (s : State) (i : Nat) (f : QueryEntry → QueryEntry) : (s.modQuery i f).points = s.points := rfl
@[simp] theorem State.modQuery_fwd (s : State) (i : Nat) (f : QueryEntry → QueryEntry) : (s.modQuery i f).fwd = s.fwd := rfl
@[simp] theorem State.modQuery_arbiter (s : State) (i : Nat) (f : QueryEntry → QueryEntry) : (s.modQuery i f).arbiter = s.arbiter := rfl
@[simp] theorem State.modQuery_guard (s : State) (i : Nat) (f : QueryEntry → QueryEntry) : (s.modQuery i f).guard = s.guard := rfl
@[simp] theorem State.modQuery_emission (s : State) (i : Nat) (f : QueryEntry → QueryEntry) : (s.modQuery i f).emission = s.emission := rfl
@[simp] theorem State.modQuery_dispatch (s : State) (i : Nat) (f : QueryEntry → QueryEntry) : (s.modQuery i f).dispatch = s.dispatch := rfl
@[simp] theorem State.modQuery_recorder (s : State) (i : Nat) (f : QueryEntry → QueryEntry) : (s.modQuery i f).recorder = s.recorder := rfl
@[simp] theorem State.modQuery_sPort (s : State) (i : Nat) (f : QueryEntry → QueryEntry) : (s.modQuery i f).sPort = s.sPort := rfl
@[simp] theorem State.modQuery_fPort (s : State) (i : Nat) (f : QueryEntry → QueryEntry) : (s.modQuery i f).fPort = s.fPort := rfl
@[simp] theorem State.modQuery_attention (s : State) (i : Nat) (f : QueryEntry → QueryEntry) : (s.modQuery i f).attention = s.attention := rfl
@[simp] theorem State.modQuery_pending (s : State) (i : Nat) (f : QueryEntry → QueryEntry) : (s.modQuery i f).pending = s.pending := rfl

/-! ### modChannel -/

@[simp] theorem State.modChannel_held (s : State) (c : Nat) (f : Channel → Channel) : (s.modChannel c f).held = s.held := rfl
@[simp] theorem State.modChannel_now (s : State) (c : Nat) (f : Channel → Channel) : (s.modChannel c f).now = s.now := rfl
@[simp] theorem State.modChannel_part (s : State) (c : Nat) (f : Channel → Channel) : (s.modChannel c f).part = s.part := rfl
@[simp] theorem State.modChannel_clock (s : State) (c : Nat) (f : Channel → Channel) : (s.modChannel c f).clock = s.clock := rfl
@[simp] theorem State.modChannel_points (s : State) (c : Nat) (f : Channel → Channel) : (s.modChannel c f).points = s.points := rfl
@[simp] theorem State.modChannel_fwd (s : State) (c : Nat) (f : Channel → Channel) : (s.modChannel c f).fwd = s.fwd := rfl
@[simp] theorem State.modChannel_query (s : State) (c : Nat) (f : Channel → Channel) : (s.modChannel c f).query = s.query := rfl
@[simp] theorem State.modChannel_arbiter (s : State) (c : Nat) (f : Channel → Channel) : (s.modChannel c f).arbiter = s.arbiter := rfl
@[simp] theorem State.modChannel_guard (s : State) (c : Nat) (f : Channel → Channel) : (s.modChannel c f).guard = s.guard := rfl
@[simp] theorem State.modChannel_dispatch (s : State) (c : Nat) (f : Channel → Channel) : (s.modChannel c f).dispatch = s.dispatch := rfl
@[simp] theorem State.modChannel_recorder (s : State) (c : Nat) (f : Channel → Channel) : (s.modChannel c f).recorder = s.recorder := rfl
@[simp] theorem State.modChannel_sPort (s : State) (c : Nat) (f : Channel → Channel) : (s.modChannel c f).sPort = s.sPort := rfl
@[simp] theorem State.modChannel_fPort (s : State) (c : Nat) (f : Channel → Channel) : (s.modChannel c f).fPort = s.fPort := rfl
@[simp] theorem State.modChannel_attention (s : State) (c : Nat) (f : Channel → Channel) : (s.modChannel c f).attention = s.attention := rfl
@[simp] theorem State.modChannel_pending (s : State) (c : Nat) (f : Channel → Channel) : (s.modChannel c f).pending = s.pending := rfl

/-! ### modLine -/

@[simp] theorem State.modLine_held (s : State) (l : LineId) (f : LineRec → LineRec) : (s.modLine l f).held = s.held := by cases l <;> rfl
@[simp] theorem State.modLine_now (s : State) (l : LineId) (f : LineRec → LineRec) : (s.modLine l f).now = s.now := by cases l <;> rfl
@[simp] theorem State.modLine_part (s : State) (l : LineId) (f : LineRec → LineRec) : (s.modLine l f).part = s.part := by cases l <;> rfl
@[simp] theorem State.modLine_clock (s : State) (l : LineId) (f : LineRec → LineRec) : (s.modLine l f).clock = s.clock := by cases l <;> rfl
@[simp] theorem State.modLine_points (s : State) (l : LineId) (f : LineRec → LineRec) : (s.modLine l f).points = s.points := by cases l <;> rfl
@[simp] theorem State.modLine_fwd (s : State) (l : LineId) (f : LineRec → LineRec) : (s.modLine l f).fwd = s.fwd := by cases l <;> rfl
@[simp] theorem State.modLine_query (s : State) (l : LineId) (f : LineRec → LineRec) : (s.modLine l f).query = s.query := by cases l <;> rfl
@[simp] theorem State.modLine_arbiter (s : State) (l : LineId) (f : LineRec → LineRec) : (s.modLine l f).arbiter = s.arbiter := by cases l <;> rfl
@[simp] theorem State.modLine_guard (s : State) (l : LineId) (f : LineRec → LineRec) : (s.modLine l f).guard = s.guard := by cases l <;> rfl
@[simp] theorem State.modLine_dispatch (s : State) (l : LineId) (f : LineRec → LineRec) : (s.modLine l f).dispatch = s.dispatch := by cases l <;> rfl
@[simp] theorem State.modLine_recorder (s : State) (l : LineId) (f : LineRec → LineRec) : (s.modLine l f).recorder = s.recorder := by cases l <;> rfl
@[simp] theorem State.modLine_sPort (s : State) (l : LineId) (f : LineRec → LineRec) : (s.modLine l f).sPort = s.sPort := by cases l <;> rfl
@[simp] theorem State.modLine_fPort (s : State) (l : LineId) (f : LineRec → LineRec) : (s.modLine l f).fPort = s.fPort := by cases l <;> rfl
@[simp] theorem State.modLine_attention (s : State) (l : LineId) (f : LineRec → LineRec) : (s.modLine l f).attention = s.attention := by cases l <;> rfl
@[simp] theorem State.modLine_pending (s : State) (l : LineId) (f : LineRec → LineRec) : (s.modLine l f).pending = s.pending := by cases l <;> rfl

/-! ### modPort -/

@[simp] theorem State.modPort_held (s : State) (p : Port) (f : PortRec → PortRec) : (s.modPort p f).held = s.held := by cases p <;> rfl
@[simp] theorem State.modPort_now (s : State) (p : Port) (f : PortRec → PortRec) : (s.modPort p f).now = s.now := by cases p <;> rfl
@[simp] theorem State.modPort_part (s : State) (p : Port) (f : PortRec → PortRec) : (s.modPort p f).part = s.part := by cases p <;> rfl
@[simp] theorem State.modPort_clock (s : State) (p : Port) (f : PortRec → PortRec) : (s.modPort p f).clock = s.clock := by cases p <;> rfl
@[simp] theorem State.modPort_points (s : State) (p : Port) (f : PortRec → PortRec) : (s.modPort p f).points = s.points := by cases p <;> rfl
@[simp] theorem State.modPort_fwd (s : State) (p : Port) (f : PortRec → PortRec) : (s.modPort p f).fwd = s.fwd := by cases p <;> rfl
@[simp] theorem State.modPort_query (s : State) (p : Port) (f : PortRec → PortRec) : (s.modPort p f).query = s.query := by cases p <;> rfl
@[simp] theorem State.modPort_arbiter (s : State) (p : Port) (f : PortRec → PortRec) : (s.modPort p f).arbiter = s.arbiter := by cases p <;> rfl
@[simp] theorem State.modPort_guard (s : State) (p : Port) (f : PortRec → PortRec) : (s.modPort p f).guard = s.guard := by cases p <;> rfl
@[simp] theorem State.modPort_emission (s : State) (p : Port) (f : PortRec → PortRec) : (s.modPort p f).emission = s.emission := by cases p <;> rfl
@[simp] theorem State.modPort_dispatch (s : State) (p : Port) (f : PortRec → PortRec) : (s.modPort p f).dispatch = s.dispatch := by cases p <;> rfl
@[simp] theorem State.modPort_recorder (s : State) (p : Port) (f : PortRec → PortRec) : (s.modPort p f).recorder = s.recorder := by cases p <;> rfl
@[simp] theorem State.modPort_attention (s : State) (p : Port) (f : PortRec → PortRec) : (s.modPort p f).attention = s.attention := by cases p <;> rfl
@[simp] theorem State.modPort_pending (s : State) (p : Port) (f : PortRec → PortRec) : (s.modPort p f).pending = s.pending := by cases p <;> rfl

/-! ### countPort -/

@[simp] theorem State.countPort_held (s : State) (p : Port) (f : PortCounters → PortCounters) : (s.countPort p f).held = s.held := by cases p <;> rfl
@[simp] theorem State.countPort_now (s : State) (p : Port) (f : PortCounters → PortCounters) : (s.countPort p f).now = s.now := by cases p <;> rfl
@[simp] theorem State.countPort_part (s : State) (p : Port) (f : PortCounters → PortCounters) : (s.countPort p f).part = s.part := by cases p <;> rfl
@[simp] theorem State.countPort_clock (s : State) (p : Port) (f : PortCounters → PortCounters) : (s.countPort p f).clock = s.clock := by cases p <;> rfl
@[simp] theorem State.countPort_points (s : State) (p : Port) (f : PortCounters → PortCounters) : (s.countPort p f).points = s.points := by cases p <;> rfl
@[simp] theorem State.countPort_fwd (s : State) (p : Port) (f : PortCounters → PortCounters) : (s.countPort p f).fwd = s.fwd := by cases p <;> rfl
@[simp] theorem State.countPort_query (s : State) (p : Port) (f : PortCounters → PortCounters) : (s.countPort p f).query = s.query := by cases p <;> rfl
@[simp] theorem State.countPort_arbiter (s : State) (p : Port) (f : PortCounters → PortCounters) : (s.countPort p f).arbiter = s.arbiter := by cases p <;> rfl
@[simp] theorem State.countPort_guard (s : State) (p : Port) (f : PortCounters → PortCounters) : (s.countPort p f).guard = s.guard := by cases p <;> rfl
@[simp] theorem State.countPort_emission (s : State) (p : Port) (f : PortCounters → PortCounters) : (s.countPort p f).emission = s.emission := by cases p <;> rfl
@[simp] theorem State.countPort_dispatch (s : State) (p : Port) (f : PortCounters → PortCounters) : (s.countPort p f).dispatch = s.dispatch := by cases p <;> rfl
@[simp] theorem State.countPort_recorder (s : State) (p : Port) (f : PortCounters → PortCounters) : (s.countPort p f).recorder = s.recorder := by cases p <;> rfl
@[simp] theorem State.countPort_attention (s : State) (p : Port) (f : PortCounters → PortCounters) : (s.countPort p f).attention = s.attention := by cases p <;> rfl
@[simp] theorem State.countPort_pending (s : State) (p : Port) (f : PortCounters → PortCounters) : (s.countPort p f).pending = s.pending := by cases p <;> rfl

/-! ### modFlag -/

@[simp] theorem State.modFlag_held (s : State) (i : Nat) (f : FlagRec → FlagRec) : (s.modFlag i f).held = s.held := rfl
@[simp] theorem State.modFlag_now (s : State) (i : Nat) (f : FlagRec → FlagRec) : (s.modFlag i f).now = s.now := rfl
@[simp] theorem State.modFlag_part (s : State) (i : Nat) (f : FlagRec → FlagRec) : (s.modFlag i f).part = s.part := rfl
@[simp] theorem State.modFlag_clock (s : State) (i : Nat) (f : FlagRec → FlagRec) : (s.modFlag i f).clock = s.clock := rfl
@[simp] theorem State.modFlag_points (s : State) (i : Nat) (f : FlagRec → FlagRec) : (s.modFlag i f).points = s.points := rfl
@[simp] theorem State.modFlag_fwd (s : State) (i : Nat) (f : FlagRec → FlagRec) : (s.modFlag i f).fwd = s.fwd := rfl
@[simp] theorem State.modFlag_query (s : State) (i : Nat) (f : FlagRec → FlagRec) : (s.modFlag i f).query = s.query := rfl
@[simp] theorem State.modFlag_arbiter (s : State) (i : Nat) (f : FlagRec → FlagRec) : (s.modFlag i f).arbiter = s.arbiter := rfl
@[simp] theorem State.modFlag_guard (s : State) (i : Nat) (f : FlagRec → FlagRec) : (s.modFlag i f).guard = s.guard := rfl
@[simp] theorem State.modFlag_emission (s : State) (i : Nat) (f : FlagRec → FlagRec) : (s.modFlag i f).emission = s.emission := rfl
@[simp] theorem State.modFlag_dispatch (s : State) (i : Nat) (f : FlagRec → FlagRec) : (s.modFlag i f).dispatch = s.dispatch := rfl
@[simp] theorem State.modFlag_recorder (s : State) (i : Nat) (f : FlagRec → FlagRec) : (s.modFlag i f).recorder = s.recorder := rfl
@[simp] theorem State.modFlag_sPort (s : State) (i : Nat) (f : FlagRec → FlagRec) : (s.modFlag i f).sPort = s.sPort := rfl
@[simp] theorem State.modFlag_fPort (s : State) (i : Nat) (f : FlagRec → FlagRec) : (s.modFlag i f).fPort = s.fPort := rfl
@[simp] theorem State.modFlag_pending (s : State) (i : Nat) (f : FlagRec → FlagRec) : (s.modFlag i f).pending = s.pending := rfl

/-! ### countFwd -/

@[simp] theorem State.countFwd_held (s : State) (f : FwdCounters → FwdCounters) : (s.countFwd f).held = s.held := rfl
@[simp] theorem State.countFwd_now (s : State) (f : FwdCounters → FwdCounters) : (s.countFwd f).now = s.now := rfl
@[simp] theorem State.countFwd_part (s : State) (f : FwdCounters → FwdCounters) : (s.countFwd f).part = s.part := rfl
@[simp] theorem State.countFwd_clock (s : State) (f : FwdCounters → FwdCounters) : (s.countFwd f).clock = s.clock := rfl
@[simp] theorem State.countFwd_points (s : State) (f : FwdCounters → FwdCounters) : (s.countFwd f).points = s.points := rfl
@[simp] theorem State.countFwd_query (s : State) (f : FwdCounters → FwdCounters) : (s.countFwd f).query = s.query := rfl
@[simp] theorem State.countFwd_arbiter (s : State) (f : FwdCounters → FwdCounters) : (s.countFwd f).arbiter = s.arbiter := rfl
@[simp] theorem State.countFwd_guard (s : State) (f : FwdCounters → FwdCounters) : (s.countFwd f).guard = s.guard := rfl
@[simp] theorem State.countFwd_emission (s : State) (f : FwdCounters → FwdCounters) : (s.countFwd f).emission = s.emission := rfl
@[simp] theorem State.countFwd_dispatch (s : State) (f : FwdCounters → FwdCounters) : (s.countFwd f).dispatch = s.dispatch := rfl
@[simp] theorem State.countFwd_recorder (s : State) (f : FwdCounters → FwdCounters) : (s.countFwd f).recorder = s.recorder := rfl
@[simp] theorem State.countFwd_sPort (s : State) (f : FwdCounters → FwdCounters) : (s.countFwd f).sPort = s.sPort := rfl
@[simp] theorem State.countFwd_fPort (s : State) (f : FwdCounters → FwdCounters) : (s.countFwd f).fPort = s.fPort := rfl
@[simp] theorem State.countFwd_attention (s : State) (f : FwdCounters → FwdCounters) : (s.countFwd f).attention = s.attention := rfl
@[simp] theorem State.countFwd_pending (s : State) (f : FwdCounters → FwdCounters) : (s.countFwd f).pending = s.pending := rfl

/-! ### countQuery -/

@[simp] theorem State.countQuery_held (s : State) (f : QueryCounters → QueryCounters) : (s.countQuery f).held = s.held := rfl
@[simp] theorem State.countQuery_now (s : State) (f : QueryCounters → QueryCounters) : (s.countQuery f).now = s.now := rfl
@[simp] theorem State.countQuery_part (s : State) (f : QueryCounters → QueryCounters) : (s.countQuery f).part = s.part := rfl
@[simp] theorem State.countQuery_clock (s : State) (f : QueryCounters → QueryCounters) : (s.countQuery f).clock = s.clock := rfl
@[simp] theorem State.countQuery_points (s : State) (f : QueryCounters → QueryCounters) : (s.countQuery f).points = s.points := rfl
@[simp] theorem State.countQuery_fwd (s : State) (f : QueryCounters → QueryCounters) : (s.countQuery f).fwd = s.fwd := rfl
@[simp] theorem State.countQuery_arbiter (s : State) (f : QueryCounters → QueryCounters) : (s.countQuery f).arbiter = s.arbiter := rfl
@[simp] theorem State.countQuery_guard (s : State) (f : QueryCounters → QueryCounters) : (s.countQuery f).guard = s.guard := rfl
@[simp] theorem State.countQuery_emission (s : State) (f : QueryCounters → QueryCounters) : (s.countQuery f).emission = s.emission := rfl
@[simp] theorem State.countQuery_dispatch (s : State) (f : QueryCounters → QueryCounters) : (s.countQuery f).dispatch = s.dispatch := rfl
@[simp] theorem State.countQuery_recorder (s : State) (f : QueryCounters → QueryCounters) : (s.countQuery f).recorder = s.recorder := rfl
@[simp] theorem State.countQuery_sPort (s : State) (f : QueryCounters → QueryCounters) : (s.countQuery f).sPort = s.sPort := rfl
@[simp] theorem State.countQuery_fPort (s : State) (f : QueryCounters → QueryCounters) : (s.countQuery f).fPort = s.fPort := rfl
@[simp] theorem State.countQuery_attention (s : State) (f : QueryCounters → QueryCounters) : (s.countQuery f).attention = s.attention := rfl
@[simp] theorem State.countQuery_pending (s : State) (f : QueryCounters → QueryCounters) : (s.countQuery f).pending = s.pending := rfl

/-! ### elapse, placeReply and the arbiter's updates -/

@[simp] theorem elapse_held (d : Nat) (s : State) : (elapse d s).held = s.held := rfl
@[simp] theorem elapse_part (d : Nat) (s : State) : (elapse d s).part = s.part := rfl
@[simp] theorem elapse_points (d : Nat) (s : State) : (elapse d s).points = s.points := rfl
@[simp] theorem elapse_fwd (d : Nat) (s : State) : (elapse d s).fwd = s.fwd := rfl
@[simp] theorem elapse_query (d : Nat) (s : State) : (elapse d s).query = s.query := rfl
@[simp] theorem elapse_arbiter (d : Nat) (s : State) : (elapse d s).arbiter = s.arbiter := rfl
@[simp] theorem elapse_guard (d : Nat) (s : State) : (elapse d s).guard = s.guard := rfl
@[simp] theorem elapse_emission (d : Nat) (s : State) : (elapse d s).emission = s.emission := rfl
@[simp] theorem elapse_dispatch (d : Nat) (s : State) : (elapse d s).dispatch = s.dispatch := rfl
@[simp] theorem elapse_recorder (d : Nat) (s : State) : (elapse d s).recorder = s.recorder := rfl
@[simp] theorem elapse_sPort (d : Nat) (s : State) : (elapse d s).sPort = s.sPort := rfl
@[simp] theorem elapse_fPort (d : Nat) (s : State) : (elapse d s).fPort = s.fPort := rfl
@[simp] theorem elapse_attention (d : Nat) (s : State) : (elapse d s).attention = s.attention := rfl
@[simp] theorem elapse_pending (d : Nat) (s : State) : (elapse d s).pending = s.pending := rfl
@[simp] theorem placeReply_held (f : Frame) (i : SentItem) (s : State) : (placeReply f i s).held = s.held := rfl
@[simp] theorem placeReply_now (f : Frame) (i : SentItem) (s : State) : (placeReply f i s).now = s.now := rfl
@[simp] theorem placeReply_part (f : Frame) (i : SentItem) (s : State) : (placeReply f i s).part = s.part := rfl
@[simp] theorem placeReply_clock (f : Frame) (i : SentItem) (s : State) : (placeReply f i s).clock = s.clock := rfl
@[simp] theorem placeReply_points (f : Frame) (i : SentItem) (s : State) : (placeReply f i s).points = s.points := rfl
@[simp] theorem placeReply_query (f : Frame) (i : SentItem) (s : State) : (placeReply f i s).query = s.query := rfl
@[simp] theorem placeReply_arbiter (f : Frame) (i : SentItem) (s : State) : (placeReply f i s).arbiter = s.arbiter := rfl
@[simp] theorem placeReply_guard (f : Frame) (i : SentItem) (s : State) : (placeReply f i s).guard = s.guard := rfl
@[simp] theorem placeReply_emission (f : Frame) (i : SentItem) (s : State) : (placeReply f i s).emission = s.emission := rfl
@[simp] theorem placeReply_dispatch (f : Frame) (i : SentItem) (s : State) : (placeReply f i s).dispatch = s.dispatch := rfl
@[simp] theorem placeReply_recorder (f : Frame) (i : SentItem) (s : State) : (placeReply f i s).recorder = s.recorder := rfl
@[simp] theorem placeReply_sPort (f : Frame) (i : SentItem) (s : State) : (placeReply f i s).sPort = s.sPort := rfl
@[simp] theorem placeReply_fPort (f : Frame) (i : SentItem) (s : State) : (placeReply f i s).fPort = s.fPort := rfl
@[simp] theorem placeReply_attention (f : Frame) (i : SentItem) (s : State) : (placeReply f i s).attention = s.attention := rfl
@[simp] theorem placeReply_pending (f : Frame) (i : SentItem) (s : State) : (placeReply f i s).pending = s.pending := rfl
@[simp] theorem beginF_held (f : Frame) (i : SentItem) (s : State) : (beginF f i s).held = s.held := rfl
@[simp] theorem beginF_now (f : Frame) (i : SentItem) (s : State) : (beginF f i s).now = s.now := rfl
@[simp] theorem beginF_part (f : Frame) (i : SentItem) (s : State) : (beginF f i s).part = s.part := rfl
@[simp] theorem beginF_clock (f : Frame) (i : SentItem) (s : State) : (beginF f i s).clock = s.clock := rfl
@[simp] theorem beginF_points (f : Frame) (i : SentItem) (s : State) : (beginF f i s).points = s.points := rfl
@[simp] theorem beginF_fwd (f : Frame) (i : SentItem) (s : State) : (beginF f i s).fwd = s.fwd := rfl
@[simp] theorem beginF_query (f : Frame) (i : SentItem) (s : State) : (beginF f i s).query = s.query := rfl
@[simp] theorem beginF_arbiter (f : Frame) (i : SentItem) (s : State) : (beginF f i s).arbiter = s.arbiter := rfl
@[simp] theorem beginF_guard (f : Frame) (i : SentItem) (s : State) : (beginF f i s).guard = s.guard := rfl
@[simp] theorem beginF_emission (f : Frame) (i : SentItem) (s : State) : (beginF f i s).emission = s.emission := rfl
@[simp] theorem beginF_dispatch (f : Frame) (i : SentItem) (s : State) : (beginF f i s).dispatch = s.dispatch := rfl
@[simp] theorem beginF_recorder (f : Frame) (i : SentItem) (s : State) : (beginF f i s).recorder = s.recorder := rfl
@[simp] theorem beginF_sPort (f : Frame) (i : SentItem) (s : State) : (beginF f i s).sPort = s.sPort := rfl
@[simp] theorem beginF_attention (f : Frame) (i : SentItem) (s : State) : (beginF f i s).attention = s.attention := rfl
@[simp] theorem beginF_pending (f : Frame) (i : SentItem) (s : State) : (beginF f i s).pending = s.pending := rfl
@[simp] theorem beginS_held (x : Sending) (s : State) : (beginS x s).held = s.held := rfl
@[simp] theorem beginS_now (x : Sending) (s : State) : (beginS x s).now = s.now := rfl
@[simp] theorem beginS_part (x : Sending) (s : State) : (beginS x s).part = s.part := rfl
@[simp] theorem beginS_clock (x : Sending) (s : State) : (beginS x s).clock = s.clock := rfl
@[simp] theorem beginS_points (x : Sending) (s : State) : (beginS x s).points = s.points := rfl
@[simp] theorem beginS_fwd (x : Sending) (s : State) : (beginS x s).fwd = s.fwd := rfl
@[simp] theorem beginS_query (x : Sending) (s : State) : (beginS x s).query = s.query := rfl
@[simp] theorem beginS_arbiter (x : Sending) (s : State) : (beginS x s).arbiter = s.arbiter := rfl
@[simp] theorem beginS_guard (x : Sending) (s : State) : (beginS x s).guard = s.guard := rfl
@[simp] theorem beginS_emission (x : Sending) (s : State) : (beginS x s).emission = s.emission := rfl
@[simp] theorem beginS_dispatch (x : Sending) (s : State) : (beginS x s).dispatch = s.dispatch := rfl
@[simp] theorem beginS_recorder (x : Sending) (s : State) : (beginS x s).recorder = s.recorder := rfl
@[simp] theorem beginS_fPort (x : Sending) (s : State) : (beginS x s).fPort = s.fPort := rfl
@[simp] theorem beginS_attention (x : Sending) (s : State) : (beginS x s).attention = s.attention := rfl
@[simp] theorem beginS_pending (x : Sending) (s : State) : (beginS x s).pending = s.pending := rfl
@[simp] theorem advanceFrameNo_held (s : State) : (advanceFrameNo s).held = s.held := rfl
@[simp] theorem advanceFrameNo_now (s : State) : (advanceFrameNo s).now = s.now := rfl
@[simp] theorem advanceFrameNo_part (s : State) : (advanceFrameNo s).part = s.part := rfl
@[simp] theorem advanceFrameNo_clock (s : State) : (advanceFrameNo s).clock = s.clock := rfl
@[simp] theorem advanceFrameNo_points (s : State) : (advanceFrameNo s).points = s.points := rfl
@[simp] theorem advanceFrameNo_fwd (s : State) : (advanceFrameNo s).fwd = s.fwd := rfl
@[simp] theorem advanceFrameNo_query (s : State) : (advanceFrameNo s).query = s.query := rfl
@[simp] theorem advanceFrameNo_guard (s : State) : (advanceFrameNo s).guard = s.guard := rfl
@[simp] theorem advanceFrameNo_emission (s : State) : (advanceFrameNo s).emission = s.emission := rfl
@[simp] theorem advanceFrameNo_dispatch (s : State) : (advanceFrameNo s).dispatch = s.dispatch := rfl
@[simp] theorem advanceFrameNo_recorder (s : State) : (advanceFrameNo s).recorder = s.recorder := rfl
@[simp] theorem advanceFrameNo_sPort (s : State) : (advanceFrameNo s).sPort = s.sPort := rfl
@[simp] theorem advanceFrameNo_fPort (s : State) : (advanceFrameNo s).fPort = s.fPort := rfl
@[simp] theorem advanceFrameNo_attention (s : State) : (advanceFrameNo s).attention = s.attention := rfl
@[simp] theorem advanceFrameNo_pending (s : State) : (advanceFrameNo s).pending = s.pending := rfl
@[simp] theorem countGrant_held (g : GrantCounters → GrantCounters) (s : State) : (countGrant g s).held = s.held := rfl
@[simp] theorem countGrant_now (g : GrantCounters → GrantCounters) (s : State) : (countGrant g s).now = s.now := rfl
@[simp] theorem countGrant_part (g : GrantCounters → GrantCounters) (s : State) : (countGrant g s).part = s.part := rfl
@[simp] theorem countGrant_clock (g : GrantCounters → GrantCounters) (s : State) : (countGrant g s).clock = s.clock := rfl
@[simp] theorem countGrant_points (g : GrantCounters → GrantCounters) (s : State) : (countGrant g s).points = s.points := rfl
@[simp] theorem countGrant_fwd (g : GrantCounters → GrantCounters) (s : State) : (countGrant g s).fwd = s.fwd := rfl
@[simp] theorem countGrant_query (g : GrantCounters → GrantCounters) (s : State) : (countGrant g s).query = s.query := rfl
@[simp] theorem countGrant_guard (g : GrantCounters → GrantCounters) (s : State) : (countGrant g s).guard = s.guard := rfl
@[simp] theorem countGrant_emission (g : GrantCounters → GrantCounters) (s : State) : (countGrant g s).emission = s.emission := rfl
@[simp] theorem countGrant_dispatch (g : GrantCounters → GrantCounters) (s : State) : (countGrant g s).dispatch = s.dispatch := rfl
@[simp] theorem countGrant_recorder (g : GrantCounters → GrantCounters) (s : State) : (countGrant g s).recorder = s.recorder := rfl
@[simp] theorem countGrant_sPort (g : GrantCounters → GrantCounters) (s : State) : (countGrant g s).sPort = s.sPort := rfl
@[simp] theorem countGrant_fPort (g : GrantCounters → GrantCounters) (s : State) : (countGrant g s).fPort = s.fPort := rfl
@[simp] theorem countGrant_attention (g : GrantCounters → GrantCounters) (s : State) : (countGrant g s).attention = s.attention := rfl
@[simp] theorem countGrant_pending (g : GrantCounters → GrantCounters) (s : State) : (countGrant g s).pending = s.pending := rfl

/-! ### Records after their own update -/

/-- The point read after an update of a point. -/
theorem State.point_modPoint (s : State) (p q : Nat) (f : Point → Point) :
    (s.modPoint p f).point q = if p = q ∧ p < s.points.length then f (s.point p) else s.point q := by
  unfold State.point State.modPoint
  simp only [List.getD_eq_getElem?_getD, List.getElem?_modify]
  by_cases h : p = q
  · subst h
    by_cases hp : p < s.points.length <;> simp [hp]
  · simp [h]

/-- The guard record read after an update of a guard record. -/
theorem State.guardRec_modGuard (s : State) (i j : Nat) (f : GuardRec → GuardRec) :
    (s.modGuard i f).guardRec j = if i = j ∧ i < s.guard.recs.length then f (s.guardRec i) else s.guardRec j := by
  unfold State.guardRec State.modGuard
  simp only [List.getD_eq_getElem?_getD, List.getElem?_modify]
  by_cases h : i = j
  · subst h
    by_cases hp : i < s.guard.recs.length <;> simp [hp]
  · simp [h]

/-- The query entry read after an update of an entry. -/
theorem State.queryEntry_modQuery (s : State) (i j : Nat) (f : QueryEntry → QueryEntry) :
    (s.modQuery i f).queryEntry j =
      if i = j ∧ i < s.query.entries.length then f (s.queryEntry i) else s.queryEntry j := by
  unfold State.queryEntry State.modQuery
  simp only [List.getD_eq_getElem?_getD, List.getElem?_modify]
  by_cases h : i = j
  · subst h
    by_cases hp : i < s.query.entries.length <;> simp [hp]
  · simp [h]

/-- The channel read after an update of a channel. -/
theorem State.channel_modChannel (s : State) (c d : Nat) (f : Channel → Channel) :
    (s.modChannel c f).channel d =
      if c = d ∧ c < s.emission.channels.length then f (s.channel c) else s.channel d := by
  unfold State.channel State.modChannel
  simp only [List.getD_eq_getElem?_getD, List.getElem?_modify]
  by_cases h : c = d
  · subst h
    by_cases hp : c < s.emission.channels.length <;> simp [hp]
  · simp [h]

/-- The flag read after an update of a flag. -/
theorem State.flag_modFlag (s : State) (i j : Nat) (f : FlagRec → FlagRec) :
    (s.modFlag i f).flag j = if i = j ∧ i < s.attention.flags.length then f (s.flag i) else s.flag j := by
  unfold State.flag State.modFlag
  simp only [List.getD_eq_getElem?_getD, List.getElem?_modify]
  by_cases h : i = j
  · subst h
    by_cases hp : i < s.attention.flags.length <;> simp [hp]
  · simp [h]

/-- A line read after an update of a line. -/
@[simp] theorem State.line_modLine (s : State) (l m : LineId) (f : LineRec → LineRec) :
    (s.modLine l f).line m = if l = m then f (s.line l) else s.line m := by cases l <;> cases m <;> rfl

/-- A port read after an update of a port. -/
@[simp] theorem State.port_modPort (s : State) (p q : Port) (f : PortRec → PortRec) :
    (s.modPort p f).port q = if p = q then f (s.port p) else s.port q := by cases p <;> cases q <;> rfl

end Sys2Proof.Machine
end

