-- ==== Sys2Proof/Laws/Transmit.lean ====
section
/-! SUPPORT. What each of the transmitter-free events (`serve`) can reach, said once through the mask `standing`, with the
list lemmas that the masks use. -/

namespace Sys2Proof.Machine

open Sys2Proof

/-! ### Views of lists and folds -/

/-- A view of records that an update keeps is kept by the update of one of them. -/
theorem map_modify_keeps {α β : Type} (v : α → β) (f : α → α) (h : ∀ x, v (f x) = v x) (l : List α) (i : Nat) :
    (l.modify i f).map v = l.map v := by
  induction l generalizing i with
  | nil => simp
  | cons x l ih => cases i with
    | zero => simp [h]
    | succ i => simp [ih]

/-- A view of records that an update keeps is kept by the update of all of them. -/
theorem map_map_keeps {α β : Type} (v : α → β) (f : α → α) (h : ∀ x, v (f x) = v x) (l : List α) :
    (l.map f).map v = l.map v := by simp [Function.comp_def, h]

/-- A fold keeps what each of its steps keeps. -/
theorem foldl_keeps {α β : Type} (M : State → β) (f : State → α → State) (h : ∀ s a, M (f s a) = M s) (l : List α)
    (s : State) : M (l.foldl f s) = M s := by
  induction l generalizing s with
  | nil => rfl
  | cons a l ih => rw [List.foldl_cons, ih, h]

/-! ### What the transmitter-free events reach -/

theorem sendFlow_standing (p : Port) (s : State) : standing (sendFlow p s) = standing s := by
  unfold sendFlow
  simp only
  split
  · split
    · rfl
    · cases p <;> rfl
    · cases p <;> rfl
  · rfl

theorem setCondition_thinning_false_standing (s : State) : standing (setCondition .thinning false s) = standing s := by
  have key : ∀ f : FlagRec → FlagRec, standing (s.modFlag Flag.thinning.index f) = standing s := by
    intro f
    unfold standing State.modFlag
    have : ∀ (l : List FlagRec) (r : FlagRec), (l.modify Flag.thinning.index f).set Flag.thinning.index r =
        l.set Flag.thinning.index r := by
      intro l r
      apply List.ext_getElem?
      intro i
      by_cases h : i = Flag.thinning.index <;> simp [List.getElem?_set, h, Ne.symm]
    simp only [this]
  have key2 : ∀ f g : FlagRec → FlagRec, standing ((s.modFlag Flag.thinning.index f).modFlag Flag.thinning.index g) =
      standing s := by
    intro f g
    rw [← key (g ∘ f)]
    unfold State.modFlag
    simp [List.modify_modify_eq]
  unfold setCondition
  simp only
  split
  · rfl
  · split
    · exact absurd ‹_› (by simp)
    · split
      · exact key _
      · exact key2 _ _

theorem removeUpstream_standing (s : State) : standing (removeUpstream s) = standing s := by
  unfold removeUpstream judgeRemoval
  split
  · unfold setThinning
    rw [setCondition_thinning_false_standing]; rfl
  · rfl

theorem serveS_standing (s : State) : standing (serveS s) = standing s := by
  unfold serveS
  split
  · split
    · rfl
    · rename_i src _
      cases src with
      | reply => rfl
      | notice => rfl
      | upPass => rfl
      | upstream =>
        refine Eq.trans (b := standing (removeUpstream s)) rfl (removeUpstream_standing s)
  · rfl

theorem grantQuery_standing (s : State) : standing (grantQuery s) = standing s := by
  unfold grantQuery
  split
  · rfl
  · unfold standing beginF countGrant State.modQuery
    simp only [map_modify_keeps (fun e : QueryEntry => { e with inFlight := false }) (fun e => { e with inFlight := true })
      (fun _ => rfl)]
    rfl

theorem grantSupervisory_standing (s : State) : standing (grantSupervisory s) = standing s := by
  unfold grantSupervisory; split <;> rfl

theorem grantDispatch_standing (s : State) : standing (grantDispatch s) = standing s := by
  unfold grantDispatch; split <;> rfl

theorem grantStep_standing (s : State) : standing (grantStep s) = standing s := by
  unfold grantStep; split <;> rfl

theorem grantRequester_standing (r : Requester) (s : State) : standing (grantRequester r s) = standing s := by
  cases r
  · exact grantSupervisory_standing s
  · exact grantDispatch_standing s
  · exact grantStep_standing s
  · exact grantQuery_standing s

theorem serveF_standing (s : State) : standing (serveF s) = standing s := by
  unfold serveF
  split
  · split
    · rfl
    · unfold grantTrip; split <;> rfl
    · rename_i l r _
      rw [grantRequester_standing]
      cases l <;> rfl
  · rfl

/-- The transmitter-free events of a moment reach nothing that `standing` shows. -/
theorem serve_standing (s : State) : standing (serve s) = standing s := by
  unfold serve
  rw [serveF_standing, serveS_standing, sendFlow_standing, sendFlow_standing]

theorem standing_standing (s : State) : standing (standing s) = standing s := by
  unfold standing
  simp [Function.comp_def]
  exact ⟨rfl, rfl⟩

/-- Where both transmitters are in use, there is no transmitter-free event. -/
theorem serve_of_sending {s : State} (hs : s.sPort.tx.isSome = true) (hf : s.fPort.tx.isSome = true) :
    serve s = s := by
  have h1 : s.sPort.tx.isNone = false := by simpa using hs
  have h2 : s.fPort.tx.isNone = false := by simpa using hf
  simp [serve, sendFlow, serveS, serveF, State.port, PortRec.mayBegin, h1, h2]

end Sys2Proof.Machine
end

