-- ==== Sys2Proof/Laws/Frames.lean ====
section
/-! SUPPORT. Frames of the shared operations: what each group of them can touch, said once. A mask blanks the fields
that a group may change; an operation keeps a mask when the masked state after it is the masked state before it, so
every field that the mask shows is unchanged. -/

namespace Sys2Proof.Machine

open Sys2Proof

/-! ### The masks -/

/-- Shows all but the attention unit, the upstream report queue with its THINNING state, and the forwarding counters. -/
def beyondUpstream (s : State) : State :=
  { s with attention := .powerOn true, fwd := { s.fwd with up := [], thinning := false, counters := .zero } }

/-- What a mask keeps, a mask that shows less keeps as well. -/
theorem widen {M m : State → State} (h : ∀ s, M (m s) = M s) {a b : State} (e : m a = m b) : M a = M b := by
  rw [← h a, e, h b]

theorem beyondGuard_standing (s : State) : beyondGuard (standing s) = beyondGuard s := by
  unfold beyondGuard
  rw [standing_standing]
  rfl

theorem beyondWake_standing (s : State) : beyondWake (standing s) = beyondWake s := by
  unfold beyondWake
  rw [standing_standing]
  rfl

theorem beyondRecorder_beyondAttention (s : State) : beyondRecorder (beyondAttention s) = beyondRecorder s := rfl
theorem beyondUpstream_beyondAttention (s : State) : beyondUpstream (beyondAttention s) = beyondUpstream s := rfl
theorem beyondGuard_beyondRecorder (s : State) : beyondGuard (beyondRecorder s) = beyondGuard s := rfl
theorem beyondGuard_beyondAttention (s : State) : beyondGuard (beyondAttention s) = beyondGuard s := rfl
theorem beyondWake_beyondAttention (s : State) : beyondWake (beyondAttention s) = beyondWake s := rfl
theorem beyondWake_beyondRecorder (s : State) : beyondWake (beyondRecorder s) = beyondWake s := rfl
theorem beyondWake_beyondUpstream (s : State) : beyondWake (beyondUpstream s) = beyondWake s := rfl

/-! ### Configuration under updates of runtime fields -/

theorem GuardRec.plan_plan (g : GuardRec) : g.plan.plan = g.plan := by
  unfold GuardRec.plan
  simp [Function.comp_def]

theorem Guard.plan_plan (g : Guard) : g.plan.plan = g.plan := by
  unfold Guard.plan
  simp [Function.comp_def, GuardRec.plan_plan]

/-- A guard whose records keep their configuration has the configuration that it had. -/
theorem Guard.plan_of_recs {g h : Guard} (e : g.recs.map GuardRec.plan = h.recs.map GuardRec.plan) : g.plan = h.plan := by
  unfold Guard.plan; rw [e]

/-- What leaves all but the guard as it was, and the configuration of its records, is not seen beyond the guard. -/
theorem beyondGuard_of_guard {s t : State} (g : t.guard.plan = s.guard.plan)
    (e : { beyondGuard t with guard := s.guard.plan } = beyondGuard s) : beyondGuard t = beyondGuard s := by
  rw [← e, ← g]; rfl

theorem beyondWake_beyondGuard (s : State) : beyondWake (beyondGuard s) = beyondWake s := by
  unfold beyondWake beyondGuard standing
  simp only [Guard.plan_plan, List.map_map, Function.comp_def]
  rfl

theorem serve_beyondGuard (s : State) : beyondGuard (serve s) = beyondGuard s := widen beyondGuard_standing (serve_standing s)
theorem serve_beyondWake (s : State) : beyondWake (serve s) = beyondWake s := widen beyondWake_standing (serve_standing s)

/-! ### Attention -/

theorem placeNotice_beyondAttention (i : Nat) (s : State) : beyondAttention (placeNotice i s) = beyondAttention s := by
  unfold placeNotice
  split
  · rfl
  · split <;> rfl

theorem riseAt_beyondAttention (i : Nat) (s : State) : beyondAttention (riseAt i s) = beyondAttention s := by
  unfold riseAt
  simp only
  split
  · rfl
  · split
    · rw [placeNotice_beyondAttention]; rfl
    · rfl

theorem raiseFlag_beyondAttention (fl : Flag) (s : State) : beyondAttention (raiseFlag fl s) = beyondAttention s := riseAt_beyondAttention _ _

theorem setCondition_beyondAttention (fl : Flag) (b : Bool) (s : State) : beyondAttention (setCondition fl b s) = beyondAttention s := by
  unfold setCondition
  simp only
  split
  · rfl
  · split
    · rw [riseAt_beyondAttention]; rfl
    · split <;> rfl

/-! ### Recorder -/

theorem freezeRecorder_beyondRecorder (s : State) : beyondRecorder (freezeRecorder s) = beyondRecorder s := by
  unfold freezeRecorder
  rw [widen beyondRecorder_beyondAttention (setCondition_beyondAttention _ _ _)]
  rfl

theorem pushRecord_beyondRecorder (r : RecEntry) (s : State) : beyondRecorder (pushRecord r s) = beyondRecorder s := rfl

theorem enterRecord_beyondRecorder (r : RecEntry) (s : State) : beyondRecorder (enterRecord r s) = beyondRecorder s := by
  unfold enterRecord
  simp only
  split
  · rfl
  · rfl
  · rfl
  · split
    · rw [freezeRecorder_beyondRecorder, pushRecord_beyondRecorder]
    · rfl

theorem enterTrigger_beyondRecorder (r : RecEntry) (s : State) : beyondRecorder (enterTrigger r s) = beyondRecorder s := by
  unfold enterTrigger
  simp only
  split
  · rfl
  · rfl
  · split
    · rw [freezeRecorder_beyondRecorder]; rfl
    · rfl
  · rw [enterRecord_beyondRecorder]; rfl

theorem offerFrame_beyondRecorder (p : Port) (f : Frame) (s : State) : beyondRecorder (offerFrame p f s) = beyondRecorder s := by
  unfold offerFrame
  simp only
  split
  · exact enterTrigger_beyondRecorder _ _
  · split
    · exact enterRecord_beyondRecorder _ _
    · rfl

theorem recordOutcome_beyondRecorder (org : RecOrigin) (o : RecOutcome) (a b p : Nat) (v : Value) (s : State) :
    beyondRecorder (recordOutcome org o a b p v s) = beyondRecorder s := by
  unfold recordOutcome
  split
  · exact enterRecord_beyondRecorder _ _
  · rfl

theorem recordBusy_beyondRecorder (f : Frame) (s : State) : beyondRecorder (recordBusy f s) = beyondRecorder s := by
  unfold recordBusy
  split
  · exact enterRecord_beyondRecorder _ _
  · rfl

theorem markerTrigger_beyondRecorder (p : Option Nat) (v : Option Value) (m : TriggerMark) (s : State) :
    beyondRecorder (markerTrigger p v m s) = beyondRecorder s := by
  unfold markerTrigger
  split
  · exact enterTrigger_beyondRecorder _ _
  · rfl

theorem recordTripSafe_beyondRecorder (p : Nat) (v : Value) (s : State) : beyondRecorder (recordTripSafe p v s) = beyondRecorder s := by
  unfold recordTripSafe
  split
  · exact enterTrigger_beyondRecorder _ _
  · exact recordOutcome_beyondRecorder _ _ _ _ _ _ _

/-! ### Upstream report queue -/

theorem setThinning_beyondUpstream (b : Bool) (s : State) : beyondUpstream (setThinning b s) = beyondUpstream s := by
  unfold setThinning
  rw [widen beyondUpstream_beyondAttention (setCondition_beyondAttention _ _ _)]
  rfl

theorem handUpstream_beyondUpstream (e : UpEntry) (s : State) : beyondUpstream (handUpstream e s) = beyondUpstream s := by
  unfold handUpstream
  simp only
  split
  · rfl
  · split
    · rfl
    · split
      · rw [widen beyondUpstream_beyondAttention (raiseFlag_beyondAttention _ _)]; rfl
      · split
        · rw [setThinning_beyondUpstream]; rfl
        · rfl

theorem judgeRemoval_beyondUpstream (s : State) : beyondUpstream (judgeRemoval s) = beyondUpstream s := by
  unfold judgeRemoval
  split
  · exact setThinning_beyondUpstream _ _
  · rfl

theorem judgeWatermarks_beyondUpstream (s : State) : beyondUpstream (judgeWatermarks s) = beyondUpstream s := by
  unfold judgeWatermarks
  split
  · exact setThinning_beyondUpstream _ _
  · split
    · exact setThinning_beyondUpstream _ _
    · rfl

/-! ### Output guard -/

theorem followLatched_beyondAttention (s : State) : beyondAttention (followLatched s) = beyondAttention s := setCondition_beyondAttention _ _ _

theorem modGuard_beyondGuard (i : Nat) (f : GuardRec → GuardRec) (s : State) (h : ∀ g, (f g).plan = g.plan) :
    beyondGuard (s.modGuard i f) = beyondGuard s :=
  beyondGuard_of_guard (Guard.plan_of_recs (map_modify_keeps _ _ h _ _)) rfl

theorem withdrawStep_beyondGuard (i : Nat) (s : State) : beyondGuard (withdrawStep i s) = beyondGuard s := by
  unfold withdrawStep
  split
  · rfl
  · rename_i st _
    exact (modGuard_beyondGuard i (fun g => { g with issued := some st.fromVal }) s (fun _ => rfl) :)

theorem withdrawSlot_beyondGuard (k : Nat) (s : State) : beyondGuard (withdrawSlot k s) = beyondGuard s := by
  unfold withdrawSlot
  split <;> rfl

theorem withdrawOrders_beyondGuard (i : Nat) (s : State) : beyondGuard (withdrawOrders i s) = beyondGuard s := by
  unfold withdrawOrders
  simp only
  refine (modGuard_beyondGuard _ _ _ ?_).trans ?_
  · exact fun _ => rfl
  rw [withdrawStep_beyondGuard, foldl_keeps beyondGuard _ (fun t k => withdrawSlot_beyondGuard k t)]
  rfl

theorem writeStep_beyondGuard (p : PendingStep) (s : State) : beyondGuard (writeStep p s) = beyondGuard s := rfl

theorem writeSlot_beyondGuard (o : PendingOrder) (s : State) : beyondGuard (writeSlot o s) = beyondGuard s := rfl

theorem issue_beyondGuard (i : Nat) (v : Value) (s : State) : beyondGuard (issue i v s) = beyondGuard s := by
  refine modGuard_beyondGuard _ _ _ ?_
  exact fun _ => rfl

theorem enterTripOrder_beyondGuard (i : Nat) (s : State) : beyondGuard (enterTripOrder i s) = beyondGuard s := by
  unfold enterTripOrder
  simp only
  split <;> rfl

theorem reenterTrip_beyondGuard (t : TripOrder) (s : State) : beyondGuard (reenterTrip t s) = beyondGuard s := by
  unfold reenterTrip
  simp only
  split <;> rfl

theorem tripOutput_beyondGuard (i : Nat) (s : State) : beyondGuard (tripOutput i s) = beyondGuard s := by
  have h : beyondGuard (serve (withdrawOrders i s)) = beyondGuard s := (serve_beyondGuard _).trans (withdrawOrders_beyondGuard i s)
  unfold tripOutput
  simp only
  rw [serve_beyondGuard]
  split
  · rw [widen beyondGuard_beyondRecorder (recordTripSafe_beyondRecorder _ _ _), widen beyondGuard_beyondAttention (raiseFlag_beyondAttention _ _),
      widen beyondGuard_beyondAttention (followLatched_beyondAttention _), modGuard_beyondGuard, issue_beyondGuard, modGuard_beyondGuard, enterTripOrder_beyondGuard, h]
    all_goals exact fun _ => rfl
  · rw [widen beyondGuard_beyondRecorder (markerTrigger_beyondRecorder _ _ _ _), widen beyondGuard_beyondAttention (raiseFlag_beyondAttention _ _),
      widen beyondGuard_beyondAttention (followLatched_beyondAttention _), modGuard_beyondGuard, modGuard_beyondGuard, h]
    all_goals exact fun _ => rfl

theorem interlockEnds_beyondGuard (i : Nat) (s : State) : beyondGuard (interlockEnds i s) = beyondGuard s := by
  unfold interlockEnds
  rw [widen beyondGuard_beyondAttention (followLatched_beyondAttention _), modGuard_beyondGuard]
  all_goals exact fun _ => rfl

/-- A list of terms evaluated by a function that touches only the active flags keeps its configuration. -/
theorem plan_terms (f : Term → Term) (h : ∀ t, { f t with active := false } = { t with active := false }) (g : GuardRec) :
    ({ g with terms := g.terms.map f } : GuardRec).plan = g.plan := by
  unfold GuardRec.plan
  simp only [List.map_map, Function.comp_def, h]

theorem wakeTerms_beyondGuard (p i : Nat) (s : State) :
    beyondGuard (s.modGuard i (fun g => { g with
      terms := g.terms.map (fun t => if t.used && decide (t.point = p) then evaluated s t else t) })) = beyondGuard s :=
  modGuard_beyondGuard _ _ _ (plan_terms _ (fun t => by split <;> rfl))

theorem wakeOutput_beyondGuard (p i : Nat) (s : State) : beyondGuard (wakeOutput p i s) = beyondGuard s := by
  unfold wakeOutput
  simp only
  split
  · split
    · rw [tripOutput_beyondGuard, wakeTerms_beyondGuard]
    · split
      · rw [interlockEnds_beyondGuard, wakeTerms_beyondGuard]
      · exact wakeTerms_beyondGuard p i s
  · rfl

theorem wakeGuard_beyondGuard (p : Nat) (s : State) : beyondGuard (wakeGuard p s) = beyondGuard s := by
  unfold wakeGuard
  split
  · rfl
  · exact foldl_keeps beyondGuard _ (fun t i => wakeOutput_beyondGuard p i t) _ _

theorem recordDecision_beyondRecorder (org : OrderOrigin) (o : RecOutcome) (p : Nat) (v : Value) (s : State) :
    beyondRecorder (recordDecision org o p v s) = beyondRecorder s := by
  unfold recordDecision
  split <;> exact recordOutcome_beyondRecorder _ _ _ _ _ _ _

theorem placeOrder_beyondGuard (org : OrderOrigin) (p : Nat) (v : Value) (s : State) :
    beyondGuard (placeOrder org p v s) = beyondGuard s := by
  unfold placeOrder
  split <;> rfl

theorem judgeOrder_beyondGuard (org : OrderOrigin) (i : Nat) (v : Value) (s : State) :
    beyondGuard (judgeOrder org i v s) = beyondGuard s := by
  unfold judgeOrder
  simp only
  split
  · rw [widen beyondGuard_beyondRecorder (recordDecision_beyondRecorder _ _ _ _ _), issue_beyondGuard, placeOrder_beyondGuard, modGuard_beyondGuard]
    all_goals exact fun _ => rfl
  · split
    · rw [widen beyondGuard_beyondRecorder (recordDecision_beyondRecorder _ _ _ _ _), issue_beyondGuard, placeOrder_beyondGuard, modGuard_beyondGuard]
      all_goals exact fun _ => rfl
    · rw [widen beyondGuard_beyondRecorder (recordDecision_beyondRecorder _ _ _ _ _), modGuard_beyondGuard, modGuard_beyondGuard]
      all_goals exact fun _ => rfl

theorem guardOrder_beyondGuard (org : OrderOrigin) (i : Nat) (v : Value) (s : State) :
    beyondGuard (guardOrder org i v s).2 = beyondGuard s := by
  unfold guardOrder
  simp only
  split
  · rw [judgeOrder_beyondGuard, withdrawStep_beyondGuard]
  · rw [widen beyondGuard_beyondRecorder (recordDecision_beyondRecorder _ _ _ _ _), modGuard_beyondGuard, withdrawStep_beyondGuard]
    all_goals exact fun _ => rfl
  · rw [widen beyondGuard_beyondRecorder (recordDecision_beyondRecorder _ _ _ _ _)]
    split
    · rw [widen beyondGuard_beyondAttention (raiseFlag_beyondAttention _ _), modGuard_beyondGuard, withdrawStep_beyondGuard]
      all_goals exact fun _ => rfl
    · rw [modGuard_beyondGuard, withdrawStep_beyondGuard]
      all_goals exact fun _ => rfl
  · rw [widen beyondGuard_beyondRecorder (recordDecision_beyondRecorder _ _ _ _ _), modGuard_beyondGuard, withdrawStep_beyondGuard]
    all_goals exact fun _ => rfl

theorem rampExpires_beyondGuard (i : Nat) (s : State) : beyondGuard (rampExpires i s) = beyondGuard s := by
  unfold rampExpires
  simp only
  split
  · split
    · rw [widen beyondGuard_beyondRecorder (recordOutcome_beyondRecorder _ _ _ _ _ _ _), issue_beyondGuard, writeStep_beyondGuard, modGuard_beyondGuard]
      all_goals exact fun _ => rfl
    · rw [modGuard_beyondGuard]
      all_goals exact fun _ => rfl
  · rw [modGuard_beyondGuard]
    all_goals exact fun _ => rfl

theorem restrictWaiting_beyondGuard (i : Nat) (s : State) : beyondGuard (restrictWaiting i s) = beyondGuard s := by
  unfold restrictWaiting
  refine Eq.trans ?_ (modGuard_beyondGuard i (fun g => { g with target := g.target.map (fun t => min t (s.guardRec i).rhigh) })
    s (fun _ => rfl))
  rfl

theorem restrictOutput_beyondGuard (l : LineId) (i : Nat) (s : State) :
    beyondGuard (restrictOutput l i s) = beyondGuard s := by
  unfold restrictOutput
  simp only
  split
  · split
    · exact restrictWaiting_beyondGuard i s
    · split
      · rw [serve_beyondGuard, widen beyondGuard_beyondRecorder (recordOutcome_beyondRecorder _ _ _ _ _ _ _), issue_beyondGuard,
          writeStep_beyondGuard, restrictWaiting_beyondGuard]
      · exact restrictWaiting_beyondGuard i s
  · rfl

theorem restrictEntry_beyondGuard (l : LineId) (s : State) : beyondGuard (restrictEntry l s) = beyondGuard s :=
  foldl_keeps beyondGuard _ (fun t i => restrictOutput_beyondGuard l i t) _ _

theorem releaseOutput_beyondGuard (i : Nat) (s : State) : beyondGuard (releaseOutput i s) = beyondGuard s := by
  unfold releaseOutput
  split
  · rw [widen beyondGuard_beyondAttention (followLatched_beyondAttention _), modGuard_beyondGuard]
    exact fun _ => rfl
  · rfl

theorem stopRamps_beyondGuard (s : State) : beyondGuard { s with guard := { s.guard with
    recs := s.guard.recs.map (fun g => { g with rampTimer := none }) } } = beyondGuard s :=
  beyondGuard_of_guard
    (Guard.plan_of_recs (map_map_keeps GuardRec.plan (fun g => { g with rampTimer := none }) (fun _ => rfl) _)) rfl

theorem guardStop_beyondGuard (s : State) : beyondGuard (guardStop s) = beyondGuard s := by
  unfold guardStop
  simp only
  generalize List.range 5 = ks
  refine (stopRamps_beyondGuard _).trans ?_
  rw [foldl_keeps beyondGuard _ (fun t k => withdrawSlot_beyondGuard k t),
    foldl_keeps beyondGuard _ (fun t i => withdrawStep_beyondGuard i t)]
  rfl

theorem startRecord_plan (s : State) (g : GuardRec) : (startRecord s g).plan = g.plan := by
  unfold startRecord
  split
  · exact plan_terms _ (fun t => by split <;> rfl) g
  · rfl

theorem guardStart_beyondGuard (s : State) : beyondGuard (guardStart s) = beyondGuard s := by
  unfold guardStart
  simp only
  rw [foldl_keeps beyondGuard]
  · rw [widen beyondGuard_beyondAttention (followLatched_beyondAttention _)]
    exact beyondGuard_of_guard (Guard.plan_of_recs (map_map_keeps _ _ (startRecord_plan s) _)) rfl
  · intro t i
    split
    · exact tripOutput_beyondGuard i t
    · rfl

/-! ### Points, lines and dispatch inputs -/

theorem handUpstream_beyondWake (e : UpEntry) (s : State) : beyondWake (handUpstream e s) = beyondWake s :=
  widen beyondWake_beyondUpstream (handUpstream_beyondUpstream e s)

theorem raiseFlag_beyondWake (fl : Flag) (s : State) : beyondWake (raiseFlag fl s) = beyondWake s :=
  widen beyondWake_beyondAttention (raiseFlag_beyondAttention fl s)

theorem setCondition_beyondWake (fl : Flag) (b : Bool) (s : State) : beyondWake (setCondition fl b s) = beyondWake s :=
  widen beyondWake_beyondAttention (setCondition_beyondAttention fl b s)

/-- A point that the part publishes may take any runtime fields. -/
theorem modPoint_beyondWake (p : Nat) (f : Point → Point) (s : State) (h : ∀ r, (f r).plan = r.plan)
    (hp : publishes s.emission.plan s.dispatch.cfg p = true) : beyondWake (s.modPoint p f) = beyondWake s := by
  unfold beyondWake State.modPoint
  simp only
  congr 1
  apply List.ext_getElem?
  intro i
  by_cases e : p = i
  · subst e
    simp [hp, List.getElem?_mapIdx, Function.comp_def, h]
  · simp [List.getElem?_mapIdx, e]

/-- What reads the masked state alone is the same after what the mask does not show. -/
theorem publishes_of_beyondWake {s t : State} (h : beyondWake t = beyondWake s) :
    publishes t.emission.plan t.dispatch.cfg = publishes s.emission.plan s.dispatch.cfg := by
  have he : t.emission.plan = s.emission.plan := congrArg (·.emission) h
  have hd : t.dispatch.cfg = s.dispatch.cfg := congrArg (·.dispatch.cfg) h
  rw [he, hd]

theorem modLine_beyondWake (l : LineId) (f : LineRec → LineRec) (s : State) (h : ∀ r, (f r).plan = r.plan) :
    beyondWake (s.modLine l f) = beyondWake s := by
  have he : (s.modLine l f).emission.plan = s.emission.plan := by cases l <;> simp [State.modLine, Emission.plan, h]
  unfold beyondWake
  rw [he]
  cases l <;> rfl

theorem modChannel_beyondWake (c : Nat) (f : Channel → Channel) (s : State) (h : ∀ r, (f r).plan = r.plan) :
    beyondWake (s.modChannel c f) = beyondWake s := by
  have he : (s.modChannel c f).emission.plan = s.emission.plan := by
    simp only [State.modChannel, Emission.plan, map_modify_keeps _ _ h]
  unfold beyondWake
  rw [he]
  rfl

/-- An update of every channel that keeps its configuration is not seen beyond the plant. -/
theorem mapChannels_beyondWake (f : Channel → Channel) (s : State) (h : ∀ r, (f r).plan = r.plan) :
    beyondWake { s with emission := { s.emission with channels := s.emission.channels.map f } } = beyondWake s := by
  have he : ({ s.emission with channels := s.emission.channels.map f } : Emission).plan = s.emission.plan := by
    simp only [Emission.plan, map_map_keeps _ _ h]
  unfold beyondWake
  simp only [he]
  rfl

theorem deriveOperating_beyondWake (l : LineId) (s : State) : beyondWake (deriveOperating l s) = beyondWake s := by
  unfold deriveOperating
  simp only
  split
  · split
    · refine (mapChannels_beyondWake _ _ ?_).trans (modLine_beyondWake l _ s ?_)
      · intro c; split <;> rfl
      · exact fun _ => rfl
    · refine modLine_beyondWake l _ s ?_
      exact fun _ => rfl
  · rfl

theorem wakeLines_beyondWake (p : Nat) (s : State) : beyondWake (wakeLines p s) = beyondWake s := by
  unfold wakeLines
  apply foldl_keeps
  intro t l
  split
  · exact deriveOperating_beyondWake l t
  · rfl

theorem followDispatch_beyondAttention (s : State) : beyondAttention (followDispatch s) = beyondAttention s := by
  unfold followDispatch
  simp only
  rw [setCondition_beyondAttention, setCondition_beyondAttention, setCondition_beyondAttention]

theorem wakeInput_beyondWake (p : Nat) (i : ReqInput) (s : State) : beyondWake (wakeInput p i s) = beyondWake s := by
  unfold wakeInput
  simp only
  split
  · cases i <;> rfl
  · rfl

theorem wakeTripSeen_beyondWake (p : Nat) (s : State) : beyondWake (wakeTripSeen p s) = beyondWake s := by
  unfold wakeTripSeen
  simp only
  split <;> rfl

theorem wakeDemands_beyondWake (p : Nat) (s : State) : beyondWake (wakeDemands p s) = beyondWake s := by
  unfold wakeDemands
  simp only
  split <;> rfl

theorem wakeDispatch_beyondWake (p : Nat) (s : State) : beyondWake (wakeDispatch p s) = beyondWake s := by
  unfold wakeDispatch
  split
  · rw [widen beyondWake_beyondAttention (followDispatch_beyondAttention _), wakeDemands_beyondWake, wakeTripSeen_beyondWake, wakeInput_beyondWake,
      wakeInput_beyondWake, wakeInput_beyondWake]
  · rfl

theorem wakeConsumers_beyondWake (p : Nat) (s : State) : beyondWake (wakeConsumers p s) = beyondWake s := by
  unfold wakeConsumers
  rw [wakeDispatch_beyondWake, wakeLines_beyondWake, widen beyondWake_beyondGuard (wakeGuard_beyondGuard p s)]

theorem reportSelf_beyondWake (p : Nat) (a b : Value × Quality) (s : State) : beyondWake (reportSelf p a b s) = beyondWake s := by
  unfold reportSelf
  split
  · exact handUpstream_beyondWake _ _
  · rfl

/-- An event on a point shows beyond the wake as the change of its record alone. -/
theorem pointEvent_beyondWake (p : Nat) (change : State → State) (s : State) :
    beyondWake (pointEvent p change s) = beyondWake (change s) := by
  unfold pointEvent
  simp only
  rw [serve_beyondWake, reportSelf_beyondWake, wakeConsumers_beyondWake]

theorem writeSelf_beyondWake (p : Nat) (v : Value) (s : State) :
    beyondWake (writeSelf p v s) = beyondWake (storeUpdate p v .good s) := pointEvent_beyondWake p _ s

/-- The write of a point that the part publishes does not show beyond the wake. -/
theorem writeSelf_published (p : Nat) (v : Value) (s : State)
    (hp : publishes s.emission.plan s.dispatch.cfg p = true) : beyondWake (writeSelf p v s) = beyondWake s := by
  rw [writeSelf_beyondWake]
  refine modPoint_beyondWake p _ s ?_ hp
  exact fun _ => rfl

theorem substitutePoint_beyondWake (p : Nat) (v : Value) (s : State) :
    beyondWake (substitutePoint p v s) =
      beyondWake (s.modPoint p (fun r => { r with subActive := true, subValue := v })) := pointEvent_beyondWake p _ s

theorem unsubstitutePoint_beyondWake (p : Nat) (s : State) :
    beyondWake (unsubstitutePoint p s) = beyondWake (s.modPoint p (fun r => { r with subActive := false })) :=
  pointEvent_beyondWake p _ s

theorem expireFreshness_beyondWake (p : Nat) (s : State) :
    beyondWake (expireFreshness p s) =
      beyondWake (s.modPoint p (fun r => { r with fresh := .expired, timer := none })) := by
  unfold expireFreshness
  simp only
  rw [serve_beyondWake, reportSelf_beyondWake]
  split
  · rw [raiseFlag_beyondWake, wakeConsumers_beyondWake]
  · rw [wakeConsumers_beyondWake]

/-! ### Steam dispatch -/

theorem publish_beyondWake (p : Option Nat) (v : Value) (s : State)
    (hp : ∀ q, p = some q → publishes s.emission.plan s.dispatch.cfg q = true) :
    beyondWake (publish p v s) = beyondWake s := by
  unfold publish
  split
  · rfl
  · exact writeSelf_published _ _ _ (hp _ rfl)

/-- A point that the dispatch table publishes is published. -/
theorem publishes_dispatch {e : Emission} {c : DispatchCfg} {q : Nat}
    (h : c.steamPoint = some q ∨ c.powerPoint = some q ∨ c.statePoint = some q) : publishes e c q = true := by
  unfold publishes
  rcases h with h | h | h <;> simp [h]

/-- A line's state point is published. -/
theorem publishes_line {s : State} {c : DispatchCfg} {l : LineId} {q : Nat} (h : (s.line l).statePoint = some q) :
    publishes s.emission.plan c q = true := by
  unfold publishes Emission.plan LineRec.plan
  cases l <;> simp_all [State.line]

/-- A channel's average point is published. -/
theorem publishes_channel {s : State} {c : DispatchCfg} {k q : Nat} (h : (s.channel k).cfg.avgPoint = some q) :
    publishes s.emission.plan c q = true := by
  have hk : ∃ ch ∈ s.emission.channels, ch.cfg.avgPoint = some q := by
    unfold State.channel at h
    rw [List.getD_eq_getElem?_getD] at h
    cases hc : s.emission.channels[k]? with
    | none => rw [hc] at h; exact absurd h (by simp [Channel.powerOn, ChannelCfg.powerOn])
    | some ch => rw [hc] at h; exact ⟨ch, List.mem_of_getElem? hc, h⟩
  obtain ⟨ch, hm, ha⟩ := hk
  have : (s.emission.plan.channels.any (fun ch => decide (ch.cfg.avgPoint = some q))) = true := by
    rw [List.any_eq_true]
    exact ⟨ch.plan, List.mem_map_of_mem hm, by simp [Channel.plan, ha]⟩
  unfold publishes
  rw [this]
  simp

theorem publishState_beyondWake (s : State) : beyondWake (publishState s) = beyondWake s :=
  publish_beyondWake _ _ _ (fun _ h => publishes_dispatch (.inr (.inr h)))

theorem followDispatch_beyondWake (s : State) : beyondWake (followDispatch s) = beyondWake s :=
  widen beyondWake_beyondAttention (followDispatch_beyondAttention s)

theorem enterHold_beyondWake (c : HoldCause) (s : State) : beyondWake (enterHold c s) = beyondWake s := by
  unfold enterHold
  rw [publishState_beyondWake, followDispatch_beyondWake]
  rfl

theorem holdCause_beyondWake (c : HoldCause) (s : State) : beyondWake (holdCause c s) = beyondWake s := by
  unfold holdCause
  split
  · rfl
  · exact enterHold_beyondWake c s
  · split <;> rfl

theorem leaveHold_beyondWake (s : State) : beyondWake (leaveHold s) = beyondWake s := by
  unfold leaveHold
  rw [publishState_beyondWake, followDispatch_beyondWake]
  rfl

theorem startCycleTimer_beyondWake (s : State) : beyondWake (startCycleTimer s) = beyondWake s := rfl

theorem handOutput_beyondWake (r : CycleRecord) (k : Nat) (v : Value) (s : State) :
    beyondWake (handOutput r k v s).2 = beyondWake s := by
  unfold handOutput
  split
  · split
    · rfl
    · exact (rfl : _ = beyondWake (guardOrder _ _ _ s).2).trans (widen beyondWake_beyondGuard (guardOrder_beyondGuard _ _ _ s))
  · rfl

theorem handAll_beyondWake (r : CycleRecord) (s : State) : beyondWake (handAll r s).2 = beyondWake s := by
  unfold handAll
  generalize (List.range 5).zip r.values = l
  suffices h : ∀ (l : List (Nat × Value)) (acc : List Handed × State),
      beyondWake (l.foldl (fun (acc : List Handed × State) kv =>
        let a := handOutput r kv.1 kv.2 acc.2
        (acc.1 ++ [a.1], serve a.2)) acc).2 = beyondWake acc.2 from h l ([], s)
  intro l
  induction l with
  | nil => intro acc; rfl
  | cons kv l ih =>
    intro acc
    rw [List.foldl_cons, ih]
    exact (serve_beyondWake _).trans (handOutput_beyondWake r kv.1 kv.2 acc.2)

/-- The marks that a cycle leaves in the dispatch unit do not show beyond the wake. -/
theorem cycleDone_beyondWake (r : CycleRecord) (t : State) :
    beyondWake { t with dispatch := { t.dispatch with first := false, record := some r } } = beyondWake t := rfl

theorem runCycle_beyondWake (s : State) : beyondWake (runCycle s) = beyondWake s := by
  unfold runCycle
  simp only
  rw [publish_beyondWake _ _ _ (fun _ h => publishes_dispatch (.inr (.inr h))),
    publish_beyondWake _ _ _ (fun _ h => publishes_dispatch (.inr (.inl h))),
    publish_beyondWake _ _ _ (fun _ h => by refine publishes_dispatch (.inl ?_); exact h),
    cycleDone_beyondWake, handAll_beyondWake, startCycleTimer_beyondWake]
  rfl

theorem actOnOccasion_beyondWake (s : State) : beyondWake (actOnOccasion s) = beyondWake s := by
  unfold actOnOccasion
  split
  · rfl
  · exact runCycle_beyondWake s
  · split
    · rw [runCycle_beyondWake, leaveHold_beyondWake]
    · rfl

theorem runOccasions_beyondWake (n : Nat) (s : State) : beyondWake (runOccasions n s) = beyondWake s := by
  induction n generalizing s with
  | zero => rfl
  | succ n ih =>
    unfold runOccasions
    split
    · rw [ih, actOnOccasion_beyondWake]; rfl
    · rfl

/-- Cycle occasions do not show beyond the wake. -/
theorem settle_beyondWake (s : State) : beyondWake (settle s) = beyondWake s :=
  (serve_beyondWake _).trans (runOccasions_beyondWake _ _)

theorem assessInput_beyondWake (i : ReqInput) (s : State) : beyondWake (assessInput i s) = beyondWake s := by cases i <;> rfl

theorem enterRun_beyondWake (s : State) : beyondWake (if s.dispatch.required.any (fun r => decide (r.state = .expired)) then
      enterHold .input s
    else
      publishState (followDispatch { s with dispatch := { s.dispatch with
        state := .run, first := true, lastOrdered := noneOrdered } })) = beyondWake s := by
  split
  · exact enterHold_beyondWake _ _
  · rw [publishState_beyondWake, followDispatch_beyondWake]; rfl

theorem enterFromStopped_beyondWake (s : State) : beyondWake (enterFromStopped s) = beyondWake s := by
  refine (enterRun_beyondWake _).trans ((startCycleTimer_beyondWake _).trans ?_)
  rw [assessInput_beyondWake, assessInput_beyondWake, assessInput_beyondWake]

theorem enterStopped_beyondWake (s : State) : beyondWake (enterStopped s) = beyondWake s := by
  unfold enterStopped
  split
  · rfl
  · rw [publishState_beyondWake, followDispatch_beyondWake]; rfl

theorem cycleTimerExpires_beyondWake (s : State) : beyondWake (cycleTimerExpires s) = beyondWake s := by
  unfold cycleTimerExpires
  rw [settle_beyondWake, actOnOccasion_beyondWake, startCycleTimer_beyondWake]

theorem inputHoldExpires_beyondWake (i : ReqInput) (s : State) : beyondWake (inputHoldExpires i s) = beyondWake s := by
  unfold inputHoldExpires
  simp only
  rw [settle_beyondWake, holdCause_beyondWake]
  cases i <;> rfl

theorem runCommanded_beyondWake (s : State) : beyondWake (runCommanded s) = beyondWake s := by
  unfold runCommanded
  split
  · rfl
  · rw [runCycle_beyondWake, startCycleTimer_beyondWake, leaveHold_beyondWake]

/-! ### Emission -/

theorem followEmission_beyondWake (s : State) : beyondWake (followEmission s) = beyondWake s := by
  unfold followEmission
  simp only
  rw [setCondition_beyondWake, setCondition_beyondWake]

theorem deriveEmission_beyondWake (always : Bool) (l : LineId) (s : State) : beyondWake (deriveEmission always l s) = beyondWake s := by
  unfold deriveEmission
  simp only
  have key : ∀ e : EmissionState,
      beyondWake (if e = .restrict ∧ (s.line l).state ≠ .restrict then
          restrictEntry l (markerTrigger none (some (lineNumber l)) .lineRestrict
            (s.modLine l (fun r => { r with state := e })))
        else s.modLine l (fun r => { r with state := e })) = beyondWake s := by
    intro e
    split
    · rw [widen beyondWake_beyondGuard (restrictEntry_beyondGuard _ _), widen beyondWake_beyondRecorder (markerTrigger_beyondRecorder _ _ _ _)]
      exact modLine_beyondWake l (fun r => { r with state := e }) s (fun _ => rfl)
    · exact modLine_beyondWake l (fun r => { r with state := e }) s (fun _ => rfl)
  split
  · split
    · have h3 := (followEmission_beyondWake _).trans (key (emissionStateOf s l))
      rw [settle_beyondWake, publish_beyondWake _ _ _ (fun q hq => by rw [publishes_of_beyondWake h3]; exact publishes_line hq)]
      exact h3
    · rw [followEmission_beyondWake]; exact key _
  · rfl

theorem takeValid_beyondWake (c : Nat) (cn : Int) (s : State) : beyondWake (takeValid c cn s) = beyondWake s := by
  unfold takeValid
  simp only
  split
  · exact modChannel_beyondWake c (fun ch => { ch with run := { ch.run with countFull := bump ch.run.countFull } }) s
      (fun _ => rfl)
  · have h1 := modChannel_beyondWake c (fun ch => { ch with run := ch.run.accumulate cn }) s (fun _ => rfl)
    split
    · have h2 := (modChannel_beyondWake c (fun ch => { ch with run := { ch.run with warn := true } }) _
        (fun _ => rfl)).trans h1
      split
      · exact (deriveEmission_beyondWake _ _ _).trans h2
      · exact h2
    · exact h1

theorem takeSample_beyondWake (c : Nat) (v : Value) (q : Quality) (s : State) :
    beyondWake (takeSample c v q s) = beyondWake s := by
  unfold takeSample
  simp only
  split
  · rfl
  · exact modChannel_beyondWake c
      (fun ch => { ch with run := { ch.run with operated := true, invalid := bump ch.run.invalid } }) s
      (fun _ => rfl)
  · rw [takeValid_beyondWake]
    refine modChannel_beyondWake c _ s ?_
    exact fun _ => rfl

theorem wakeChannels_beyondWake (p : Nat) (v : Value) (q : Quality) (s : State) :
    beyondWake (wakeChannels p v q s) = beyondWake s := by
  unfold wakeChannels
  apply foldl_keeps
  intro t c
  simp only
  split
  · exact takeSample_beyondWake c v q t
  · rfl

/-- An accepted report entry shows beyond the wake as the update of its point record alone. -/
theorem acceptReport_beyondWake (p : Nat) (v : Value) (q : Quality) (s : State) :
    beyondWake (acceptReport p v q s) = beyondWake (storeUpdate p v q s) := by
  unfold acceptReport
  rw [settle_beyondWake, wakeDispatch_beyondWake, wakeLines_beyondWake, wakeChannels_beyondWake,
    widen beyondWake_beyondGuard (wakeGuard_beyondGuard p _)]

theorem closeHalf_beyondWake (cut : Bool) (c : Nat) (s : State) : beyondWake (closeHalf cut c s) = beyondWake s := by
  unfold closeHalf
  simp only
  split
  · refine modChannel_beyondWake c _ s ?_
    exact fun _ => rfl
  · have h1 : ∀ r : HalfRec, beyondWake (s.modChannel c (fun ch => { ch with
        half := (r :: ch.half).take Config.halfRingCap, run := afterHalf ch r })) = beyondWake s :=
      fun _ => modChannel_beyondWake c _ s (fun _ => rfl)
    rw [settle_beyondWake, publish_beyondWake _ _ _ (fun q hq => by
      rw [publishes_of_beyondWake (h1 _)]; exact publishes_channel hq)]
    exact h1 _

theorem closeDay_beyondWake (cut : Bool) (c : Nat) (s : State) : beyondWake (closeDay cut c s) = beyondWake s := by
  refine modChannel_beyondWake c _ s ?_
  exact fun _ => rfl

theorem openPeriod_beyondWake (c : Nat) (s : State) : beyondWake (openPeriod c s) = beyondWake s := by
  refine modChannel_beyondWake c _ s ?_
  exact fun _ => rfl

theorem raisePeriodClosed_beyondWake (l : List Nat) (s : State) : beyondWake (raisePeriodClosed l s) = beyondWake s := by
  unfold raisePeriodClosed
  split
  · exact raiseFlag_beyondWake _ _
  · rfl

theorem deriveClosed_beyondWake (l : List Nat) (s : State) : beyondWake (deriveClosed l s) = beyondWake s := by
  unfold deriveClosed
  apply foldl_keeps
  intro t x
  split
  · exact deriveEmission_beyondWake _ _ _
  · rfl

theorem emissionBoundary_beyondWake (day : Bool) (s : State) : beyondWake (emissionBoundary day s) = beyondWake s := by
  unfold emissionBoundary
  simp only
  split
  · rfl
  · rw [foldl_keeps beyondWake _ (fun t c => openPeriod_beyondWake c t)]
    split
    · rw [raiseFlag_beyondWake, foldl_keeps beyondWake _ (fun t c => closeDay_beyondWake false c t), raisePeriodClosed_beyondWake,
        deriveClosed_beyondWake, foldl_keeps beyondWake _ (fun t c => closeHalf_beyondWake false c t)]
    · rw [raisePeriodClosed_beyondWake, deriveClosed_beyondWake, foldl_keeps beyondWake _ (fun t c => closeHalf_beyondWake false c t)]

theorem emissionTimeSet_beyondWake (s : State) : beyondWake (emissionTimeSet s) = beyondWake s := by
  unfold emissionTimeSet
  simp only
  split
  · rfl
  · split
    · exact foldl_keeps beyondWake _ (fun t c => openPeriod_beyondWake c t) _ _
    · split
      · rfl
      · have key : ∀ b : Bool, ∀ l : List Nat, ∀ t : State,
            beyondWake (if b = true then l.foldl (fun t c => closeDay true c t) t else t) = beyondWake t := by
          intro b l t
          split
          · exact foldl_keeps beyondWake _ (fun t c => closeDay_beyondWake true c t) _ _
          · rfl
        split
        · rw [raiseFlag_beyondWake, raisePeriodClosed_beyondWake, raiseFlag_beyondWake,
            foldl_keeps beyondWake _ (fun t c => openPeriod_beyondWake c t),
            foldl_keeps beyondWake _ (fun t c => closeDay_beyondWake true c t), deriveClosed_beyondWake,
            foldl_keeps beyondWake _ (fun t c => closeHalf_beyondWake true c t)]
        · rw [raisePeriodClosed_beyondWake, raiseFlag_beyondWake, foldl_keeps beyondWake _ (fun t c => openPeriod_beyondWake c t),
            deriveClosed_beyondWake, foldl_keeps beyondWake _ (fun t c => closeHalf_beyondWake true c t)]

theorem cutAll_beyondWake (s : State) : beyondWake (cutAll s) = beyondWake s := by
  unfold cutAll
  apply foldl_keeps
  intro t c
  rw [closeDay_beyondWake, closeHalf_beyondWake]

theorem idleAll_beyondWake (s : State) : beyondWake (idleAll s) = beyondWake s := by
  refine mapChannels_beyondWake _ s ?_
  exact fun _ => rfl

theorem startWarnLevels_beyondWake (s : State) : beyondWake { s with emission := { s.emission with
    channels := s.emission.channels.map startWarnLevel } } = beyondWake s :=
  mapChannels_beyondWake _ s (fun c => by unfold startWarnLevel; split <;> rfl)

theorem emissionStop_beyondWake (s : State) : beyondWake (emissionStop s) = beyondWake s := by
  unfold emissionStop
  simp only
  have key : beyondWake (deriveEmission true .b (deriveEmission true .a (idleAll (cutAll s)))) = beyondWake s := by
    rw [deriveEmission_beyondWake, deriveEmission_beyondWake]
    exact (idleAll_beyondWake _).trans (cutAll_beyondWake s)
  split
  · exact key
  · split
    · rw [raiseFlag_beyondWake, raiseFlag_beyondWake, raiseFlag_beyondWake]; exact key
    · rw [raiseFlag_beyondWake, raiseFlag_beyondWake]; exact key

theorem emissionStart_beyondWake (s : State) : beyondWake (emissionStart s) = beyondWake s := by
  unfold emissionStart
  simp only
  split
  · rw [deriveEmission_beyondWake, deriveOperating_beyondWake, deriveEmission_beyondWake,
      deriveOperating_beyondWake, startWarnLevels_beyondWake]
  · rw [foldl_keeps beyondWake _ (fun t c => openPeriod_beyondWake c t), deriveEmission_beyondWake,
      deriveOperating_beyondWake, deriveEmission_beyondWake, deriveOperating_beyondWake, startWarnLevels_beyondWake]

end Sys2Proof.Machine
end

