-- ==== Sys2Proof/Laws/PeriodFlags.lean ====
section
/-! SUPPORT. The flags PERIOD-CLOSED, PERIOD-CUT and DAY-CLOSED (22 to 24) under the operations that a period's close
reaches: none of them sets or clears one, so what a boundary, a TIME or a STOP does to them is what it raises itself
(R109, R112 to R114). -/

namespace Sys2Proof.Machine

open Sys2Proof

/-- Flags 22 to 24 as they stand. -/
def periodFlags (a : Attention) : List Bool :=
  [22, 23, 24].map (fun j => (a.flags.getD j ⟨false, false, false, false, false⟩).isSet)

theorem isSet_of_periodFlags {s t : State} (h : periodFlags t.attention = periodFlags s.attention) {j : Nat}
    (h1 : 22 ≤ j) (h2 : j ≤ 24) : (t.flag j).isSet = (s.flag j).isSet := by
  simp only [periodFlags, List.map_cons, List.map_nil, List.cons.injEq, and_true] at h
  unfold State.flag
  obtain rfl | rfl | rfl : j = 22 ∨ j = 23 ∨ j = 24 := by omega
  · exact h.1
  · exact h.2.1
  · exact h.2.2

/-! ### Attention, upstream queue, recorder and transmitters -/

theorem modFlag_periodFlags (i : Nat) (f : FlagRec → FlagRec) (s : State) (h : i < 22 ∨ 24 < i) :
    periodFlags (s.modFlag i f).attention = periodFlags s.attention := by
  have key : ∀ j, j = 22 ∨ j = 23 ∨ j = 24 → (s.modFlag i f).flag j = s.flag j := by
    intro j hj
    rw [State.flag_modFlag, if_neg (by omega)]
  simp only [periodFlags, List.map_cons, List.map_nil, List.cons.injEq, and_true]
  exact ⟨congrArg (·.isSet) (key 22 (by omega)), congrArg (·.isSet) (key 23 (by omega)),
    congrArg (·.isSet) (key 24 (by omega))⟩

@[simp] theorem placeNotice_periodFlags (i : Nat) (s : State) :
    periodFlags (placeNotice i s).attention = periodFlags s.attention := by
  unfold placeNotice
  (repeat' split) <;> rfl

theorem riseAt_periodFlags (i : Nat) (s : State) (h : i < 22 ∨ 24 < i) :
    periodFlags (riseAt i s).attention = periodFlags s.attention := by
  unfold riseAt
  simp only
  (repeat' split) <;> simp [modFlag_periodFlags _ _ _ h]

theorem raiseFlag_periodFlags (fl : Flag) (s : State) (h : fl.index < 22 ∨ 24 < fl.index) :
    periodFlags (raiseFlag fl s).attention = periodFlags s.attention := riseAt_periodFlags _ _ h

theorem setCondition_periodFlags (fl : Flag) (b : Bool) (s : State) (h : fl.index < 22 ∨ 24 < fl.index) :
    periodFlags (setCondition fl b s).attention = periodFlags s.attention := by
  unfold setCondition
  simp only
  (repeat' split) <;> simp [riseAt_periodFlags _ _ h, modFlag_periodFlags _ _ _ h]

@[simp] theorem setThinning_periodFlags (b : Bool) (s : State) :
    periodFlags (setThinning b s).attention = periodFlags s.attention := by
  unfold setThinning
  simp [setCondition_periodFlags, Flag.index]

@[simp] theorem handUpstream_periodFlags (e : UpEntry) (s : State) :
    periodFlags (handUpstream e s).attention = periodFlags s.attention := by
  unfold handUpstream
  simp only
  (repeat' split) <;> simp [raiseFlag_periodFlags, Flag.index]

@[simp] theorem judgeRemoval_periodFlags (s : State) :
    periodFlags (judgeRemoval s).attention = periodFlags s.attention := by
  unfold judgeRemoval
  split <;> simp

@[simp] theorem removeUpstream_periodFlags (s : State) :
    periodFlags (removeUpstream s).attention = periodFlags s.attention := by
  unfold removeUpstream
  simp

@[simp] theorem freezeRecorder_periodFlags (s : State) :
    periodFlags (freezeRecorder s).attention = periodFlags s.attention := by
  unfold freezeRecorder
  simp [setCondition_periodFlags, Flag.index]

@[simp] theorem pushRecord_periodFlags (r : RecEntry) (s : State) :
    periodFlags (pushRecord r s).attention = periodFlags s.attention := by
  unfold pushRecord
  rfl

@[simp] theorem enterRecord_periodFlags (r : RecEntry) (s : State) :
    periodFlags (enterRecord r s).attention = periodFlags s.attention := by
  unfold enterRecord
  simp only
  (repeat' split) <;> simp

@[simp] theorem enterTrigger_periodFlags (r : RecEntry) (s : State) :
    periodFlags (enterTrigger r s).attention = periodFlags s.attention := by
  unfold enterTrigger
  simp only
  (repeat' split) <;> simp

@[simp] theorem recordOutcome_periodFlags (org : RecOrigin) (o : RecOutcome) (a b p : Nat) (v : Value) (s : State) :
    periodFlags (recordOutcome org o a b p v s).attention = periodFlags s.attention := by
  unfold recordOutcome
  split <;> simp

@[simp] theorem markerTrigger_periodFlags (p : Option Nat) (v : Option Value) (m : TriggerMark) (s : State) :
    periodFlags (markerTrigger p v m s).attention = periodFlags s.attention := by
  unfold markerTrigger
  split <;> simp

@[simp] theorem recordTripSafe_periodFlags (p : Nat) (v : Value) (s : State) :
    periodFlags (recordTripSafe p v s).attention = periodFlags s.attention := by
  unfold recordTripSafe
  split <;> simp

@[simp] theorem sendFlow_periodFlags (p : Port) (s : State) :
    periodFlags (sendFlow p s).attention = periodFlags s.attention := by
  unfold sendFlow
  simp only
  split
  · split
    · rfl
    · cases p <;> rfl
    · cases p <;> rfl
  · rfl

@[simp] theorem serveS_periodFlags (s : State) : periodFlags (serveS s).attention = periodFlags s.attention := by
  unfold serveS
  split
  · split
    · rfl
    · rename_i src _
      cases src
      · rfl
      · rfl
      · rfl
      · exact removeUpstream_periodFlags s
  · rfl

@[simp] theorem serveF_periodFlags (s : State) : periodFlags (serveF s).attention = periodFlags s.attention := by
  unfold serveF grantTrip grantRequester grantSupervisory grantDispatch grantStep grantQuery
  (repeat' split) <;> rfl

@[simp] theorem serve_periodFlags (s : State) : periodFlags (serve s).attention = periodFlags s.attention := by
  unfold serve
  simp

/-! ### Output guard -/

@[simp] theorem followLatched_periodFlags (s : State) :
    periodFlags (followLatched s).attention = periodFlags s.attention := by
  unfold followLatched
  simp [setCondition_periodFlags, Flag.index]

@[simp] theorem withdrawStep_periodFlags (i : Nat) (s : State) :
    periodFlags (withdrawStep i s).attention = periodFlags s.attention := by
  unfold withdrawStep
  split <;> rfl

@[simp] theorem withdrawSlot_periodFlags (k : Nat) (s : State) :
    periodFlags (withdrawSlot k s).attention = periodFlags s.attention := by
  unfold withdrawSlot
  split <;> rfl

@[simp] theorem withdrawOrders_periodFlags (i : Nat) (s : State) :
    periodFlags (withdrawOrders i s).attention = periodFlags s.attention := by
  unfold withdrawOrders
  simp only
  rw [State.modGuard_attention, withdrawStep_periodFlags,
    foldl_keeps (fun t => periodFlags t.attention) _ (fun t k => withdrawSlot_periodFlags k t)]

@[simp] theorem enterTripOrder_periodFlags (i : Nat) (s : State) :
    periodFlags (enterTripOrder i s).attention = periodFlags s.attention := by
  unfold enterTripOrder
  split <;> rfl

@[simp] theorem issue_periodFlags (i : Nat) (v : Value) (s : State) :
    periodFlags (issue i v s).attention = periodFlags s.attention := by
  unfold issue
  rfl

@[simp] theorem writeStep_periodFlags (p : PendingStep) (s : State) :
    periodFlags (writeStep p s).attention = periodFlags s.attention := by
  unfold writeStep
  rfl

@[simp] theorem writeSlot_periodFlags (o : PendingOrder) (s : State) :
    periodFlags (writeSlot o s).attention = periodFlags s.attention := by
  unfold writeSlot
  rfl

@[simp] theorem tripOutput_periodFlags (i : Nat) (s : State) :
    periodFlags (tripOutput i s).attention = periodFlags s.attention := by
  unfold tripOutput
  simp only
  split <;> simp [raiseFlag_periodFlags, Flag.index]

@[simp] theorem interlockEnds_periodFlags (i : Nat) (s : State) :
    periodFlags (interlockEnds i s).attention = periodFlags s.attention := by
  unfold interlockEnds
  simp

@[simp] theorem wakeOutput_periodFlags (p i : Nat) (s : State) :
    periodFlags (wakeOutput p i s).attention = periodFlags s.attention := by
  unfold wakeOutput
  simp only
  (repeat' split) <;> simp

@[simp] theorem wakeGuard_periodFlags (p : Nat) (s : State) :
    periodFlags (wakeGuard p s).attention = periodFlags s.attention := by
  unfold wakeGuard
  split
  · rfl
  · exact foldl_keeps (fun t => periodFlags t.attention) _ (fun t i => wakeOutput_periodFlags p i t) _ _

@[simp] theorem recordDecision_periodFlags (org : OrderOrigin) (o : RecOutcome) (p : Nat) (v : Value) (s : State) :
    periodFlags (recordDecision org o p v s).attention = periodFlags s.attention := by
  unfold recordDecision
  split <;> simp

@[simp] theorem placeOrder_periodFlags (org : OrderOrigin) (p : Nat) (v : Value) (s : State) :
    periodFlags (placeOrder org p v s).attention = periodFlags s.attention := by
  unfold placeOrder
  split <;> rfl

@[simp] theorem judgeOrder_periodFlags (org : OrderOrigin) (i : Nat) (v : Value) (s : State) :
    periodFlags (judgeOrder org i v s).attention = periodFlags s.attention := by
  unfold judgeOrder
  simp only
  (repeat' split) <;> simp

@[simp] theorem guardOrder_periodFlags (org : OrderOrigin) (i : Nat) (v : Value) (s : State) :
    periodFlags (guardOrder org i v s).2.attention = periodFlags s.attention := by
  unfold guardOrder
  simp only
  (repeat' split) <;> simp [raiseFlag_periodFlags, Flag.index]

@[simp] theorem restrictWaiting_periodFlags (i : Nat) (s : State) :
    periodFlags (restrictWaiting i s).attention = periodFlags s.attention := by
  unfold restrictWaiting
  rfl

@[simp] theorem restrictOutput_periodFlags (l : LineId) (i : Nat) (s : State) :
    periodFlags (restrictOutput l i s).attention = periodFlags s.attention := by
  unfold restrictOutput
  simp only
  (repeat' split) <;> simp

@[simp] theorem restrictEntry_periodFlags (l : LineId) (s : State) :
    periodFlags (restrictEntry l s).attention = periodFlags s.attention := by
  exact foldl_keeps (fun t => periodFlags t.attention) _ (fun t i => restrictOutput_periodFlags l i t) _ _

@[simp] theorem guardStop_periodFlags (s : State) : periodFlags (guardStop s).attention = periodFlags s.attention := by
  unfold guardStop
  simp only
  rw [foldl_keeps (fun t => periodFlags t.attention) _ (fun t k => withdrawSlot_periodFlags k t),
    foldl_keeps (fun t => periodFlags t.attention) _ (fun t i => withdrawStep_periodFlags i t)]

/-! ### Points, lines and dispatch inputs -/

@[simp] theorem deriveOperating_periodFlags (l : LineId) (s : State) :
    periodFlags (deriveOperating l s).attention = periodFlags s.attention := by
  unfold deriveOperating
  simp only
  (repeat' split) <;> simp

@[simp] theorem wakeLines_periodFlags (p : Nat) (s : State) :
    periodFlags (wakeLines p s).attention = periodFlags s.attention := by
  unfold wakeLines
  apply foldl_keeps (fun t => periodFlags t.attention)
  intro t l
  split <;> simp

@[simp] theorem followDispatch_periodFlags (s : State) :
    periodFlags (followDispatch s).attention = periodFlags s.attention := by
  unfold followDispatch
  simp [setCondition_periodFlags, Flag.index]

@[simp] theorem wakeInput_periodFlags (p : Nat) (i : ReqInput) (s : State) :
    periodFlags (wakeInput p i s).attention = periodFlags s.attention := by
  unfold wakeInput
  split <;> rfl

@[simp] theorem wakeTripSeen_periodFlags (p : Nat) (s : State) :
    periodFlags (wakeTripSeen p s).attention = periodFlags s.attention := by
  unfold wakeTripSeen
  split <;> rfl

@[simp] theorem wakeDemands_periodFlags (p : Nat) (s : State) :
    periodFlags (wakeDemands p s).attention = periodFlags s.attention := by
  unfold wakeDemands
  simp only
  split <;> rfl

@[simp] theorem wakeDispatch_periodFlags (p : Nat) (s : State) :
    periodFlags (wakeDispatch p s).attention = periodFlags s.attention := by
  unfold wakeDispatch
  split <;> simp

@[simp] theorem wakeConsumers_periodFlags (p : Nat) (s : State) :
    periodFlags (wakeConsumers p s).attention = periodFlags s.attention := by
  unfold wakeConsumers
  simp

@[simp] theorem reportSelf_periodFlags (p : Nat) (a b : Value × Quality) (s : State) :
    periodFlags (reportSelf p a b s).attention = periodFlags s.attention := by
  unfold reportSelf
  split <;> simp

@[simp] theorem storeUpdate_periodFlags (p : Nat) (v : Value) (q : Quality) (s : State) :
    periodFlags (storeUpdate p v q s).attention = periodFlags s.attention := by
  unfold storeUpdate
  rfl

@[simp] theorem writeSelf_periodFlags (p : Nat) (v : Value) (s : State) :
    periodFlags (writeSelf p v s).attention = periodFlags s.attention := by
  unfold writeSelf
  simp [pointEvent]

/-! ### Steam dispatch -/

@[simp] theorem publish_periodFlags (p : Option Nat) (v : Value) (s : State) :
    periodFlags (publish p v s).attention = periodFlags s.attention := by
  unfold publish
  split <;> simp

@[simp] theorem publishState_periodFlags (s : State) :
    periodFlags (publishState s).attention = periodFlags s.attention := by
  unfold publishState
  simp

@[simp] theorem enterHold_periodFlags (c : HoldCause) (s : State) :
    periodFlags (enterHold c s).attention = periodFlags s.attention := by
  unfold enterHold
  simp

@[simp] theorem leaveHold_periodFlags (s : State) : periodFlags (leaveHold s).attention = periodFlags s.attention := by
  unfold leaveHold
  simp

@[simp] theorem startCycleTimer_periodFlags (s : State) :
    periodFlags (startCycleTimer s).attention = periodFlags s.attention := by
  unfold startCycleTimer
  rfl

@[simp] theorem handOutput_periodFlags (r : CycleRecord) (k : Nat) (v : Value) (s : State) :
    periodFlags (handOutput r k v s).2.attention = periodFlags s.attention := by
  unfold handOutput
  (repeat' split) <;> simp

@[simp] theorem handAll_periodFlags (r : CycleRecord) (s : State) :
    periodFlags (handAll r s).2.attention = periodFlags s.attention := by
  unfold handAll
  generalize (List.range 5).zip r.values = l
  suffices h : ∀ (l : List (Nat × Value)) (acc : List Handed × State),
      periodFlags (l.foldl (fun (acc : List Handed × State) kv =>
        let a := handOutput r kv.1 kv.2 acc.2
        (acc.1 ++ [a.1], serve a.2)) acc).2.attention = periodFlags acc.2.attention from h l ([], s)
  intro l
  induction l with
  | nil => intro acc; rfl
  | cons kv l ih => intro acc; rw [List.foldl_cons, ih]; simp

@[simp] theorem runCycle_periodFlags (s : State) : periodFlags (runCycle s).attention = periodFlags s.attention := by
  unfold runCycle
  simp

@[simp] theorem actOnOccasion_periodFlags (s : State) :
    periodFlags (actOnOccasion s).attention = periodFlags s.attention := by
  unfold actOnOccasion
  (repeat' split) <;> simp

@[simp] theorem runOccasions_periodFlags (n : Nat) (s : State) :
    periodFlags (runOccasions n s).attention = periodFlags s.attention := by
  induction n generalizing s with
  | zero => rfl
  | succ n ih =>
    unfold runOccasions
    split
    · rw [ih, actOnOccasion_periodFlags]
    · rfl

@[simp] theorem settle_periodFlags (s : State) : periodFlags (settle s).attention = periodFlags s.attention := by
  unfold settle
  simp

@[simp] theorem enterStopped_periodFlags (s : State) :
    periodFlags (enterStopped s).attention = periodFlags s.attention := by
  unfold enterStopped
  split <;> simp

/-! ### Emission -/

@[simp] theorem followEmission_periodFlags (s : State) :
    periodFlags (followEmission s).attention = periodFlags s.attention := by
  unfold followEmission
  simp [setCondition_periodFlags, Flag.index]

@[simp] theorem deriveEmission_periodFlags (always : Bool) (l : LineId) (s : State) :
    periodFlags (deriveEmission always l s).attention = periodFlags s.attention := by
  unfold deriveEmission
  simp only
  (repeat' split) <;> simp

@[simp] theorem closeHalf_periodFlags (cut : Bool) (c : Nat) (s : State) :
    periodFlags (closeHalf cut c s).attention = periodFlags s.attention := by
  unfold closeHalf
  simp only
  split <;> simp

@[simp] theorem closeDay_periodFlags (cut : Bool) (c : Nat) (s : State) :
    periodFlags (closeDay cut c s).attention = periodFlags s.attention := by
  unfold closeDay
  rfl

@[simp] theorem openPeriod_periodFlags (c : Nat) (s : State) :
    periodFlags (openPeriod c s).attention = periodFlags s.attention := by
  unfold openPeriod
  rfl

@[simp] theorem deriveClosed_periodFlags (l : List Nat) (s : State) :
    periodFlags (deriveClosed l s).attention = periodFlags s.attention := by
  unfold deriveClosed
  apply foldl_keeps (fun t => periodFlags t.attention)
  intro t x
  split <;> simp

@[simp] theorem cutAll_periodFlags (s : State) : periodFlags (cutAll s).attention = periodFlags s.attention := by
  unfold cutAll
  apply foldl_keeps (fun t => periodFlags t.attention)
  intro t c
  simp

@[simp] theorem idleAll_periodFlags (s : State) : periodFlags (idleAll s).attention = periodFlags s.attention := by
  unfold idleAll
  rfl

@[simp] theorem recorderStop_periodFlags (s : State) :
    periodFlags (recorderStop s).attention = periodFlags s.attention := by
  unfold recorderStop
  split <;> simp

end Sys2Proof.Machine
end

