-- ==== Sys2Proof/Laws/Serving.lean ====
section
/-! SUPPORT. What one pass of the transmitter-free events leaves: nothing for a second pass. -/

namespace Sys2Proof.Machine
open Sys2Proof

/-- The requester that a search finds has work. -/
theorem searchRing_hasWork {s : State} {l : Level} {q r : Requester} (h : searchRing s l q = some r) :
    hasWork s r = true := by
  have := List.find?_some h
  simp_all

/-- A requester that has work supplies a frame: the F-port is then sending, and the S-port and its sources stand. -/
theorem grantRequester_sends {r : Requester} {s : State} (h : hasWork s r = true) :
    (grantRequester r s).fPort.tx.isSome = true ∧ (grantRequester r s).sPort = s.sPort ∧
      sSource (grantRequester r s) = sSource s := by
  cases r <;> simp only [grantRequester, grantSupervisory, grantDispatch, grantStep, grantQuery] <;> split <;>
    first | (simp_all [hasWork]; done) | exact ⟨rfl, rfl, rfl⟩

/-- A grant event does nothing, or the F-port is then sending and the S-port and its sources stand. -/
theorem serveF_cases (s : State) :
    serveF s = s ∨ ((serveF s).fPort.tx.isSome = true ∧ (serveF s).sPort = s.sPort ∧ sSource (serveF s) = sSource s) := by
  unfold serveF
  split
  · split
    · exact .inl rfl
    · unfold grantTrip
      split
      · exact .inl rfl
      · exact .inr ⟨rfl, rfl, rfl⟩
    · rename_i l r hc
      refine .inr ?_
      have hw : hasWork s r = true := by
        unfold grantChoice at hc
        split at hc
        · cases hc
        · split at hc
          · cases hc; exact searchRing_hasWork ‹_›
          · split at hc
            · cases hc; exact searchRing_hasWork ‹_›
            · cases hc
      have hw' : hasWork { s with arbiter := s.arbiter.movePtr l r } r = true := by cases r <;> exact hw
      exact grantRequester_sends hw'
  · exact .inl rfl

theorem removeUpstream_fPort (s : State) : (removeUpstream s).fPort = s.fPort := by
  unfold removeUpstream judgeRemoval
  split
  · exact (congrArg State.fPort (setCondition_beyondAttention .thinning false
      { s with fwd := { s.fwd with
        up := s.fwd.up.drop Config.reportEntries, upFrameNo := (s.fwd.upFrameNo + 1) % 256, thinning := false } }) :)
  · rfl

/-- A transmitter-free event of the S-port finds nothing to begin, or the port is then sending and the F-port stands. -/
theorem serveS_cases (s : State) :
    (serveS s = s ∧ (s.sPort.mayBegin = true → sSource s = none)) ∨
      ((serveS s).sPort.tx.isSome = true ∧ (serveS s).fPort = s.fPort) := by
  unfold serveS
  split
  · split
    · exact .inl ⟨rfl, fun _ => ‹_›⟩
    · rename_i src _
      refine .inr ?_
      cases src with
      | reply => exact ⟨rfl, rfl⟩
      | notice => exact ⟨rfl, rfl⟩
      | upPass => exact ⟨rfl, rfl⟩
      | upstream => exact ⟨rfl, removeUpstream_fPort s⟩
  · exact .inl ⟨rfl, fun h => absurd h ‹_›⟩

/-- A port has no flow symbol to send: it is sending a frame, is DISABLED or has none waiting. -/
def PortRec.unflowed (r : PortRec) : Prop := r.tx.isSome = true ∨ r.state = .disabled ∨ r.symbol = .none

theorem sendFlow_of_unflowed {p : Port} {s : State} (h : (s.port p).unflowed) : sendFlow p s = s := by
  unfold sendFlow
  simp only
  split
  · rcases h with h | h | h <;> simp_all
  · rfl

theorem sendFlow_unflowed (p : Port) (s : State) : ((sendFlow p s).port p).unflowed := by
  unfold sendFlow
  simp only
  split
  · split
    · exact .inr (.inr ‹_›)
    · cases p <;> exact .inr (.inr rfl)
    · cases p <;> exact .inr (.inr rfl)
  · by_cases h : (s.port p).tx = none
    · refine .inr (.inl ?_); simp_all
    · exact .inl (by simpa [Option.isSome_iff_ne_none] using h)

theorem serveS_of_idle {s : State} (h : s.sPort.mayBegin = true → sSource s = none) : serveS s = s := by
  unfold serveS; split
  · rw [h ‹_›]
  · rfl

theorem mayBegin_of_sending {r : PortRec} (h : r.tx.isSome = true) : r.mayBegin = false := by
  simp only [PortRec.mayBegin, Bool.and_eq_false_imp, Option.isNone_eq_false_iff]
  exact fun _ => h

/-- A second pass of the transmitter-free events in the same moment finds nothing. -/
theorem serve_serve (s : State) : serve (serve s) = serve s := by
  have hS : (sendFlow .fPort (sendFlow .sPort s)).sPort.unflowed := by
    have other : ∀ t : State, (sendFlow .fPort t).sPort = t.sPort := by
      intro t
      unfold sendFlow
      simp only
      split
      · split <;> rfl
      · rfl
    rw [other]; exact sendFlow_unflowed .sPort s
  have hF : (sendFlow .fPort (sendFlow .sPort s)).fPort.unflowed := sendFlow_unflowed .fPort _
  unfold serve
  generalize sendFlow .fPort (sendFlow .sPort s) = a at *
  generalize hb : serveS a = b
  generalize hc : serveF b = c
  have ends : c.sPort.unflowed → c.fPort.unflowed → (c.sPort.mayBegin = true → sSource c = none) → serveF c = c →
      serveF (serveS (sendFlow .fPort (sendFlow .sPort c))) = c := by
    intro h1 h2 h3 h4
    rw [sendFlow_of_unflowed (p := .sPort) h1, sendFlow_of_unflowed (p := .fPort) h2, serveS_of_idle h3, h4]
  have idle : c.fPort.tx.isSome = true → serveF c = c := fun h => by
    unfold serveF; rw [mayBegin_of_sending h]; rfl
  have first : b.sPort.unflowed ∧ b.fPort.unflowed ∧ (b.sPort.mayBegin = true → sSource b = none) := by
    rcases serveS_cases a with ⟨h, hi⟩ | ⟨h, hp⟩
    · rw [← hb, h]; exact ⟨hS, hF, hi⟩
    · rw [← hb]
      exact ⟨.inl h, hp ▸ hF, fun h' => absurd h' (by simp [mayBegin_of_sending h])⟩
  obtain ⟨b1, b2, b3⟩ := first
  rcases serveF_cases b with h | ⟨h, hp, hs⟩
  · have : c = b := hc ▸ h
    exact ends (this ▸ b1) (this ▸ b2) (this ▸ b3) (by rw [this]; exact h)
  · rw [hc] at h hp hs
    exact ends (hp ▸ b1) (.inl h) (by rw [hp, hs]; exact b3) (idle h)

end Sys2Proof.Machine
end

