-- ==== Sys2Proof/Laws/Taking.lean ====
section
/-! SUPPORT. The taking of a frame: what a taken command comes to, and what the taking leaves as it was. -/

namespace Sys2Proof.Machine

open Sys2Proof

/-! ### Taking a frame -/

theorem Takes.takesFrame {p : Port} {f : Frame} {c : Instr} {s : State} (h : Takes p f c s) :
    takesFrame p f c s = true := by
  unfold Machine.takesFrame
  have hr := h.room
  cases hb : replyBearing p c <;> simp_all [h.head, h.routed]

/-- A command whose frame is taken acts on the state that the taking leaves, and the step closes. -/
theorem takeFrame_of_takes {p : Port} {f : Frame} {c : Instr} {s : State} (h : Takes p f c s) (act : State → State) :
    takeFrame p f c act s = serve (act (taken p f s)) := by
  simp [takeFrame, h.takesFrame, whileAwake, h.awake, taken]

/-- A command whose frame is not taken does nothing. -/
theorem takeFrame_of_not {p : Port} {f : Frame} {c : Instr} {s : State} (h : takesFrame p f c s = false)
    (act : State → State) : takeFrame p f c act s = s := by simp [takeFrame, h]

/-- Offering a frame reaches the recorder, its flag and the port's buffer alone. -/
theorem offered_beyondRecorder (p : Port) (f : Frame) (s : State) :
    beyondRecorder (offered p f s) = beyondRecorder (popFrame p s) := offerFrame_beyondRecorder p f _

/-- Taking a frame reaches the recorder, its flag and the port's buffer, and what the transmitter-free events reach. -/
theorem taken_standing (p : Port) (f : Frame) (s : State) :
    beyondRecorder (standing (taken p f s)) = beyondRecorder (standing (popFrame p s)) := by
  unfold taken
  rw [serve_standing]
  have h := congrArg standing (offered_beyondRecorder p f s)
  have key : ∀ t : State, beyondRecorder (standing t) = beyondRecorder (standing (beyondRecorder t)) := fun _ => rfl
  rw [key, h, ← key]

theorem taken_part (p : Port) (f : Frame) (s : State) : (taken p f s).part = s.part := by
  have h := congrArg State.part (taken_standing p f s)
  generalize taken p f s = t at *
  cases p <;> exact h

theorem taken_points (p : Port) (f : Frame) (s : State) : (taken p f s).points = s.points := by
  have h := congrArg State.points (taken_standing p f s)
  generalize taken p f s = t at *
  cases p <;> exact h

theorem taken_windows (p : Port) (f : Frame) (s : State) : (taken p f s).fwd.windows = s.fwd.windows := by
  have h := congrArg (·.fwd.windows) (taken_standing p f s)
  generalize taken p f s = t at *
  cases p <;> exact h

theorem taken_recs (p : Port) (f : Frame) (s : State) : (taken p f s).guard.recs = s.guard.recs := by
  have h := congrArg (·.guard.recs) (taken_standing p f s)
  generalize taken p f s = t at *
  cases p <;> exact h

theorem taken_emission (p : Port) (f : Frame) (s : State) : (taken p f s).emission = s.emission := by
  have h := congrArg State.emission (taken_standing p f s)
  generalize taken p f s = t at *
  cases p <;> exact h

theorem taken_clock (p : Port) (f : Frame) (s : State) : (taken p f s).clock = s.clock := by
  have h := congrArg State.clock (taken_standing p f s)
  generalize taken p f s = t at *
  cases p <;> exact h

theorem taken_now (p : Port) (f : Frame) (s : State) : (taken p f s).now = s.now := by
  have h := congrArg State.now (taken_standing p f s)
  generalize taken p f s = t at *
  cases p <;> exact h

theorem taken_held (p : Port) (f : Frame) (s : State) : (taken p f s).held = s.held := by
  have h := congrArg State.held (taken_standing p f s)
  generalize taken p f s = t at *
  cases p <;> exact h

end Sys2Proof.Machine
end

