-- ==== Sys2Proof/Tests/Slice0.lean ====
section
/-! SUPPORT. The author's own tests: ill-formed commands that WellFormed refuses, one small step for the commands with
values worked out from the spec, and for every statement with hypotheses a state and operands that meet them. -/

namespace Sys2Proof.Tests

open Sys2Proof Sys2Proof.Machine

/-! ### Helpers -/

/-- A frame from station 3, on the supervisory side. -/
def fromS (dest : Nat) (k : Kind) (count : Nat) (body : List Byte) : Frame := ⟨dest, 3, k, count, 7, body⟩

/-- A frame from field station 41. -/
def fromF (dest : Nat) (k : Kind) (count : Nat) (body : List Byte) : Frame := ⟨dest, 41, k, count, 7, body⟩

/-- A SETUP frame for the part. -/
def setup (body : List Byte) : Frame := fromS 20 .setup (body.length / 6) body

/-- A configured point whose stored value is GOOD and FRESH. -/
def pt (o : Owner) (v : Value) : Point :=
  { Point.blank with configured := true, owner := o, value := v, quality := .good, fresh := .fresh, high := 60000 }

/-- Guard record 4 of the tests: point 130 of station 41, bound to line A, latching, a term ABOVE 8500 on point 212. -/
def rec4 : GuardRec :=
  { GuardRec.blank with
    configured := true, point := 130, restricted := true, rhigh := 5000, high := 6500, latching := true,
    issued := some 5200, target := some 5200, terms := [⟨true, 212, .above, 8500, 50, true, false⟩, .blank, .blank, .blank] }

/-- A part at station 20 in SETUP with field stations 40 to 79, collector station 3 and the points of the tests. -/
def base : State :=
  { State.powerOn 20 20 [] with
    part := { Part.powerOn 20 20 with collector := 3 }
    fwd := { Forwarding.powerOn with windows := [⟨true, 40, 79⟩, ⟨false, 0, 0⟩, ⟨false, 0, 0⟩, ⟨false, 0, 0⟩] }
    points := ((((List.replicate 1024 Point.blank).set 100 { pt .self 7 with limit := 2000, timer := some 2000 }).set 130
      (pt (.station 41) 5200)).set 212 { pt (.station 41) 8000 with cls := .essential, limit := 2000, timer := some 2000 }).set
      213 (pt (.station 42) 0)
    guard := { Guard.powerOn with recs := (List.replicate 96 GuardRec.blank).set 4 rec4 } }

/-- The same part in RUN. -/
def live : State := { base with part := { base.part with state := .run, signature := signatureOf base } }

/-- A state with one frame at the head of a port's receive buffer. -/
def onPort (p : Port) (f : Frame) (s : State) : State := s.modPort p (fun r => { r with rx := [f] })

/-- The state that a command leaves. -/
def ran (c : Instr) (s : State) : State :=
  match exec c s with
  | .next t => t
  | _ => s

/-- What `Takes` asks, as a check. -/
def canTake (p : Port) (f : Frame) (c : Instr) (s : State) : Bool := !s.held && takesFrame p f c s

theorem takes_of {p : Port} {f : Frame} {c : Instr} {s : State} (h : canTake p f c s = true) : Takes p f c s := by
  simp only [canTake, takesFrame, Bool.and_eq_true, Bool.or_eq_true, decide_eq_true_eq, Bool.not_eq_true'] at h
  exact ⟨h.1, h.2.1.1, h.2.1.2, fun hr => h.2.2.resolve_left (by simp [hr])⟩

/-- What `Bounded` asks, as a check. -/
def isBounded (s : State) : Bool :=
  decide (s.points.length = Config.points) && decide (s.guard.recs.length = Config.guards) &&
    decide (s.emission.channels.length = Config.channels) && decide (s.attention.flags.length = flagCount) &&
    decide (s.query.entries.length = 8) && decide (s.fwd.windows.length = 4) &&
    decide (s.fwd.up.length ≤ Config.upstreamCap) && decide ((s.fwd.up.map (·.point)).Nodup) &&
    decide (s.fwd.upPass.length ≤ Config.upPassCap) && decide (s.fwd.outbox.length ≤ Config.outboxCap) &&
    decide (s.fwd.orders.length ≤ Config.orderQueueCap) && decide ((s.guard.trips.map (·.record)).Nodup) &&
    decide ((s.guard.steps.map (·.record)).Nodup) && decide (∀ p ∈ s.guard.steps, p.record < Config.guards) &&
    decide ((s.dispatch.slots.map (·.output)).Nodup) && decide (∀ o ∈ s.dispatch.slots, o.output < 5) &&
    s.emission.channels.all (fun c => decide (c.half.length ≤ Config.halfRingCap) &&
      decide (c.days.length ≤ Config.dayRingCap) && decide (c.run.minmax = none) && decide (c.run.valid = 0) &&
      decide (c.run.sum = 0) && decide (300 ≤ c.cfg.o2Ref) && decide (c.cfg.o2Ref ≤ 1500) && decide (1500 ≤ c.cfg.o2Cap) &&
      decide (c.cfg.o2Cap ≤ 2000) && decide (1 ≤ c.cfg.minValid)) &&
    decide (s.attention.outbox.length ≤ Config.noticeCap) && decide (s.recorder.buffer.length ≤ Config.recorderCap) &&
    decide (s.sPort.rx.length ≤ Config.rxCap) && decide (s.fPort.rx.length ≤ Config.rxCap)

theorem bounded_of {s : State} (h : isBounded s = true) : Bounded s := by
  simp only [isBounded, Bool.and_eq_true, decide_eq_true_eq, List.all_eq_true] at h
  obtain ⟨⟨⟨⟨⟨h, h17⟩, h18⟩, h19⟩, h20⟩, h21⟩ := h
  obtain ⟨⟨⟨⟨⟨⟨⟨⟨h, h9⟩, h10⟩, h11⟩, h12⟩, h13⟩, h14⟩, h15⟩, h16⟩ := h
  obtain ⟨⟨⟨⟨⟨⟨⟨h1, h2⟩, h3⟩, h4⟩, h5⟩, h6⟩, h7⟩, h8⟩ := h
  refine ⟨h1, h2, h3, h4, h5, h6, h7, h8, h9, h10, h11, h12, h13, h14, h15, h16, ?_, ?_, h18, h19, h20, h21⟩
  · intro c hc
    obtain ⟨⟨⟨⟨⟨⟨⟨⟨⟨a, b⟩, _⟩, _⟩, _⟩, _⟩, _⟩, _⟩, _⟩, _⟩ := h17 c hc
    exact ⟨a, b⟩
  · intro c hc
    obtain ⟨⟨⟨⟨⟨⟨⟨⟨⟨_, _⟩, e⟩, v⟩, m⟩, r1⟩, r2⟩, r3⟩, r4⟩, r5⟩ := h17 c hc
    exact ⟨.inl ⟨e, v, m⟩, r1, r2, r3, r4, r5⟩

/-! ### WellFormed: one ill-formed command for each check, refused -/

/-- A well-formed frame of each kind with the smallest count. -/
theorem test_wf_accepts_frames :
    (fromS 20 .report 1 (List.replicate 6 0)).wf = true ∧ (fromS 20 .query 1 [0, 0]).wf = true ∧
      (fromS 20 .answer 1 (List.replicate 7 0)).wf = true ∧ (fromS 255 .order 8 (List.replicate 48 0)).wf = true ∧
      (setup (List.replicate 96 0)).wf = true := by decide +kernel

theorem test_wf_refuses_headers :
    (fromS 256 .query 1 [0, 0]).wf = false ∧ (⟨20, 0, .query, 1, 7, [0, 0]⟩ : Frame).wf = false ∧
      (⟨20, 256, .query, 1, 7, [0, 0]⟩ : Frame).wf = false ∧ (⟨20, 3, .query, 1, 256, [0, 0]⟩ : Frame).wf = false := by
  decide +kernel

theorem test_wf_refuses_counts_and_lengths :
    (fromS 20 .order 0 []).wf = false ∧ (fromS 20 .order 9 (List.replicate 54 0)).wf = false ∧
      (fromS 20 .query 2 [0, 0]).wf = false ∧ (fromS 20 .status 9 (List.replicate 54 0)).wf = false ∧
      (fromS 20 .report 17 (List.replicate 102 0)).wf = false ∧ (fromS 20 .answer 1 (List.replicate 6 0)).wf = false ∧
      (fromS 20 .order 2 (List.replicate 6 0)).wf = false := by decide +kernel

theorem test_wf_refuses_operands :
    Instr.wf (.powerOn 256) = false ∧ Instr.wf (.freshnessExpiry 1024) = false ∧ Instr.wf (.answerTimerExpiry 8) = false ∧
      Instr.wf (.discardTimerExpiry 8) = false ∧ Instr.wf (.rampTimerExpiry 96) = false := by decide +kernel

/-- A command whose frame is of another kind. -/
theorem test_wf_refuses_kinds :
    ([.orderToPart, .queryToPart, .orderFrameAcceptance, .supervisoryQuery, .fieldReport, .fieldAnswer, .write, .read, .start,
        .stop, .time, .substitute, .unsubstitute, .lock, .reset, .release, .clear, .force, .portRestart, .portRate, .rearm,
        .dispatchEnable, .dispatchDisable, .dispatchRun, .dispatchHold, .counterClear].map
      (fun c : Frame → Instr => (c (fromS 20 .status 1 (List.replicate 6 0))).wf)).all (· = false) = true ∧
    Instr.wf (.passThroughEntry (fromS 50 .query 1 [0, 0])) = false ∧
    Instr.wf (.passThroughEntry (fromS 50 .order 1 (List.replicate 6 0))) = false ∧
    Instr.wf (.upPassThrough (fromF 3 .report 1 (List.replicate 6 0))) = false ∧
    Instr.wf (.addressConflict .sPort (fromS 20 .order 0 [])) = false ∧
    Instr.wf (.sPortFrameDropped (fromS 20 .order 0 [])) = false ∧
    Instr.wf (.fieldFrameDropped (fromF 20 .order 0 [])) = false := by decide +kernel

/-! ### The interface -/

/-- No row of the table gives bits, so no word spells a command and the state stays as it is. -/
theorem test_no_word_spells_a_command (s : State) (n w : Nat) :
    decodeTableWord n w = none ∧ s.withFetchWord n w = s := ⟨rfl, rfl⟩

/-! ### The machine: witnesses of the invariants -/

theorem wit_IdlePassesOneMillisecond :
    base.pending = [] ∧ base.held = false ∧ readyCommands base = [] ∧ base.dispatch.owed = false := by decide +kernel

/-- A held part; a frame that heads no buffer; timers that do not run, and one a millisecond from its moment; a
boundary that the clock has not reached, at both ends of the period; no frame in flight. -/
theorem wit_NothingHappensOutOfTurn :
    (holdInReset base).held = true ∧
      frameTaken (.lock (setup [7, 0, 0, 0, 0, 0])) = some (.sPort, setup [7, 0, 0, 0, 0, 0]) ∧
      (base.point 130).timer = none ∧ (base.queryEntry 7).answerTimer = none ∧ (base.queryEntry 7).discardTimer = none ∧
      (base.guardRec 95).rampTimer = none ∧ (base.dispatch.input .trip).timer = none ∧ base.dispatch.timer = none ∧
      (base.port .fPort).pauseTimer = none ∧ ((holdInReset base).port .fPort).linkTimer = none ∧
      (base.point 100).timer = some 2000 ∧ { base with now := 1999 }.now < 2000 ∧
      (base.clock.day, base.clock.ms / 1800000) = base.clock.handed ∧ 1799999 / 1800000 = base.clock.handed.2 ∧
      (base.port .fPort).tx = none := by decide +kernel

theorem wit_NothingHappensOutOfTurn_not_taken :
    ¬Takes .sPort (setup [7, 0, 0, 0, 0, 0]) (.lock (setup [7, 0, 0, 0, 0, 0])) base :=
  fun h => absurd h.head (by decide +kernel)

theorem wit_StepKeepsBounds : Bounded base ∧ ∃ t, step base = .next t := ⟨bounded_of (by decide +kernel), _, rfl⟩

theorem base_setupRests : SetupRests base := by
  refine ⟨?_, ?_, ?_, ?_, ?_, ?_, ?_⟩ <;> intro _
  · decide +kernel
  · decide +kernel
  · decide +kernel
  · decide +kernel
  · decide +kernel
  · intro l; cases l <;> decide +kernel
  · decide +kernel

theorem wit_StepKeepsSetupAtRest : Bounded base ∧ SetupRests base ∧ base.part.state = .setup ∧ ∃ t, step base = .next t :=
  ⟨bounded_of (by decide +kernel), base_setupRests, rfl, _, rfl⟩

/-- The part in RUN with its guarded output TRIPPED. -/
def tripped : State := tripOutput 4 live

/-- Record 4 is the one configured guard record. -/
theorem tripped_configured (i : Nat) (h : (tripped.guardRec i).configured = true) : i = 4 := by
  by_cases hi : i < 96
  · have key : ∀ i < 96, (tripped.guardRec i).configured = true → i = 4 := by decide +kernel
    exact key i hi h
  · have hl : tripped.guard.recs.length = 96 := by decide +kernel
    have : tripped.guardRec i = .blank := by
      unfold State.guardRec
      rw [List.getD_eq_getElem?_getD, List.getElem?_eq_none (by omega)]; rfl
    rw [this] at h
    exact absurd h (by decide)

theorem wit_TrippedOutputsHoldNothing :
    Bounded tripped ∧ SetupRests tripped ∧ DistinctOutputs tripped ∧ TrippedHoldNothing tripped ∧
      (tripped.guardRec 4).state = .tripped ∧ ∃ t, step tripped = .next t := by
  have hr : tripped.part.state = .run := by decide +kernel
  refine ⟨bounded_of (by decide +kernel), ?_, ?_, ?_, by decide +kernel, _, rfl⟩
  · constructor <;> intro h <;> exact absurd (h.symm.trans hr) (by decide)
  · intro _ i j hi hj _
    rw [tripped_configured i hi, tripped_configured j hj]
  · intro i hi _
    rw [tripped_configured i hi]
    decide +kernel

/-- A FROZEN recorder, with a frame in flight that is no pending RESET, and with none. -/
theorem wit_FrozenRecordsDoNotChange :
    let s : State := { base with recorder := { base.recorder with state := .frozen }, pending := [.frameCompletes .sPort],
                                 sPort := { base.sPort with tx := some ⟨setup [], .plain⟩ } }
    s.recorder.state = .frozen ∧ (∃ t, step s = .next t) ∧
      ∀ c ∈ s.pending.head?, (∀ n, c ≠ .powerOn n) ∧ c ≠ .powerOnReset ∧ (∀ f, c ≠ .rearm f) ∧
        (∀ p snd, c = .frameCompletes p → (s.port p).tx = some snd → snd.item ≠ .resetDone) := by
  refine ⟨rfl, ⟨_, rfl⟩, ?_⟩
  intro c hc
  obtain rfl : Instr.frameCompletes .sPort = c := by simpa using hc
  refine ⟨by simp, by simp, by simp, ?_⟩
  intro p snd hp hs
  cases hp
  have := Option.some.inj hs
  subst this
  simp

theorem wit_SetupLockHolds :
    let s : State := { base with part := { base.part with lock := true }, pending := [.symbolReceived .sPort .idle] }
    s.part.lock = true ∧ (∃ t, step s = .next t) ∧ ∀ c ∈ s.pending.head?, (∀ n, c ≠ .powerOn n) ∧ c ≠ .powerOnReset := by
  refine ⟨rfl, ⟨_, rfl⟩, ?_⟩
  intro c hc
  obtain rfl : Instr.symbolReceived .sPort .idle = c := by simpa using hc
  exact ⟨by simp, by simp⟩

theorem wit_SignatureStaysCurrent : SignatureCurrent live ∧ live.part.state = .run ∧ ∃ t, step live = .next t := by
  refine ⟨?_, rfl, _, rfl⟩
  intro _
  show signatureOf base = signatureOf live
  unfold signatureOf signatureBytes
  rfl

/-! ### Taking frames and serving the transmitters -/

/-- The frame of the recorder's witnesses: a report of point 212. -/
def report212 : Frame := fromF 3 .report 1 (pointWord 0 212 ++ signedBytes 8620)

/-- A recorder in a state, its comparator 0 matching point 212 or nothing. -/
def recorderIn (st : RecorderState) (hits : Bool) (post postCount : Nat) : State :=
  { onPort .fPort report212 base with recorder := { base.recorder with
      state := st, post := post,
      cfg := { base.recorder.cfg with
        postCount := postCount
        comparators := base.recorder.cfg.comparators.set 0 ⟨hits, 212, 4095, 1, .above, 8500⟩ } } }

theorem wit_TakenFrameIsOffered :
    ((recorderIn .off true 0 128).port .fPort).rx = [report212] ∧
      comparatorMarks (recorderIn .armed false 0 128) report212 = [] ∧
      comparatorMarks (recorderIn .armed true 0 128) report212 = [.comparator 0] ∧
      comparatorMarks (recorderIn .frozen true 0 128) report212 ≠ [] ∧
      (recorderIn .armed false 0 128).recorder.cfg.kindSel.getLsbD (kindCode report212.kind - 1) = true ∧
      (taken .fPort report212 (recorderIn .armed false 0 128)).recorder.number = 1 ∧
      (taken .fPort report212 (recorderIn .armed true 0 1)).recorder.state = .post ∧
      (taken .fPort report212 (recorderIn .armed true 0 0)).recorder.state = .frozen ∧
      (taken .fPort report212 (recorderIn .post false 2 128)).recorder.post = 1 ∧
      (taken .fPort report212 (recorderIn .post true 1 128)).recorder.state = .frozen ∧
      (taken .fPort report212 (recorderIn .frozen true 0 128)).recorder.missed = 1 := by decide +kernel

/-- Every source of the S-port in its turn. -/
theorem wit_SPortServesInOrder :
    let s1 := { base with fwd := { base.fwd with outbox := [⟨setup [], .plain⟩] } }
    let s2 := { base with attention := { base.attention with outbox := [setup []] } }
    let s3 := { base with fwd := { base.fwd with upPass := [setup []] } }
    let s4 := { base with fwd := { base.fwd with up := (List.range 17).map (fun p => ⟨p, 0, 0, .routine⟩) } }
    base.sPort.mayBegin = true ∧ s2.part.collector ≠ 0 ∧ serveS base = base ∧
      (serveS s1).fwd.outbox = [] ∧ (serveS s2).attention.outbox = [] ∧ (serveS s3).fwd.upPass = [] ∧
      (serveS s4).fwd.up.length = 1 ∧ (serveS s4).fwd.upFrameNo = 1 ∧
      (∀ low ∈ [0, 1], (serveS { s4 with fwd := { s4.fwd with lowMark := low, thinning := true } }).fwd.thinning =
        decide (low = 0)) ∧
      ({ base.sPort with state := .down } : PortRec).mayBegin = false := by decide +kernel

/-- A trip order, a HIGH and a LOW requester with work, and none; what SUPERVISORY, DISPATCH and STEP send and remove. -/
theorem wit_FieldGrantOrder :
    let o : QueueEntry := .order 41 130 5000 3 false 0
    let s1 := { base with guard := { base.guard with trips := [⟨4, 130, 0⟩] } }
    let s2 := { base with fwd := { base.fwd with orders := [o] } }
    let s3 := { base with guard := { base.guard with steps := [⟨4, 5100, 5200⟩] } }
    let s4 := { base with dispatch := { base.dispatch with
      cfg := { base.dispatch.cfg with outputs := [10, 11, 12, 13, 130] }, slots := [⟨4, 9, true⟩, ⟨0, 1, false⟩] } }
    let packed (n : Nat) := { base with fwd := { base.fwd with
      orders := List.replicate n o ++ [.order 42 130 5000 3 false 0] } }
    let passed := { base with fwd := { base.fwd with orders := [.pass (setup []) 0, o] } }
    base.fPort.mayBegin = true ∧ serveF base = base ∧ (serveF s1).arbiter.grants.trip = 1 ∧
      ringFrom s2.arbiter.highPtr = [] ++ .supervisory :: [.dispatch, .step, .query] ∧
      s2.arbiter.level .supervisory = .high ∧ hasWork s2 .supervisory = true ∧
      (serveF s2).arbiter.highPtr = .dispatch ∧
      ringFrom s3.arbiter.lowPtr = [.supervisory, .dispatch] ++ .step :: [.query] ∧ s3.arbiter.level .step = .low ∧
      hasWork s3 .step = true ∧ (serveF s3).arbiter.lowPtr = .query ∧ (serveF s3).guard.steps = [] ∧
      (serveF s3).fPort.tx.map (·.frame.body) = some ([0, 130] ++ signedBytes 5100) ∧
      (serveF s4).dispatch.slots = [⟨0, 1, false⟩] ∧ (serveF s4).arbiter.grants.dispatch = 1 ∧
      (serveF s4).fPort.tx.map (fun x => (x.frame.dest, x.frame.src, x.frame.count)) = some (41, 20, 1) ∧
      (serveF (packed 7)).fwd.orders.length = 1 ∧ (serveF (packed 9)).fwd.orders.length = 2 ∧
      (serveF (packed 9)).arbiter.frameNo = 1 ∧ (serveF passed).fwd.orders = [o] ∧ (serveF passed).arbiter.frameNo = 0 ∧
      ({ base.fPort with state := .paused } : PortRec).mayBegin = false := by decide +kernel

/-- A query waits while an earlier order to its station is queued, and goes when none is. -/
def asked (orders : List QueueEntry) : State :=
  let e : QueryEntry :=
    { QueryEntry.freed 31 false with state := .waitingSend, origin := 3, dest := 41, point := 1023, seq := 4294967295#32 }
  { base with
    fwd := { base.fwd with orders := orders }
    arbiter := { base.arbiter with supervisory := .masked }
    query := { base.query with entries := base.query.entries.set 7 e } }

/-- Of two eligible queries the earlier accepted goes first, also where the 32-bit circle lies between them. -/
theorem wit_FieldGrantOrder_query :
    let later : QueryEntry :=
      { QueryEntry.freed 0 false with state := .waitingSend, origin := 3, dest := 42, point := 5, seq := 0 }
    let two : State := { asked [] with query := { (asked []).query with entries := (asked []).query.entries.set 0 later } }
    hasWork two .query = true ∧ ringFrom two.arbiter.lowPtr = [.supervisory, .dispatch, .step] ++ .query :: [] ∧
      two.arbiter.level .query = .low ∧ ((two.queryEntry 0).seq - (two.queryEntry 7).seq).toNat = 1 ∧
      (serveF two).fPort.tx.map (·.item) = some (.query 7 31) := by decide +kernel

theorem wit_QueryWaitsForEarlierOrders :
    (asked []).fPort.tx = none ∧
      (serveF (asked [])).fPort.tx =
        some ⟨{ dest := 41, src := 20, kind := .query, count := 1, tag := 255, body := [3, 255] }, .query 7 31⟩ ∧
      (serveF (asked [.order 41 5 0 3 false 4294967294])).fPort.tx = none ∧
      (serveF (asked [.order 255 5 0 3 false 4294967294])).fPort.tx = none ∧
      (serveF (asked [.order 41 5 0 3 false 0])).fPort.tx.isSome = true := by decide +kernel

theorem wit_SetupFrameGetsOneReply :
    Takes .sPort (setup [99, 0, 0, 0, 0, 0]) (routeSetup (setup [99, 0, 0, 0, 0, 0]))
      (onPort .sPort (setup [99, 0, 0, 0, 0, 0]) base) := takes_of (by decide +kernel)

/-! ### Attention -/

theorem wit_RaisedFlagRisesOnce :
    let full : State := { base with attention := { base.attention with outbox := List.replicate 16 (setup []) } }
    let set : State := base.modFlag 19 (fun r => { r with isSet := true })
    let off : State := base.modFlag 19 (fun r => { r with enable := false })
    base.attention.flags.length = flagCount ∧ (base.flag Flag.pointStale.index).isSet = false ∧
      (base.flag Flag.pointStale.index).enable = true ∧ base.part.collector ≠ 0 ∧ base.attention.outbox.length < 16 ∧
      (set.flag Flag.pointStale.index).isSet = true ∧ (off.flag Flag.pointStale.index).enable = false ∧
      16 ≤ full.attention.outbox.length ∧ (raiseFlag .pointStale full).attention.overflow = true ∧
      (raiseFlag .pointStale base).attention.outbox.map (·.body.take 2) = [[19, 0]] := by decide +kernel

theorem wit_ConditionFlagFollows :
    base.attention.flags.length = flagCount ∧ (base.flag Flag.timeUnset.index).cond = true ∧
      (base.flag Flag.thinning.index).cond = false ∧
      ((setCondition .timeUnset false base).flag 12).isSet = false := by decide +kernel

/-! ### Segment ports -/

/-- The smallest and the largest frame of R208. -/
theorem wit_FrameSurvivesTheLine :
    (⟨0, 1, .query, 1, 0, [0, 0]⟩ : Frame).wf = true ∧ (⟨255, 255, .report, 16, 255, List.replicate 96 255⟩ : Frame).wf = true :=
  by decide +kernel

/-- A frame whose check sequence agrees is stored; one whose start came before a restart is not. -/
theorem wit_GoodFrameIsStored :
    base.held = false ∧ checkFrame false (frameBytes (fromS 20 .query 1 [0, 100])) = .good (fromS 20 .query 1 [0, 100]) ∧
      (base.port .sPort).rx.length < 16 ∧ (base.port .sPort).receiving ≠ .discarding ∧
      ((ran (.frameReceived .sPort false (frameBytes (fromS 20 .query 1 [0, 100]))) base).sPort.rx.length) = 1 ∧
      (let cut := restartPort .sPort none (ran (.symbolReceived .sPort .startDelimiter) base)
       let t := ran (.frameReceived .sPort false (frameBytes (fromS 20 .query 1 [0, 100]))) cut
       cut.sPort.receiving = .discarding ∧ t.sPort.rx = [] ∧ t.sPort.counters.framesReceived = 0 ∧
         t.sPort.receiving = .none) := by decide +kernel

theorem wit_BadOrSurplusFrameIsDropped :
    let full : State := { base with
      sPort := { base.sPort with rx := List.replicate 16 (setup []) }, recorder := { base.recorder with state := .armed } }
    let good := frameBytes (fromS 20 .query 1 [0, 100])
    checkFrame true good = .fcsError ∧ checkFrame false (good.set 5 0) = .fcsError ∧
      checkFrame false (let hb := headerAndBody (fromS 20 .query 1 [0]); hb ++ bytesOf 2 (fcsOf hb)) = .lengthError ∧
      checkFrame false (frameBytes ⟨20, 0, .query, 1, 7, [0, 0]⟩) = .kindError ∧
      checkFrame false good = .good (fromS 20 .query 1 [0, 100]) ∧ full.held = false ∧ 16 ≤ (full.port .sPort).rx.length ∧
      full.recorder.state = .armed ∧ full.recorder.cfg.sources.getLsbD 2 = true ∧ (full.port .sPort).overrun = false ∧
      (full.port .sPort).receiving ≠ .discarding ∧ full.attention.flags.length = flagCount ∧
      (full.flag (overrunFlag .sPort).index).cond = false ∧
      ((ran (.frameReceived .sPort false good) full).sPort.overrun) = true ∧
      ((ran (.frameReceived .sPort false good) full).flag (overrunFlag .sPort).index).isSet = true := by decide +kernel

/-- The order of the receive checks: check sequence, kind and count, length, source (R166), with ORDER counts 8 and 9. -/
theorem wit_BadOrSurplusFrameIsDropped_checks :
    let sealed (hb : List Byte) : Checked := checkFrame false (hb ++ bytesOf 2 (fcsOf hb))
    checkFrame false [20, 3, 0x30, 7, 0] = .fcsError ∧ checkFrame false [20, 0, 0, 7, 0, 0, 0] = .fcsError ∧
      sealed [20, 0, 0x00, 7] = .kindError ∧ sealed [20, 0, 0x80, 7] = .kindError ∧ sealed [20, 0, 0x31, 7] = .kindError ∧
      sealed ([20, 3, 0x28, 7] ++ List.replicate 54 0) = .kindError ∧ sealed [20, 0, 0x30, 7] = .lengthError ∧
      sealed [20, 0, 0x30, 7, 0, 0] = .kindError ∧
      sealed ([20, 3, 0x27, 7] ++ List.replicate 48 0) = .good (fromS 20 .order 8 (List.replicate 48 0)) := by decide +kernel

theorem wit_SymbolIsReceived :
    base.held = false ∧ (ran (.symbolReceived .fPort .startDelimiter) base).fPort.receiving = .inFrame ∧
      (ran (.symbolReceived .fPort .idle) (ran (.symbolReceived .fPort .startDelimiter) base)).fPort.counters.fcsError = 1 ∧
      (ran (.resumeReceived .fPort) (ran (.pauseReceived .fPort) base)).fPort.state = .active := by decide +kernel

theorem wit_PauseAndLinkTimersExpire :
    base.held = false ∧ ((ran (.pauseReceived .sPort) base).port .sPort).pauseTimer = some 20 ∧
      (ran (.pauseTimerExpiry .sPort) { ran (.pauseReceived .sPort) base with now := 20 }).sPort.state = .active ∧
      (ran (.pauseTimerExpiry .sPort) { ran (.pauseReceived .sPort) base with now := 19 }).sPort.state = .paused ∧
      (base.port .fPort).linkTimer = some 2 ∧ base.attention.flags.length = flagCount ∧
      (ran (.linkDownExpiry .fPort) { base with now := 2 }).fPort.state = .down ∧
      (ran (.linkDownExpiry .fPort) { base with now := 1 }).fPort.state = .active ∧
      (ran (.linkDownExpiry .fPort) { ran (.symbolReceived .fPort .startDelimiter) base with now := 2 }).fPort.counters =
        { base.fPort.counters with fcsError := 1, linkDown := 1 } := by decide +kernel

theorem wit_FrameCompletes :
    let s (i : SentItem) : State := { base with sPort := { base.sPort with tx := some ⟨setup [], i⟩ } }
    base.held = false ∧ ((s .plain).port .sPort).tx = some ⟨setup [], .plain⟩ ∧
      ((s (.trip ⟨4, 130, 0⟩)).port .sPort).tx = some ⟨setup [], .trip ⟨4, 130, 0⟩⟩ ∧
      ((s (.query 7 0)).port .sPort).tx = some ⟨setup [], .query 7 0⟩ ∧ ((s (.query 7 0)).queryEntry 7).gen = 0 ∧
      (ran (.frameCompletes .sPort) (s .plain)).sPort.counters.framesSent = 1 := by decide +kernel

theorem wit_ResetTakesEffect :
    let s : State := { base with
      part := { base.part with lock := true }, sPort := { base.sPort with tx := some ⟨setup [], .resetDone⟩ } }
    s.held = false ∧ (s.port .sPort).tx = some ⟨setup [], .resetDone⟩ ∧
      s.emission.channels.length = Config.channels ∧
      (ran (.frameCompletes .sPort) s).part.lock = true ∧ (ran (.frameCompletes .sPort) s).part.collector = 0 := by
  decide +kernel

/-- R196: strap values 0 and 255 are clamped to station 254. -/
theorem test_power_on_clamps_straps :
    (ran (.powerOn 0) base).part.station = 254 ∧ (ran (.powerOn 255) base).part.station = 254 ∧
      (ran (.powerOn 254) base).part.station = 254 ∧ (ran (.powerOn 1) base).part.station = 1 ∧
      (ran .powerOnReset base).held = true := by decide +kernel

/-- The published check values of the two generator polynomials for the text "123456789". -/
theorem test_check_sequences :
    fcsOf ([49, 50, 51, 52, 53, 54, 55, 56, 57].map byteOf) = 0x29B1 ∧
      crc32 ([49, 50, 51, 52, 53, 54, 55, 56, 57].map byteOf) = 0xFC891918 := by decide +kernel

/-! ### Forwarding -/

/-- One frame for each line of the routing tables. -/
theorem wit_FramesAreRouted :
    fieldSide base 79 = true ∧ fieldSide base 80 = false ∧ fieldSide base 39 = false ∧
      route .sPort base (fromF 20 .order 1 []) = .sPortFrameDropped (fromF 20 .order 1 []) ∧
      route .sPort base { fromS 50 .order 1 [] with src := 255 } =
        .sPortFrameDropped { fromS 50 .order 1 [] with src := 255 } ∧
      route .sPort base { fromS 50 .order 1 [] with src := 20 } = .addressConflict .sPort { fromS 50 .order 1 [] with src := 20 } ∧
      route .sPort base (fromS 20 .report 1 []) = .sPortFrameDropped (fromS 20 .report 1 []) ∧
      route .sPort base (fromS 255 .query 1 []) = .sPortFrameDropped (fromS 255 .query 1 []) ∧
      route .sPort base (fromS 255 .notice 1 []) = .passThroughEntry (fromS 255 .notice 1 []) ∧
      route .sPort base (fromS 79 .query 1 []) = .supervisoryQuery (fromS 79 .query 1 []) ∧
      route .sPort base (fromS 80 .order 1 []) = .sPortFrameDropped (fromS 80 .order 1 []) ∧
      route .fPort base (fromS 3 .report 1 []) = .fieldFrameDropped (fromS 3 .report 1 []) ∧
      route .fPort base (fromF 20 .report 1 []) = .fieldReport (fromF 20 .report 1 []) ∧
      route .fPort base (fromF 20 .answer 1 []) = .fieldAnswer (fromF 20 .answer 1 []) ∧
      route .fPort base (fromF 20 .setup 1 []) = .fieldFrameDropped (fromF 20 .setup 1 []) ∧
      route .fPort base (fromF 0 .answer 1 []) = .fieldFrameDropped (fromF 0 .answer 1 []) ∧
      route .fPort base (fromF 255 .status 1 []) = .upPassThrough (fromF 255 .status 1 []) := by decide +kernel

/-- The dispatch unit in each of its states. -/
def inState (st : DispatchState) (s : State) : State := { s with dispatch := { s.dispatch with state := st } }

theorem wit_AddressConflictHoldsDispatch :
    let f : Frame := { fromS 50 .order 1 [0, 130, 0, 0, 0, 0] with src := 20 }
    (∀ st, Takes .sPort f (.addressConflict .sPort f) (onPort .sPort f (inState st base))) ∧
      base.attention.flags.length = flagCount ∧
      (ran (.addressConflict .sPort f) (onPort .sPort f (inState .run base))).dispatch.cause = some .conflict := by
  refine ⟨fun st => takes_of (by cases st <;> decide +kernel), by decide +kernel, by decide +kernel⟩

/-- A frame of every dropped sort, at the ends of the windows. -/
theorem wit_DroppedFramesAreCounted :
    let s (f : Frame) : State := onPort .sPort f base
    let u (f : Frame) : State := onPort .fPort f base
    (∀ f ∈ [{ fromS 50 .notice 1 [] with src := 79 }, { fromS 50 .notice 1 [] with src := 255 }, fromS 20 .notice 1 [],
        fromS 255 .query 1 [], fromS 80 .order 1 []], canTake .sPort f (.sPortFrameDropped f) (s f) = true) ∧
      (∀ f ∈ [{ fromF 20 .notice 1 [] with src := 80 }, fromF 20 .notice 1 [], fromF 0 .notice 1 [], fromF 40 .notice 1 []],
        canTake .fPort f (.fieldFrameDropped f) (u f) = true) ∧
      (ran (.sPortFrameDropped (fromS 80 .order 1 [])) (s (fromS 80 .order 1 []))).fwd.counters.misroute = 1 ∧
      ran (.fieldFrameDropped (fromF 40 .notice 1 [])) (u (fromF 40 .notice 1 [])) = base := by decide +kernel

/-- R13: an entry below the order range is raised to its low end; another owner's point and an unconfigured one are
refused. The idle S-port begins the point's REPORT at once, and the STATUS waits in the outbox. -/
theorem wit_OrderToPartWritesPoints :
    let f := fromS 20 .order 3
      (pointWord 0 100 ++ signedBytes (-5) ++ pointWord 0 130 ++ signedBytes 1 ++ pointWord 0 1023 ++ signedBytes 1)
    let t := ran (.orderToPart f) (onPort .sPort f base)
    Takes .sPort f (.orderToPart f) (onPort .sPort f base) ∧
      (base.point 100).configured = true ∧ (base.point 100).owner = .self ∧ (base.point 130).owner = .station 41 ∧
      (base.point 1023).configured = false ∧ (t.point 100).value = 0 ∧
      t.sPort.tx.map (·.frame.kind) = some .report ∧
      t.fwd.outbox.map (·.frame.body) = [[0, 130, 5, 0, 0, 0] ++ [3, 255, 13, 0, 0, 0]] := by
  refine ⟨takes_of (by decide +kernel), ?_⟩
  decide +kernel

theorem wit_QueryToPartIsAnswered :
    let f := fromS 20 .query 1 [0, 100]
    let g := fromS 20 .query 1 [15, 255]
    Takes .sPort f (.queryToPart f) (onPort .sPort f base) ∧ Takes .sPort g (.queryToPart g) (onPort .sPort g base) ∧
      (queryPoint f < 1024 ∧ (base.point (queryPoint f)).configured = true) ∧ ¬queryPoint g < 1024 ∧
      (ran (.queryToPart f) (onPort .sPort f base)).sPort.tx.map (·.frame.body) = some [0, 100, 0, 0, 0, 7, 0] := by
  refine ⟨takes_of (by decide +kernel), takes_of (by decide +kernel), ?_⟩
  decide +kernel

/-- A part whose order queue holds `n` orders, its F-port DOWN. -/
def queued (n : Nat) (s : State) : State :=
  { s with fPort := { s.fPort with state := .down }, fwd := { s.fwd with orders := (List.range n).map (fun i => .order 42 i 0 3 false (BitVec.ofNat 32 i)) } }

/-- An ORDER of two entries for station 41: point 130 guarded, point 213 owned by station 42. -/
def twoOrders : Frame := fromS 41 .order 2 (pointWord 0 130 ++ signedBytes 4000 ++ pointWord 0 213 ++ signedBytes 1)

theorem wit_OrderFrameIsAccepted :
    Takes .sPort twoOrders (.orderFrameAcceptance twoOrders) (onPort .sPort twoOrders (queued 31 base)) ∧
      Takes .sPort twoOrders (.orderFrameAcceptance twoOrders) (onPort .sPort twoOrders (queued 30 base)) ∧
      (taken .sPort twoOrders (onPort .sPort twoOrders (queued 31 base))).fwd.orders.length + twoOrders.count = 33 ∧
      (taken .sPort twoOrders (onPort .sPort twoOrders (queued 30 base))).fwd.orders.length + twoOrders.count = 32 ∧
      (base.point 213).owner = .station 42 ∧
      (∀ i < 96, ¬((base.guardRec i).configured = true ∧ (base.guardRec i).point = 500)) ∧
      ((base.guardRec 4).configured = true ∧ (base.guardRec 4).point = 130 ∧
        ∀ j < 4, ¬((base.guardRec j).configured = true ∧ (base.guardRec j).point = 130)) ∧
      (judgeOrderEntry twoOrders (130, 4000) base).1 = some .held ∧
      (judgeOrderEntry twoOrders (130, 4000) live).1 = none ∧
      (judgeOrderEntry twoOrders (500, 4000) base).2.fwd.acceptance = 1 ∧
      (let kept : State := { base with recorder := { base.recorder with state := .armed } }
       (recordBusy twoOrders kept).recorder.buffer.map (·.outcome) = [some .busy]) ∧
      (judgeOrderEntry twoOrders (500, 4000) base).2.fPort.tx.isSome = true := by
  refine ⟨takes_of (by decide +kernel), takes_of (by decide +kernel), ?_⟩
  decide +kernel

theorem wit_PassedFramesQueueUnchanged :
    let f := fromS 41 .notice 1 [1, 2, 3, 4, 5, 6]
    let g := fromF 3 .status 1 [1, 2, 3, 4, 5, 6]
    let up (n : Nat) : State := { base with
      sPort := { base.sPort with state := .down }, fwd := { base.fwd with upPass := List.replicate n g } }
    Takes .sPort f (.passThroughEntry f) (onPort .sPort f (queued 31 base)) ∧
      Takes .sPort f (.passThroughEntry f) (onPort .sPort f (queued 32 base)) ∧
      Takes .fPort g (.upPassThrough g) (onPort .fPort g (up 7)) ∧
      Takes .fPort g (.upPassThrough g) (onPort .fPort g (up 8)) ∧
      (taken .sPort f (onPort .sPort f (queued 31 base))).fwd.orders.length < 32 ∧
      32 ≤ (taken .sPort f (onPort .sPort f (queued 32 base))).fwd.orders.length ∧
      (taken .fPort g (onPort .fPort g (up 7))).fwd.upPass.length < 8 ∧
      8 ≤ (taken .fPort g (onPort .fPort g (up 8))).fwd.upPass.length ∧
      (ran (.upPassThrough g) (onPort .fPort g (up 8))).fwd.counters.upPassDrop = 1 := by
  refine ⟨takes_of (by decide +kernel), takes_of (by decide +kernel), takes_of (by decide +kernel),
    takes_of (by decide +kernel), ?_⟩
  decide +kernel

/-- The query table with its eight entries in a state, asked by station 3 for point 100 of station 41 under tag 7. -/
def allQueries (st : QueryState) (tag : Nat) : State :=
  let e : QueryEntry := { QueryEntry.freed 31 false with
    state := st, origin := 3, dest := 41, point := 100, tag := tag, answer := some ⟨100, 0, 5, 0⟩,
    answerTimer := some 100, discardTimer := some 2000 }
  { base with query := { base.query with entries := List.replicate 8 e } }

theorem wit_SupervisoryQueryIsTaken :
    let f := fromS 41 .query 1 [0, 100]
    (∀ st, Takes .sPort f (.supervisoryQuery f) (onPort .sPort f (allQueries st 7))) ∧
      Takes .sPort f (.supervisoryQuery f) (onPort .sPort f (allQueries .sent 8)) ∧
      (allQueries .sent 7).query.entries.length = 8 ∧
      ((allQueries .sent 7).queryEntry 0).hasKey f = true ∧
      ((allQueries .sent 8).queryEntry 7).hasKey f = false ∧ ((allQueries .free 7).queryEntry 0).state = .free ∧
      ((ran (.supervisoryQuery f) (onPort .sPort f (allQueries .free 7))).queryEntry 0).gen = 0 ∧
      ((ran (.supervisoryQuery f) (onPort .sPort f (allQueries .done 7))).queryEntry 0).state = .free ∧
      (ran (.supervisoryQuery f) (onPort .sPort f (allQueries .sent 8))).query.counters.queryBusy = 1 := by
  refine ⟨fun st => takes_of (by cases st <;> decide +kernel), takes_of (by decide +kernel), ?_⟩
  decide +kernel

/-- R6 and R7: station 41's own point is updated, station 42's is counted as foreign. R31 to R33: an entry coalesces, is
refused in THINNING and at a full queue, is lost, joins the queue, and begins THINNING at the high watermark. -/
theorem wit_FieldReportUpdatesPoints :
    let f := fromF 3 .report 2 (pointWord 1 212 ++ signedBytes 8620 ++ pointWord 0 213 ++ signedBytes 1)
    let t := ran (.fieldReport f) (onPort .fPort f base)
    let up (n : Nat) (thin : Bool) : State := { base with fwd := { base.fwd with
      up := (List.range n).map (fun p => ⟨p, 0, 0, .routine⟩), thinning := thin, highMark := 96 } }
    Takes .fPort f (.fieldReport f) (onPort .fPort f base) ∧ (base.point 212).configured = true ∧
      (handUpstream ⟨0, 5, 0, .essential⟩ (up 128 false)).fwd.up.head?.map (·.value) = some 5 ∧
      (handUpstream ⟨500, 5, 0, .routine⟩ (up 1 true)).fwd.counters.thinningRefusal = 1 ∧
      (handUpstream ⟨500, 5, 0, .routine⟩ (up 128 false)).fwd.counters.thinningRefusal = 1 ∧
      ((handUpstream ⟨500, 5, 0, .essential⟩ (up 128 true)).flag Flag.upstreamLoss.index).isSet = true ∧
      (handUpstream ⟨500, 5, 0, .routine⟩ (up 94 false)).fwd.thinning = false ∧
      (handUpstream ⟨500, 5, 0, .routine⟩ (up 95 false)).fwd.thinning = true ∧
      (base.point 212).owner = .station 41 ∧ (base.point 213).owner ≠ .station 41 ∧ (base.point 1023).configured = false ∧
      (t.point 212).value = 8620 ∧ (t.point 212).quality = .uncertain ∧ (t.point 212).timer = some 2000 ∧
      (t.point 213).foreign = 1 := by
  refine ⟨takes_of (by decide +kernel), ?_⟩
  decide +kernel

/-- Tag 255 names entry 7 under generation 31. -/
theorem wit_FieldAnswerCompletesItsQuery :
    let f : Frame := { fromF 20 .answer 1 (pointWord 0 100 ++ signedBytes 2317 ++ [0]) with tag := 255 }
    Takes .fPort f (.fieldAnswer f) (onPort .fPort f (allQueries .sent 7)) ∧
      Takes .fPort f (.fieldAnswer f) (onPort .fPort f (allQueries .done 7)) ∧
      ((allQueries .sent 7).queryEntry (255 / 32)).gen = 255 % 32 ∧
      ((ran (.fieldAnswer f) (onPort .fPort f (allQueries .sent 7))).queryEntry 7).state = .done ∧
      (ran (.fieldAnswer f) (onPort .fPort f (allQueries .done 7))).query.counters.lateAnswer = 1 := by
  refine ⟨takes_of (by decide +kernel), takes_of (by decide +kernel), ?_⟩
  decide +kernel

/-! ### Timers and the plant clock -/

theorem wit_FreshnessExpires :
    base.held = false ∧ (base.point 100).timer = some 2000 ∧ (base.point 212).cls = .essential ∧
      (base.point 212).timer = some 2000 ∧ base.attention.flags.length = flagCount ∧ (base.point 100).owner = .self ∧
      (base.point 100).fresh = .fresh ∧ (base.point 100).quality ≠ .stale ∧ base.fwd.thinning = false ∧
      publishes base.emission.plan base.dispatch.cfg 100 = false ∧
      (ran (.freshnessExpiry 100) { base with now := 2000 }).sPort.tx.map (·.frame.body) = some [48, 100, 0, 0, 0, 7] ∧
      (ran (.freshnessExpiry 100) { base with now := 1999 }).sPort.tx = none := by decide +kernel

theorem wit_QueryTimersExpire :
    let s (n : Nat) : State := { allQueries .sent 7 with query := { (allQueries .sent 7).query with
      entries := (allQueries .sent 7).query.entries.map (fun e => { e with attempts := n }) } }
    (s 3).held = false ∧ ((s 3).queryEntry 7).answerTimer = some 100 ∧ ((s 3).queryEntry 7).discardTimer = some 2000 ∧
      ((s 3).queryEntry 7).attempts < (s 3).query.attemptLimit ∧ (s 4).query.attemptLimit ≤ ((s 4).queryEntry 7).attempts ∧
      ((ran (.answerTimerExpiry 7) { s 4 with now := 100 }).queryEntry 7).state = .failed ∧
      ((ran (.answerTimerExpiry 7) { s 3 with now := 100 }).queryEntry 7).state = .waitingSend ∧
      ((ran (.discardTimerExpiry 7) { s 4 with now := 2000 }).queryEntry 7).gen = 31 := by decide +kernel

/-- Guard record 4 in RUN with a target, an issued value and its ramp timer. -/
def ramping (rate : Nat) (target issued : Value) : State :=
  { live with now := 100 }.modGuard 4 (fun g => { g with
    rate := rate, step := rate * 100 / 1000, target := some target, issued := some issued, lastIssue := some 0,
    rampTimer := some 100 })

/-- R80 and R81: a step of 50 from 4000 toward 4030 lands on 4030; the restricted range is not in force. -/
theorem wit_RampTimerIssuesAStep :
    (ramping 500 4030 4000).held = false ∧ ((ramping 500 4030 4000).guardRec 4).rampTimer = some 100 ∧
      ((ramping 500 4030 4000).guardRec 4).configured = true ∧ (ramping 500 4030 4000).part.state = .run ∧
      ((ran (.rampTimerExpiry 4) (ramping 500 4030 4000)).guardRec 4).issued = some 4030 ∧
      ((ran (.rampTimerExpiry 4) (ramping 500 4100 4000)).guardRec 4).issued = some 4050 ∧
      ((ran (.rampTimerExpiry 4) (ramping 500 4000 4000)).guardRec 4).rampTimer = none := by decide +kernel

/-- A channel of line A that is OPEN in a period, with one sample of 5000. -/
def openChannel (day index : Nat) : Channel :=
  { Channel.powerOn with
    cfg := { ChannelCfg.powerOn with configured := true, pollutant := 212, o2 := 213, halfLimit := 4000, enforcing := true }
    run := { ChannelRun.idle 3000 0 0 with
      opened := true, day := day, index := index, valid := 1, sum := 5000, minmax := some (5000, 5000), operated := true,
      accDay := day } }

/-- The part in RUN with channel 15 OPEN in a period that the clock stands in, one millisecond before its end. -/
def measuring (day index : Nat) : State :=
  { live with
    clock := { day := day, ms := (index + 1) * 1800000 - 1, unset := false, handed := (day, index) }
    emission := { live.emission with
      lineA := { LineRec.powerOn with configured := true, opPoint := 100 }
      channels := live.emission.channels.set 15 (openChannel day index) } }

/-- The same part with the clock at the end of that period, whose boundary is not handed yet. -/
def atBoundary (day index next ms : Nat) : State :=
  { measuring day index with clock := { (measuring day index).clock with day := next, ms := ms } }

/-- The boundary of half-hour 47 closes the half-hour, over its limit, and the day; the line enters RESTRICT. A
millisecond earlier it is not handed. -/
theorem wit_PeriodBoundaryClosesHalfHours :
    let s := atBoundary 65535 47 0 0
    let t := ran .periodBoundary s
    (s.clock.day, s.clock.ms / 1800000) ≠ s.clock.handed ∧
    s.held = false ∧ s.emission.channels.length = Config.channels ∧ s.attention.flags.length = flagCount ∧
      publishes s.emission s.dispatch.cfg (s.line .a).opPoint = false ∧
      publishes s.emission s.dispatch.cfg (s.line .b).opPoint = false ∧
      (∀ c < 16, (base.channel c).run.opened = false) ∧ (s.channel 15).run.opened = true ∧
      (s.channel 15).cfg.exceptions = false ∧ (s.channel 0).run.opened = false ∧ (s.line .a).configured = true ∧
      (∀ c < 16, (s.channel c).run.opened = false → (s.channel c).run.warn = false) ∧
      t.clock.handed = (0, 0) ∧ t.now = s.now ∧ (t.line .a).state = .restrict ∧
      (t.channel 15).half.map (fun r => (r.status, r.average, r.exceeded)) = [(.valid, some 5000, true)] ∧
      (t.channel 15).days.map (fun d => (d.status, d.average)) = [(.valid, some 5000)] ∧
      (ran .periodBoundary (atBoundary 5 0 5 1800000)).clock.handed = (5, 1) ∧
      (ran .periodBoundary (measuring 5 0)).clock.handed = (5, 0) := by decide +kernel

/-- R109 in mode EXCEPTIONS: a VALID half-hour at the limit raises no PERIOD-CLOSED, one over it or INVALID does; only
midnight raises DAY-CLOSED. -/
theorem wit_PeriodBoundaryClosesHalfHours_exceptions :
    let s (limit need : Nat) : State := (atBoundary 5 0 5 1800000).modChannel 15 (fun c => { c with
      cfg := { c.cfg with exceptions := true, halfLimit := limit, minValid := need } })
    let closed (t : State) : Bool × Bool × Bool := ((t.flag 22).isSet, (t.flag 23).isSet, (t.flag 24).isSet)
    closed (ran .periodBoundary (s 5000 1)) = (false, false, false) ∧
      closed (ran .periodBoundary (s 4999 1)) = (true, false, false) ∧
      closed (ran .periodBoundary (s 5000 2)) = (true, false, false) ∧
      closed (ran .periodBoundary (atBoundary 5 47 6 0)) = (true, false, true) := by decide +kernel

/-- The worked example of chapter 7's NORMAL cycle. -/
def dispatching : State :=
  let out (p : Nat) (v : Value) (rate : Nat) : GuardRec := { GuardRec.blank with
    configured := true, point := p, owner := .dispatch, high := 100000, rhigh := 100000, issued := some v, target := some v,
    rate := rate, step := rate * 100 / 1000 }
  { live with
    points := [10, 11, 12, 13, 14].foldl (fun ps p => ps.set p (pt (.station 46) 0)) ((((((((live.points.set 601 (pt (.station 46) 5200)).set 602 (pt (.station 47) 4800)).set 603
      (pt (.station 47) 0)).set 640 (pt .self 19200)).set 641 (pt .self 15000)).set 643 (pt .self 0)).set 644
      (pt .self 0)).set 645 (pt .self 0))
    guard := { live.guard with
      recs := [out 10 6800 50, out 11 3000 0, out 12 3200 0, out 13 3600 0, out 14 3600 0] ++ List.replicate 91 .blank }
    emission := { live.emission with
      lineA := { LineRec.powerOn with configured := true, opPoint := 100 }
      lineB := { LineRec.powerOn with configured := true, opPoint := 100 } }
    dispatch := { live.dispatch with
      cfg := { DispatchCfg.powerOn with
        configured := true, fa := 601, fb := 602, trip := 603, heat := 640, grid := 641, outputs := [10, 11, 12, 13, 14],
        steamPoint := some 644, powerPoint := some 643, statePoint := some 645, turbineMin := 2500, turbineMax := 9000,
        extMax := 6000, kq := 640, ke := 260, kx := 140, lineA := ⟨3000, 6000, 80, 4000⟩, lineB := ⟨3000, 6000, 80, 3500⟩ }
      oper := { DispatchOper.powerOn with deadbands := [50, 50, 50, 10, 10] }
      state := .run, enable := true, timer := some 1000
      lastOrdered := [some 6800, some 3000, some 3200, some 3600, some 3600], fa := ⟨some 5200, .usable, some 5000⟩
      fb := ⟨some 4800, .usable, none⟩, trip := ⟨some 0, .usable, none⟩, tripSeen := some 0, heat := some 19200
      grid := some 15000 } }

/-- The expiry in RUN and STOPPED; a wake that finds the input's point usable, BAD while USABLE, and BAD while
HOLDING; one that changes the trip value. -/
theorem wit_InputHoldExpiryHoldsDispatch :
    let late : State := { dispatching with now := 5000 }
    let stopped := inState .stopped late
    let bad := dispatching.modPoint 601 (fun r => { r with quality := .bad })
    let again : State := { wakeDispatch 601 bad with now := 9 }
    let trip := dispatching.modPoint 603 (fun r => { r with value := 1 })
    ({ dispatching with dispatch := { dispatching.dispatch with
        cfg := { dispatching.dispatch.cfg with configured := false } } }).dispatch.cfg.configured = false ∧
      dispatching.dispatch.cfg.configured = true ∧
      (wakeDispatch 601 dispatching).dispatch.fa = ⟨some 5200, .usable, none⟩ ∧
      (wakeDispatch 601 bad).dispatch.fa = ⟨some 5200, .holding, some dispatching.dispatch.oper.holdLimit⟩ ∧
      (wakeDispatch 601 again).dispatch.fa = (wakeDispatch 601 bad).dispatch.fa ∧
      (wakeDispatch 603 trip).dispatch.owed = true ∧ (wakeDispatch 603 dispatching).dispatch.owed = false ∧
      ((wakeDispatch 603 trip).flag Flag.turbineTrip.index).isSet = true ∧
      dispatching.held = false ∧ (dispatching.dispatch.input .fa).timer = some 5000 ∧
      publishes dispatching.emission.plan dispatching.dispatch.cfg (dispatching.dispatch.cfg.inputPoint .fa) = false ∧
      dispatching.dispatch.state = .run ∧ stopped.dispatch.state ≠ .run ∧
      5000 ≤ late.now ∧ (ran (.inputHoldExpiry .fa) late).dispatch.state = .hold ∧
      (ran (.inputHoldExpiry .fa) stopped).dispatch.state = .stopped := by decide +kernel

theorem wit_CycleTimerRunsOneCycle :
    let due : State := { dispatching with now := 1000 }
    let waiting : State := { due with dispatch := { due.dispatch with state := .hold, cause := some .input } }
    let silent : State := { due with dispatch := { due.dispatch with
      cfg := { due.dispatch.cfg with steamPoint := none, powerPoint := none, statePoint := none } } }
    let t := ran .cycleTimerExpiry due
    dispatching.held = false ∧ dispatching.dispatch.timer = some 1000 ∧ dispatching.dispatch.owed = false ∧
      publishes dispatching.emission.plan dispatching.dispatch.cfg dispatching.dispatch.cfg.trip = false ∧
      dispatching.dispatch.state = .run ∧ waiting.dispatch.cause = some .input ∧
      (inState .stopped dispatching).dispatch.state = .stopped ∧
      dispatching.dispatch.cfg.steamPoint = some 644 ∧ 645 < dispatching.points.length ∧
      (t.point 644).value = 10000 ∧ (t.point 645).value = 1 ∧
      t.dispatch.record.map (fun r => (r.turbine, r.extraction, r.condensing, r.bypass)) =
        some (6900, 3000, 3900, 3100) ∧
      t.dispatch.record.map (fun r => (r.power, r.lineA.target, r.lineB.target)) = some (14340, 3577, 3577) ∧
      (ran .cycleTimerExpiry waiting).dispatch.state = .run ∧
      (ran .cycleTimerExpiry silent).fPort.tx.map (·.frame.body) = some (pointWord 0 10 ++ signedBytes 6805) ∧
      (ran .cycleTimerExpiry silent).dispatch.slots = [⟨2, 3100, false⟩, ⟨3, 3577, false⟩, ⟨4, 3577, false⟩] := by decide +kernel

/-! ### Setup -/

/-- A WRITE of one item to a table and index. -/
def write1 (table index group offset value : Nat) : Frame :=
  setup ([0, byteOf table] ++ bytesOf 2 index ++ [1, 0, byteOf group, byteOf offset] ++ bytesOf 4 value)

/-- The status code that the reply to a SETUP frame carries. -/
def answered (c : Frame → Instr) (f : Frame) (s : State) : Option Byte :=
  ((ran (c f) (onPort .sPort f s)).sPort.tx.bind (fun snd => snd.frame.body[2]?))

/-- WRITE's checks in their order: each of these fails at the check named and passes those before it. -/
theorem wit_WriteChecksInOrder :
    let locked : State := { base with part := { base.part with lock := true } }
    (∀ f ∈ [write1 2 0 0 1 40, setup [77, 0, 0, 0, 0, 0], write1 21 0 0 0 0, write1 2 4 0 0 0, write1 5 0 4 0 0,
        write1 12 0 0 0 0, write1 0 0 0 9 1, write1 6 1 0 0 1, setup [0, 2, 0, 0, 2, 0], setup [0, 2, 0, 0, 0, 0],
        write1 2 0 0 3 0], canTake .sPort f (.write f) (onPort .sPort f base) = true) ∧
      answered .write (setup [77, 0, 0, 0, 0, 0]) base = some 10 ∧ answered .write (write1 21 0 0 0 0) base = some 8 ∧
      answered .write (write1 2 4 0 0 0) base = some 9 ∧ answered .write (write1 5 0 4 0 0) base = some 9 ∧
      answered .write (write1 12 0 0 0 0) base = some 6 ∧ answered .write (write1 0 0 0 9 1) base = some 6 ∧
      answered .write (write1 2 0 0 1 40) live = some 6 ∧ answered .write (write1 8 0 2 13 1) live = some 0 ∧
      answered .write (write1 8 0 2 12 1) live = some 6 ∧ answered .write (write1 6 1 0 0 1) locked = some 7 ∧
      answered .write (setup [0, 2, 0, 0, 2, 0]) base = some 10 ∧ answered .write (setup [0, 2, 0, 0, 0, 0]) base = some 0 ∧
      answered .write (write1 2 0 0 3 0) base = some 10 ∧ answered .write (write1 2 3 0 1 40) base = some 0 := by
  decide +kernel

theorem wit_WriteStoresSettings :
    base.fwd.windows.length = 4 ∧
      (writeTable .window 3 [⟨0, 0, 1⟩, ⟨0, 1, 1⟩, ⟨0, 2, 254⟩] base).isSome = true ∧
      writeTable .window 3 [⟨0, 0, 1⟩, ⟨0, 1, 1⟩, ⟨0, 2, 255⟩] base = none ∧
      writeTable .part 0 [⟨0, 8, 255⟩] base = none ∧
      (writeTable .upstream 0 [⟨0, 0, 16⟩, ⟨0, 1, 15⟩] base).isSome = true ∧
      writeTable .upstream 0 [⟨0, 0, 16⟩, ⟨0, 1, 16⟩] base = none ∧
      (writeTable .attention 12 [⟨0, 4, 0⟩] base).isSome = true ∧ writeTable .attention 13 [⟨0, 4, 0⟩] base = none ∧
      (writeTable .attention 24 [⟨0, 2, 1⟩] base).isSome = true ∧ writeTable .attention 24 [⟨0, 2, 2⟩] base = none ∧
      (writeTable .recorderConfig 4 [⟨0, 0, 127⟩, ⟨0, 1, 7⟩, ⟨0, 2, 255⟩, ⟨0, 3, 1⟩, ⟨0, 4, 15⟩] base).map
        (fun u => (u.recorder.table.postCount, u.recorder.cfg.postCount)) = some (255, 128) ∧
      writeTable .recorderConfig 4 [⟨0, 0, 128⟩, ⟨0, 1, 7⟩, ⟨0, 2, 255⟩, ⟨0, 3, 1⟩, ⟨0, 4, 15⟩] base = none ∧
      (writeTable .recorderConfig 3 [⟨0, 0, 1⟩, ⟨0, 1, 1023⟩, ⟨0, 3, 4095⟩, ⟨0, 5, 3⟩, ⟨0, 6, 3⟩, ⟨0, 7, 0⟩] base).isSome =
        true ∧
      writeTable .recorderConfig 3 [⟨0, 0, 1⟩, ⟨0, 1, 1024⟩, ⟨0, 3, 4095⟩, ⟨0, 5, 3⟩, ⟨0, 6, 3⟩, ⟨0, 7, 0⟩] base = none ∧
      (writeTable .dispatch 0 [⟨0, 1, 601⟩] dispatching).map (·.dispatch.fa) = some dispatching.dispatch.fa ∧
      (writeTable .dispatch 0 [⟨0, 1, 602⟩] dispatching).map (·.dispatch.fa) = some .powerOn ∧
      (writeTable .dispatch 0 [⟨0, 7, 641⟩] dispatching).map (·.dispatch.heat) = some none ∧
      writeTable .dispatch 0 [⟨0, 1, 1024⟩] dispatching = none ∧
      (writeTable .dispatch 0 [⟨2, 17, 200⟩] dispatching).map (·.dispatch.oper.interval) = some 200 ∧
      writeTable .dispatch 0 [⟨2, 17, 199⟩] dispatching = none := by decide +kernel

theorem wit_WriteStartsRecordsAfresh :
    let r : Point := { base.point 100 with configured := false }
    let k : Point := { base.point 100 with limit := 100 }
    let g : GuardRec := { base.guardRec 4 with configured := false }
    let unlimited : Point := { base.point 100 with limit := 0 }
    let late : State := { base with now := 100 }
    ((writePoint 100 unlimited true base).point 100).timer = none ∧ k.updated + k.limit ≤ late.now ∧
      ((writePoint 100 k true late).point 100).fresh = .expired ∧
      ((writePoint 100 k true { base with now := 99 }).point 100).timer = some 100 ∧
      100 < base.points.length ∧ r.configured ≠ (base.point 100).configured ∧
      k.configured = (base.point 100).configured ∧ k.fresh = .fresh ∧ k.limit ≠ 0 ∧ base.now < k.updated + k.limit ∧
      4 < base.guard.recs.length ∧ g.configured ≠ (base.guardRec 4).configured ∧ 15 < base.emission.channels.length ∧
      base.part.state = .setup ∧ ((writePoint 100 k true base).point 100).timer = some 100 := by decide +kernel

/-- Fields at the ends of their ranges, the last term place, two items in order, and a crossed order range. -/
theorem wit_WriteStartsRecordsAfresh_fields :
    ([0, 99, 100, 600000, 600001].map (fun v => (setPointField .blank 3 v).isSome) = [true, false, true, true, false]) ∧
      (setPointField .blank 7 4294967295).map (·.low) = some (-1) ∧ (setPointField .blank 1 255) = none ∧
      ((setGuardField .blank 28 99).isSome, (setGuardField .blank 28 100).isSome, (setGuardField .blank 3 3).isSome) =
        (false, true, false) ∧
      (setGuardTerm .blank 2 17 2147483648).map (fun g => (g.term 3).threshold) = some (-2147483648) ∧
      setGuardTerm .blank 2 26 0 = none ∧ (setLineField .powerOn 3 65535).map (·.statePoint) = some none ∧
      setLineField .powerOn 3 1024 = none ∧ (setChannelField .powerOn 25 48).map (·.allowance) = some 48 ∧
      setChannelField .powerOn 25 49 = none ∧
      (writeTable .point 5 [⟨0, 7, 2⟩, ⟨0, 11, 1⟩, ⟨0, 11, 2⟩] base).map (fun t => ((t.point 5).low, (t.point 5).high)) =
        some (2, 2) ∧
      writeTable .point 5 [⟨0, 7, 2⟩, ⟨0, 11, 1⟩] base = none ∧
      (writeTable .guard 4 [⟨2, 0, 1⟩] base).map (fun t => ((t.guardRec 4).term 2).used) = some true ∧
      (writeTable .line 1 [⟨0, 1, 1023⟩] base).map (fun t => (t.line .b).opPoint) = some 1023 ∧
      (writeTable .channel 15 [⟨0, 23, 7200⟩] base).map (fun t => (t.channel 15).cfg.warnMin) = some 7200 := by
  decide +kernel

/-- READ of points from 1022 ends at the table's end, and of points from 30 before the multiple of 32. -/
theorem wit_ReadReturnsRecords :
    let f := setup [1, 1, 3, 254, 0, 8]
    let g := setup [1, 1, 0, 30, 0, 8]
    (∀ x ∈ [setup [1, 21, 0, 0, 0, 1], setup [1, 1, 0, 0, 2, 1], setup [1, 1, 0, 0, 0, 9], setup [1, 15, 0, 48, 0, 1], f, g],
        canTake .sPort x (.read x) (onPort .sPort x base) = true) ∧
      base.dispatch.cfg.outputs.length = 5 ∧ base.dispatch.oper.deadbands.length = 5 ∧
      base.dispatch.lastOrdered.length = 5 ∧ answered .read (setup [1, 21, 0, 0, 0, 1]) base = some 8 ∧
      answered .read (setup [1, 1, 0, 0, 2, 1]) base = some 8 ∧ answered .read (setup [1, 1, 0, 0, 0, 9]) base = some 10 ∧
      answered .read (setup [1, 15, 0, 48, 0, 1]) base = some 9 ∧
      (ran (.read f) (onPort .sPort f base)).sPort.tx.map (·.frame.body.take 6) = some [16, 1, 0, 255, 255, 2] ∧
      (ran (.read g) (onPort .sPort g base)).sPort.tx.map (·.frame.body.take 6) = some [16, 1, 0, 0, 32, 2] := by
  refine ⟨by decide +kernel, by decide +kernel, ?_⟩
  decide +kernel

/-- A SETUP frame of one block with an operation code and a first operand byte. -/
def op (code a : Nat) : Frame := setup [byteOf code, byteOf a, 0, 0, 0, 0]

/-- The same part with its tables ready for START: line A configured and the guarded point's line with it. -/
def ready : State :=
  { base with
    emission := { base.emission with
      lineA := { LineRec.powerOn with configured := true, opPoint := 100 }
      channels := base.emission.channels.set 0 { Channel.powerOn with
        cfg := { ChannelCfg.powerOn with configured := true, pollutant := 212, o2 := 213, halfLimit := 4000, warnPct := 75 } } }
    clock := { day := 3, ms := 1800000, unset := false, handed := (3, 1) } }

/-- The dispatch unit enabled with its table, ready for START, with two of its inputs known. -/
def readyDispatch : State :=
  { dispatching with
    part := { dispatching.part with state := .setup, signature := 0 }
    dispatch := { dispatching.dispatch with state := .stopped, timer := none, fa := .powerOn, first := false } }

/-- START refused in RUN, failing on an unconfigured line, and passing: record 4's term is not active. -/
theorem wit_StartValidatesThenRuns :
    let f := op 2 0
    (∀ s ∈ [live, base, ready, readyDispatch], canTake .sPort f (.start f) (onPort .sPort f s) = true) ∧
      live.part.state = .run ∧ (validate base).isSome = true ∧ ready.part.state = .setup ∧ validate ready = none ∧
      validate readyDispatch = none ∧ ready.clock.unset = false ∧ (ready.channel 0).cfg.configured = true ∧
      ready.emission.channels.length = Config.channels ∧ readyDispatch.dispatch.state = .stopped ∧
      readyDispatch.dispatch.owed = false ∧ readyDispatch.dispatch.enable = true ∧
      (∀ i ∈ [ReqInput.fa, .fb, .trip], publishes readyDispatch.emission.plan readyDispatch.dispatch.cfg
        (readyDispatch.dispatch.cfg.inputPoint i) = false) ∧
      ready.dispatch.owed = false ∧ publishes ready.emission.plan ready.dispatch.cfg ready.dispatch.cfg.trip = false ∧
      (∀ c ∈ ready.emission.channels, c.run.latch = false) ∧
      (∀ m ∈ (ready.guardRec 4).terms, m.used = true → publishes ready.emission.plan ready.dispatch.cfg m.point = false) ∧
      4 < ready.guard.recs.length ∧ (ready.guardRec 4).configured = true ∧ ready.guard.trips = [] ∧
      ((startActions ready).guardRec 4).issued = some 5200 ∧ ((startActions ready).channel 0).run.warnLevel = 3000 ∧
      ((startActions ready).channel 0).run.index = 1 ∧ (startActions readyDispatch).dispatch.state = .run := by
  decide +kernel

/-- One failure for each table of R188, two for the windows at their ends; an earlier check goes before a later one. -/
theorem wit_StartValidatesThenRuns_checks :
    let windows (a b : Window) : State := { ready with
      fwd := { ready.fwd with windows := [a, b, ⟨false, 0, 0⟩, ⟨false, 0, 0⟩] } }
    let guarded (f : GuardRec → GuardRec) : State := ready.modGuard 4 f
    let line (l : LineRec) : State := { ready with emission := { ready.emission with lineB := l } }
    let channel (f : ChannelCfg → ChannelCfg) : State := ready.modChannel 0 (fun c => { c with cfg := f c.cfg })
    let dispatch (f : DispatchCfg → DispatchCfg) : State :=
      { readyDispatch with dispatch := { readyDispatch.dispatch with cfg := f readyDispatch.dispatch.cfg } }
    validate (windows ⟨true, 40, 60⟩ ⟨true, 60, 79⟩) = some ⟨2, 1, .overlap⟩ ∧
      validate (windows ⟨true, 40, 60⟩ ⟨true, 61, 79⟩) = none ∧
      validate (windows ⟨true, 20, 79⟩ ⟨false, 0, 0⟩) = some ⟨2, 0, .holdsPart⟩ ∧
      validate { ready with part := { ready.part with collector := 20 } } = some ⟨0, 0, .collectorSide⟩ ∧
      validate (guarded (fun g => { g with point := 131, high := 4999 })) = some ⟨5, 4, .pointUnconfigured⟩ ∧
      validate (guarded (fun g => { g with high := 4999 })) = some ⟨5, 4, .limitOrder⟩ ∧
      validate (guarded (fun g => { g with rate := 1, interval := 999 })) = some ⟨5, 4, .rampStep⟩ ∧
      validate (line { LineRec.powerOn with configured := true, opPoint := 100, statePoint := some 212 }) =
        some ⟨6, 1, .notSelf⟩ ∧
      validate (channel (fun c => { c with o2 := 212 })) = some ⟨7, 0, .samePoint⟩ ∧
      validate (dispatch (fun c => { c with outputs := [10, 11, 12, 13, 13] })) = some ⟨8, 0, .duplicatePoint⟩ ∧
      validate (readyDispatch.modGuard 4 (fun g => { g with point := 601 })) = some ⟨8, 0, .outputNotGuarded⟩ ∧
      validate (dispatch (fun c => { c with statePoint := some 643 })) = some ⟨8, 0, .publishedShared⟩ ∧
      validate (dispatch (fun c => { c with configured := false })) = some ⟨5, 0, .dispatchOwner⟩ := by decide +kernel

/-- R88: with the term's point above its threshold the output trips at START and its safe value is issued. -/
theorem test_start_trips_an_active_interlock :
    let s : State := ready.modPoint 212 (fun r => { r with value := 8501 })
    ((guardStart s).guardRec 4).state = .tripped ∧ ((guardStart s).guardRec 4).issued = some 0 ∧
      (guardStart s).fPort.tx.map (·.item) = some (.trip ⟨4, 130, 0⟩) := by decide +kernel

theorem wit_StopWithdrawsAndCuts :
    let f := op 3 0
    let s : State := { ready with part := { ready.part with state := .run } }
    Takes .sPort f (.stop f) (onPort .sPort f s) ∧ Bounded (onPort .sPort f s) ∧ s.part.state = .run ∧
      Takes .sPort f (.stop f) (onPort .sPort f base) ∧ Bounded (onPort .sPort f base) ∧ base.part.state = .setup ∧
      answered .stop f base = some 6 := by
  refine ⟨takes_of (by decide +kernel), bounded_of (by decide +kernel), rfl, takes_of (by decide +kernel),
    bounded_of (by decide +kernel), rfl, by decide +kernel⟩

/-- R113: an OPEN channel's half-hour and day are CUT at STOP. -/
theorem test_stop_cuts_open_channels :
    let t := stopActions (measuring 3 1)
    (t.channel 15).half.map (·.status) = [.cut] ∧ (t.channel 15).days.map (fun d => (d.status, d.invalid)) = [(.cut, 1)] ∧
      (t.channel 15).run.opened = false ∧ [22, 23, 24].map (fun j => (t.flag j).isSet) = [true, true, true] ∧
      [22, 23, 24].map (fun j => ((stopActions live).flag j).isSet) = [false, false, false] ∧
      (stopActions { measuring 3 1 with recorder := { base.recorder with
        state := .armed, cfg := { base.recorder.cfg with freezeStop := true } } }).recorder.state = .frozen := by
  decide +kernel

/-- TIME with a day and a millisecond of day. -/
def timeTo (day ms : Nat) : Frame := setup ([4, 0, 0, 0, 0, 0] ++ bytesOf 2 day ++ bytesOf 4 ms)

/-- R192: a locked clock moves 60,000 ms either way, also across day 65535, and no further. -/
theorem wit_TimeSetsTheClock :
    let s : State := { measuring 0 0 with
      clock := { day := 0, ms := 0, unset := false, handed := (0, 0) }, part := { base.part with lock := true, state := .run } }
    (∀ f ∈ [timeTo 0 60000, timeTo 0 60001, timeTo 65535 86340000, timeTo 65535 86339999, timeTo 0 86400000],
        canTake .sPort f (.time f) (onPort .sPort f s) = true) ∧
      canTake .sPort (op 4 0) (.time (op 4 0)) (onPort .sPort (op 4 0) base) = true ∧
      answered .time (timeTo 0 60000) s = some 0 ∧ answered .time (timeTo 0 60001) s = some 7 ∧
      answered .time (timeTo 65535 86340000) s = some 0 ∧ answered .time (timeTo 65535 86339999) s = some 7 ∧
      answered .time (timeTo 0 86400000) s = some 10 ∧ answered .time (op 4 0) base = some 10 ∧
      (s.channel 15).run.opened = true ∧ s.emission.channels.length = Config.channels ∧
      publishes s.emission s.dispatch.cfg (s.line .a).opPoint = false ∧
      publishes s.emission s.dispatch.cfg (s.line .b).opPoint = false ∧
      ((ran (.time (timeTo 65535 86340000)) (onPort .sPort (timeTo 65535 86340000) s)).channel 15).half.map (·.status) =
        [.cut] ∧
      (let u := ran (.time (timeTo 0 1800000)) (onPort .sPort (timeTo 0 1800000) { s with part := { s.part with lock := false } })
       [22, 23, 24].map (fun j => (u.flag j).isSet) = [true, true, false]) ∧
      ((ran (.time (timeTo 9 0)) (onPort .sPort (timeTo 9 0)
        { ready with part := { ready.part with state := .run } })).channel 0).run.day = 9 := by decide +kernel

/-- SUBSTITUTE of a point with a value. -/
def substituteFrame (p : Nat) (v : Value) : Frame := setup ([5, 0, 0, 0, 0, 0] ++ bytesOf 2 p ++ signedBytes v)

theorem wit_SubstitutionShowsThrough :
    let f := substituteFrame 212 (-3)
    let u := setup [6, 0, 212, 0, 0, 0]
    let s := base.modPoint 212 (fun r => { r with subActive := true })
    (∀ x ∈ [f, substituteFrame 1023 0, substituteFrame 1024 0, op 5 0],
        canTake .sPort x (.substitute x) (onPort .sPort x base) = true) ∧
      (∀ f ∈ [u, setup [6, 3, 255, 0, 0, 0]], canTake .sPort f (.unsubstitute f) (onPort .sPort f base) = true) ∧
      canTake .sPort u (.unsubstitute u) (onPort .sPort u s) = true ∧ (base.point 212).configured = true ∧
      (base.point 212).subActive = false ∧ (s.point 212).subActive = true ∧
      answered .substitute (substituteFrame 1024 0) base = some 13 ∧ answered .substitute (op 5 0) base = some 10 ∧
      ((ran (.substitute f) (onPort .sPort f base)).point 212).effValue = -3 ∧
      ((ran (.unsubstitute u) (onPort .sPort u s)).point 212).effValue = 8000 := by
  refine ⟨by decide +kernel, by decide +kernel, ?_⟩
  decide +kernel

theorem wit_LockAndResetAreTaken :
    Takes .sPort (op 7 0) (.lock (op 7 0)) (onPort .sPort (op 7 0) base) ∧
      Takes .sPort (op 8 0) (.reset (op 8 0)) (onPort .sPort (op 8 0) base) ∧
      (ran (.lock (op 7 0)) (onPort .sPort (op 7 0) base)).part.lock = true ∧
      (ran (.reset (op 8 0)) (onPort .sPort (op 8 0) base)).part.pendingResets = 1 ∧
      (ran (.reset (op 8 0)) (onPort .sPort (op 8 0) base)).sPort.tx.map (·.item) = some .resetDone := by
  refine ⟨takes_of (by decide +kernel), takes_of (by decide +kernel), ?_⟩
  decide +kernel

/-- RELEASE of a guard record. -/
def releaseFrame (i : Nat) : Frame := setup ([9] ++ bytesOf 2 i ++ [0, 0, 0])

theorem wit_ReleaseClearsALatchedOutput :
    let s (st : OutputState) : State := base.modGuard 4 (fun g => { g with state := st })
    (∀ i ∈ [4, 95, 96, 0], canTake .sPort (releaseFrame i) (.release (releaseFrame i))
        (onPort .sPort (releaseFrame i) base) = true) ∧
      (∀ st ∈ [OutputState.clear, .tripped, .latched], canTake .sPort (releaseFrame 4) (.release (releaseFrame 4))
        (onPort .sPort (releaseFrame 4) (s st)) = true ∧ ((s st).guardRec 4).state = st) ∧
      base.attention.flags.length = flagCount ∧
      answered .release (releaseFrame 96) base = some 9 ∧ answered .release (releaseFrame 95) base = some 9 ∧
      answered .release (releaseFrame 4) (s .tripped) = some 12 ∧ answered .release (releaseFrame 4) (s .clear) = some 0 ∧
      ((ran (.release (releaseFrame 4)) (onPort .sPort (releaseFrame 4) (s .latched))).guardRec 4).state = .clear := by
  decide +kernel

/-- CLEAR of a flag set. -/
def clearFrame (set : Nat) : Frame := setup ([10, 0, 0, 0, 0, 0] ++ bytesOf 4 set ++ [0, 0])

/-- R205: TIME-UNSET, whose condition holds, stays set and is listed; a forced one clears. -/
theorem wit_ClearAndForceActOnFlags :
    let f := clearFrame 4096
    let forced : State := ran (.force (op 11 12)) (onPort .sPort (op 11 12) base)
    let armed : State := { base with recorder := { base.recorder with state := .armed } }
    (∀ x ∈ [f, clearFrame 33554431, clearFrame 33554432, op 10 0],
        canTake .sPort x (.clear x) (onPort .sPort x base) = true) ∧
      (∀ f ∈ [op 11 24, op 11 25, op 11 11], canTake .sPort f (.force f) (onPort .sPort f armed) = true) ∧
      base.attention.flags.length = flagCount ∧ armed.recorder.cfg.sources.getLsbD 3 = true ∧ base.part.collector ≠ 0 ∧
      base.attention.outbox.length < 16 ∧ answered .clear (clearFrame 33554432) base = some 10 ∧
      answered .force (op 11 25) base = some 10 ∧
      (ran (.clear f) (onPort .sPort f base)).sPort.tx.map (·.frame.body) =
        some [16, 10, 0, 0, 0, 0, 0, 0, 16, 0, 0, 0] ∧
      (forced.flag 12).forced = true ∧ forced.attention.noticeNo = 1 ∧
      ((ran (.clear f) (onPort .sPort f forced)).flag 12).isSet = false ∧
      (ran (.force (op 11 11)) (onPort .sPort (op 11 11) armed)).recorder.triggers = 1 := by
  refine ⟨by decide +kernel, by decide +kernel, ?_⟩
  decide +kernel

theorem wit_PortRestartActs :
    let g := setup [13, 1, 3, 0, 0, 0]
    let sent (i : SentItem) : State := { base with fPort := { base.fPort with tx := some ⟨setup [], i⟩ } }
    let waiting : State := { base with
      sPort := { base.sPort with tx := some ⟨setup [], .restartDone⟩, restarts := [some .r20, none] } }
    (∀ f ∈ [op 12 0, op 12 1, op 12 2], canTake .sPort f (.portRestart f) (onPort .sPort f base) = true) ∧
      (∀ f ∈ [g, setup [13, 0, 0, 0, 0, 0], setup [13, 2, 0, 0, 0, 0], setup [13, 0, 4, 0, 0, 0]],
        canTake .sPort f (.portRate f) (onPort .sPort f base) = true) ∧
      Rate.code .r20 = headByte g 2 ∧ ((sent (.query 7 0)).port .fPort).tx.map (·.item) = some (.query 7 0) ∧
      ((sent (.query 7 0)).queryEntry 7).gen = 0 ∧ ((sent (.trip ⟨4, 130, 0⟩)).port .fPort).tx.map (·.item) = some (.trip ⟨4, 130, 0⟩) ∧
      waiting.held = false ∧ waiting.sPort.tx = some ⟨setup [], .restartDone⟩ ∧
      waiting.sPort.restarts = some .r20 :: [none] ∧ base.attention.flags.length = flagCount ∧
      answered .portRestart (op 12 2) base = some 10 ∧ answered .portRate (setup [13, 0, 4, 0, 0, 0]) base = some 10 ∧
      (ran (.portRate g) (onPort .sPort g base)).fPort.rate = .r20 ∧
      (ran (.portRate g) (onPort .sPort g base)).fPort.state = .disabled ∧
      (ran (.frameCompletes .sPort) waiting).sPort.rate = .r20 ∧
      (ran (.frameCompletes .sPort) waiting).sPort.restarts = [none] := by decide +kernel

theorem wit_RearmAndCounterClear :
    let s : State := { base with recorder := { base.recorder with state := .frozen, missed := 4 },
                                 fwd := { base.fwd with counters := { base.fwd.counters with busy := 65535 } } }
    canTake .sPort (op 14 0) (.rearm (op 14 0)) (onPort .sPort (op 14 0) s) = true ∧
      (∀ f ∈ [op 16 0, op 16 9, op 16 10, op 16 11], canTake .sPort f (.counterClear f) (onPort .sPort f s) = true) ∧
      base.attention.flags.length = flagCount ∧ (ran (.rearm (op 14 0)) (onPort .sPort (op 14 0) s)).recorder.missed = 0 ∧
      (ran (.counterClear (op 16 2)) (onPort .sPort (op 16 2) s)).fwd.counters.busy = 0 ∧
      (ran (.counterClear (op 16 9)) (onPort .sPort (op 16 9) s)).fwd.counters.busy = 65535 ∧
      (ran (.counterClear (op 16 10)) (onPort .sPort (op 16 10) s)).recorder.missed = 0 ∧
      answered .counterClear (op 16 11) s = some 10 := by decide +kernel

/-- The four sub-commands in the three dispatch states; the unknown one is refused. -/
theorem wit_DispatchCommandsActByState :
    let stopped := inState .stopped dispatching
    let held := inState .hold dispatching
    let lost : State := { held with dispatch := { held.dispatch with trip := .powerOn } }
    (∀ s ∈ [stopped, dispatching, held, lost, inState .stopped readyDispatch],
        canTake .sPort (op 15 0) (.dispatchEnable (op 15 0)) (onPort .sPort (op 15 0) s) = true ∧
        canTake .sPort (op 15 1) (.dispatchDisable (op 15 1)) (onPort .sPort (op 15 1) s) = true ∧
        canTake .sPort (op 15 2) (.dispatchRun (op 15 2)) (onPort .sPort (op 15 2) s) = true ∧
        canTake .sPort (op 15 3) (.dispatchHold (op 15 3)) (onPort .sPort (op 15 3) s) = true) ∧
      canTake .sPort (op 15 4) (.dispatchEnable (op 15 4)) (onPort .sPort (op 15 4) stopped) = true ∧
      (∀ i ∈ [ReqInput.fa, .fb, .trip],
        publishes stopped.emission.plan stopped.dispatch.cfg (stopped.dispatch.cfg.inputPoint i) = false) ∧
      stopped.dispatch.owed = false ∧ lost.dispatch.trip.state = .expired ∧
      answered .dispatchEnable (op 15 4) stopped = some 10 ∧ answered .dispatchRun (op 15 2) stopped = some 6 ∧
      answered .dispatchHold (op 15 3) stopped = some 6 ∧
      (ran (.dispatchEnable (op 15 0)) (onPort .sPort (op 15 0) stopped)).dispatch.state = .run ∧
      (ran (.dispatchDisable (op 15 1)) (onPort .sPort (op 15 1) dispatching)).dispatch.state = .stopped ∧
      (ran (.dispatchRun (op 15 2)) (onPort .sPort (op 15 2) held)).dispatch.cycles = 1 ∧
      (ran (.dispatchRun (op 15 2)) (onPort .sPort (op 15 2) lost)).dispatch.cause = some .input ∧
      (ran (.dispatchHold (op 15 3)) (onPort .sPort (op 15 3) dispatching)).dispatch.cause = some .command := by
  decide +kernel

/-! ### Arithmetic -/

/-- R68's hysteresis at its edges, and a wake that trips the output, one that ends the interlock and one that does
neither; a trip that withdraws a step, a slot and an order, sends the query that these held back before the trip
order, and keeps one trip order; and lines that go off and come on. -/
theorem wit_TermsTripTheirOutput :
    let t (a : Bool) : Term := ⟨true, 212, .above, 8500, 50, true, a⟩
    let hot : State := live.modPoint 212 (fun r => { r with value := 8501 })
    let cool : State := (live.modGuard 4 (fun g => { g with state := .tripped, terms := g.terms.set 0 (t true) })).modPoint 212
      (fun r => { r with value := 8450 })
    let q : QueryEntry := { QueryEntry.freed 0 false with state := .waitingSend, origin := 3, dest := 41, point := 5, seq := 9 }
    let full : State := { live with
      fwd := { live.fwd with orders := [.order 41 130 5000 3 true 4] }
      guard := { live.guard with steps := [⟨4, 5000, 4900⟩] }
      query := { live.query with entries := live.query.entries.set 0 q }
      arbiter := { live.arbiter with supervisory := .masked, step := .masked, dispatch := .masked }
      dispatch := { live.dispatch with
        cfg := { live.dispatch.cfg with configured := true, outputs := [10, 11, 12, 13, 130] }
        slots := [⟨0, 1, false⟩, ⟨4, 5000, false⟩], lastOrdered := [some 1, none, none, none, some 5000] } }
    let off := (measuring 3 1).modPoint 100 (fun r => { r with value := 0 })
    (tripOutput 4 full).fwd.orders = [] ∧ (tripOutput 4 full).guard.steps = [] ∧
      (tripOutput 4 full).dispatch.slots = [⟨0, 1, false⟩] ∧
      (tripOutput 4 full).dispatch.lastOrdered = [some 1, none, none, none, none] ∧
      (tripOutput 4 full).fPort.tx.map (·.item) = some (.query 0 0) ∧
      (tripOutput 4 full).guard.trips = [⟨4, 130, 0⟩] ∧ (tripOutput 4 (tripOutput 4 full)).guard.trips.length = 1 ∧
      ((tripOutput 4 (full.modGuard 4 (fun g => { g with action := .hold }))).guardRec 4).issued = some 4900 ∧
      ((wakeLines 100 off).line .a).operating = false ∧
      ((wakeLines 100 { wakeLines 100 off with points := live.points }).line .a).operating = true ∧
      (wakeGuard 212 hot).guard = (wakeOutput 212 4 hot).guard ∧
      (wakeGuard 212 { hot with part := base.part }).guard = hot.guard ∧ evalTerm (t false) 8501 .uncertain = true ∧ evalTerm (t true) 8451 .good = true ∧
      evalTerm (t true) 8450 .substituted = false ∧ evalTerm (t false) 0 .stale = true ∧
      4 < hot.guard.recs.length ∧ ((wakeOutput 212 4 hot).guardRec 4).state = .tripped ∧
      ((wakeOutput 212 4 cool).guardRec 4).state = .latched ∧ ((wakeOutput 212 4 live).guardRec 4).state = .clear ∧
      (wakeOutput 213 4 hot).guardRec 4 = hot.guardRec 4 ∧
      ((tripOutput 4 (live.modGuard 4 (fun g => { g with action := .hold }))).guardRec 4).target = some 5200 := by
  decide +kernel

/-- What the recorder does with a record and with a trigger in each of its states, and with an output's safe value where
trips are a source, where only outcomes are selected, and where neither is. -/
theorem wit_TermsTripTheirOutput_recorder :
    let kept (st : RecorderState) (post postCount : Nat) : State := { base with recorder := { base.recorder with
      state := st, post := post, cfg := { base.recorder.cfg with postCount := postCount } } }
    let shown (s : State) : RecorderState × Nat × Nat × Nat × Nat := (s.recorder.state, s.recorder.buffer.length, s.recorder.post, s.recorder.triggers,
      s.recorder.missed)
    let r : RecEntry := ⟨0, ⟨0, 0, false⟩, .part, none, none, none, 0, none, none, none, [.force]⟩
    let safe (sources sel : Nat) : State := recordTripSafe 130 0 { base with recorder := { base.recorder with
      state := .armed, cfg := { base.recorder.cfg with sources := BitVec.ofNat _ sources, outcomeSel := BitVec.ofNat _ sel } } }
    [enterRecord r (kept .off 0 2), enterRecord r (kept .armed 0 2), enterRecord r (kept .frozen 0 2),
        enterRecord r (kept .post 1 2), enterTrigger r (kept .off 0 2), enterTrigger r (kept .armed 0 2),
        enterTrigger r (kept .frozen 0 2), enterTrigger r (kept .armed 0 0), enterTrigger r (kept .post 2 2)].map shown =
      [(.off, 0, 0, 0, 0), (.armed, 1, 0, 0, 0), (.frozen, 0, 0, 0, 0), (.frozen, 1, 0, 0, 0), (.off, 0, 0, 0, 0),
        (.post, 1, 2, 1, 0), (.frozen, 0, 0, 0, 1), (.frozen, 1, 0, 1, 0), (.post, 1, 1, 1, 0)] ∧
      [safe 1 0, safe 0 4, safe 0 3].map (fun t => t.recorder.buffer.map (fun e => (e.outcome, e.marks))) =
        [[(some .tripSafe, [.outputTripped])], [(some .tripSafe, [])], []] ∧
      (safe 1 0).recorder.buffer.map (·.dest) = [some 41] := by decide +kernel

/-- Every decision of R77 and each of R79's three ways of placing; a RESTRICT entry that lowers what waits and issues,
one that finds the issued value low enough, and one of another line. -/
theorem wit_GuardJudgesOrders :
    let owned : State := inState .run (live.modGuard 4 (fun g => { g with owner := .dispatch }))
    let soon : State := ramping 500 4000 4000
    let rested := soon.modGuard 4 (fun g => { g with rampTimer := none })
    let bound (issued : Value) : State := live.modGuard 4 (fun g => { g with
      line := some .a, issued := some issued, target := some 6000 })
    let waits : State := { bound 5001 with guard := { (bound 5001).guard with steps := [⟨4, 5500, 5001⟩] } }
    (restrictOutput .a 4 (bound 5001)).fPort.tx.map (·.frame.body) = some ([0, 130] ++ signedBytes 5000) ∧
      ((restrictOutput .a 4 waits).guardRec 4).issued = some 5000 ∧ (restrictOutput .a 4 (bound 5000)).fPort.tx = none ∧
      ((restrictOutput .a 4 (bound 5000)).guardRec 4).target = some 5000 ∧ 
      (restrictOutput .b 4 (bound 5001)).guard = (bound 5001).guard ∧
      (restrictEntry .a (bound 5001)).guard = (restrictOutput .a 4 (bound 5001)).guard ∧
      4 < live.guard.recs.length ∧ (guardOrder (.supervisory 41 3) 4 6600 base).1 = .held ∧
      (guardOrder (.supervisory 41 3) 4 6600 owned).1 = .owned ∧ (guardOrder (.supervisory 41 3) 4 6600 tripped).1 = .held ∧
      (guardOrder (.dispatch 4 true) 4 6600 tripped).1 = .dropped ∧ (guardOrder (.supervisory 41 3) 4 6600 live).1 = .taken ∧
      (tripped.guardRec 4).state ≠ .clear ∧ (soon.guardRec 4).lastIssue = some 0 ∧
      ((guardOrder (.supervisory 41 3) 4 6600 live).2.guardRec 4).issued = some 6500 ∧
      ((guardOrder (.supervisory 41 3) 4 4100 { rested with now := 100 }).2.guardRec 4).issued = some 4050 ∧
      ((guardOrder (.supervisory 41 3) 4 4100 { soon with now := 100 }).2.guardRec 4).issued = some 4000 ∧
      ((guardOrder (.supervisory 41 3) 4 4100 { soon with now := 99 }).2.guardRec 4).issued = some 4000 ∧
      ((guardOrder (.dispatch 0 true) 4 4100 { soon with now := 99 }).2.guardRec 4).issued = some 4100 := by
  decide +kernel

/-- The state with an armed recorder that enters the outcomes of the selected origins. -/
def noting (sel : Nat) (s : State) : State :=
  { s with recorder := { s.recorder with
      state := .armed, cfg := { s.recorder.cfg with outcomeSel := BitVec.ofNat _ sel } } }

/-- The outcome, origin and value of what the recorder then holds of an order for guard record 4. -/
def noted (org : OrderOrigin) (v : Value) (s : State) : List (Option RecOutcome × RecOrigin × Option Int) :=
  (guardOrder org 4 v s).2.recorder.buffer.map (fun e => (e.outcome, e.origin, e.value))

/-- The outcome recorded for each decision and way of placing, with its value and origin, and none where its origin is
not selected. -/
theorem wit_GuardJudgesOrders_outcomes :
    let sup : OrderOrigin := .supervisory 41 3
    let soon : State := ramping 500 4000 4000
    [noted sup 6600 (noting 1 base),
        noted sup 6600 (noting 1 (inState .run (live.modGuard 4 (fun g => { g with owner := .dispatch })))),
        noted (.dispatch 4 true) 6600 (noting 2 tripped), noted sup 6600 (noting 1 live), noted sup 6500 (noting 1 live),
        noted sup 4100 (noting 1 { soon.modGuard 4 (fun g => { g with rampTimer := none }) with now := 100 }),
        noted sup 4100 (noting 1 { soon with now := 99 }), noted sup 6600 (noting 6 live)] =
      [[(some .held, .guard, some 6600)], [(some .owned, .guard, some 6600)], [(some .held, .dispatch, some 6600)],
        [(some .clamped, .guard, some 6500)], [(some .passed, .guard, some 6500)], [(some .ramped, .guard, some 4050)],
        [(some .ramped, .guard, some 4100)], []] := by decide +kernel

/-- The spec's cycle and a trip and LOW-STEAM variant of it; a first cycle, whose previous order is unknown; and an output
that is not due, placed, and dropped. -/
theorem wit_CycleBalancesSteam :
    let c := dispatching.dispatch.cfg
    let tripCycle : State := { dispatching with dispatch := { dispatching.dispatch with trip := ⟨some 1, .usable, none⟩ } }
    let low : State := { dispatching with dispatch := { dispatching.dispatch with
      fa := ⟨some 2499, .usable, none⟩, fb := ⟨some 0, .usable, none⟩ } }
    let unknown := dispatching.modGuard 0 (fun g => { g with issued := none })
    let r := computeCycle dispatching
    let shut := dispatching.modGuard 3 (fun g => { g with state := .tripped })
    (computeCycle unknown).previous = some 6800 ∧
      (computeCycle { unknown with dispatch := { unknown.dispatch with lastOrdered := noneOrdered } }).turbine = 7154 ∧
      (handOutput r 3 3591 dispatching).1 = .no ∧ (handOutput r 3 3590 dispatching).1 = .placed ∧
      (handOutput r 3 3609 dispatching).1 = .no ∧ (handOutput r 3 3590 shut).1 = .dropped ∧
      (handOutput r 3 3590 shut).2.dispatch.lastOrdered.getD 3 none = none ∧
      (handOutput { r with first := true } 3 3600 dispatching).1 = .placed ∧
      (handOutput (computeCycle tripCycle) 3 3600 dispatching).1 = .no ∧
      (handAll r dispatching).1 = [.placed, .no, .placed, .placed, .placed] ∧
      0 < c.kq ∧ 0 < c.ke ∧ c.lineA.min ≤ c.lineA.max * c.lineA.warn / 100 ∧ c.lineA.warn ≤ 100 ∧
      c.lineB.min ≤ c.lineB.max * c.lineB.warn / 100 ∧ c.lineB.warn ≤ 100 ∧ (computeCycle dispatching).outcome = .normal ∧
      (computeCycle tripCycle).outcome = .trip ∧ (computeCycle tripCycle).lineA.target = 4000 ∧
      (computeCycle low).outcome = .lowSteam ∧ (computeCycle low).total = some 7154 ∧
      lineTargets ⟨3000, 6000, 80, 0⟩ ⟨3000, 6000, 80, 0⟩ 4800 6000 true true 60 9000 = (4800, 4200) := by decide +kernel

/-- R101's worked figures, the ends of its ranges, and R105 on an OPEN channel; a sample of each class, at a full
count, and with the WARN test met; and a line that enters WARN and RESTRICT. -/
theorem wit_SamplesAverageWithinRange :
    let s := measuring 3 1
    let set (f : ChannelRun → ChannelRun) : State := s.modChannel 15 (fun ch => { ch with run := f ch.run })
    let full := set (fun r => { r with valid := 65535 })
    let off := s.modLine .a (fun r => { r with operating := false })
    let latched := set (fun r => { r with latch := true })
    15 < s.emission.channels.length ∧ (takeSample 15 5 .good off).emission = off.emission ∧
      ((takeSample 15 5 .bad s).channel 15).run.invalid = 1 ∧
      ((takeSample 15 5 .good (s.modPoint 213 (fun r => { r with quality := .bad }))).channel 15).run.invalid = 1 ∧
      ((takeSample 15 10000001 .good s).channel 15).run.concClamp = 1 ∧
      ((takeSample 15 10000000 .good s).channel 15).run.valid = 2 ∧
      ((takeSample 15 5 .good full).channel 15).run.countFull = 1 ∧
      ((takeSample 15 5 .good full).channel 15).run.valid = 65535 ∧
      ((takeSample 15 10000000 .good s).line .a).state = .warn ∧ ((takeSample 15 0 .good s).line .a).state = .normal ∧
      ((deriveEmission false .a latched).line .a).state = .restrict ∧ (deriveEmission true .b s).emission = s.emission ∧
      ((wakeChannels 212 5 .good s).channel 15).run.valid = 2 ∧ 
      (wakeChannels 213 5 .good s).emission = s.emission ∧
      normalise 0 0 0 300 = 0 ∧ normalise 10000000 2000 5000 300 = 360000000 ∧ isBounded base = true ∧
      averageOf 12438 3 = 4146 ∧ (base.channel 15).cfg.minValid = 1 ∧
      (halfRecord false ((measuring 3 1).channel 15)).status = .valid ∧
      (halfRecord false ((measuring 3 1).channel 15)).exceeded = true ∧
      (halfRecord false ((measuring 3 1).channel 0)).status = .off := by decide +kernel
end Sys2Proof.Tests
end

section
namespace Sys2Proof.Machine
open Sys2Proof

/-! ### Commands out of turn -/

theorem whileAwake_of_held {s : State} (h : s.held = true) (act : State → State) : whileAwake act s = s := by
  simp [whileAwake, h]

theorem whileAwake_of_awake {s : State} (h : s.held = false) (act : State → State) :
    whileAwake act s = serve (act s) := by
  simp [whileAwake, h]

theorem isDue_iff {now : Nat} {timer : Option Nat} : isDue now timer = true ↔ ∃ m, timer = some m ∧ m ≤ now := by
  cases timer <;> simp [isDue]

theorem atExpiry_of_held {s : State} (h : s.held = true) (timer : Option Nat) (act : State → State) :
    atExpiry timer act s = s := by
  simp [atExpiry, whileAwake_of_held h]

/-- A timer that is stopped or still has to run does not expire (R8, R20). -/
theorem atExpiry_of_resting {s : State} {timer : Option Nat} (h : ∀ m, timer = some m → s.now < m)
    (act : State → State) : atExpiry timer act s = s := by
  have hd : ¬isDue s.now timer = true := by
    rintro hd
    obtain ⟨m, hm, hle⟩ := isDue_iff.mp hd
    exact absurd (h m hm) (by omega)
  simp [atExpiry, hd]

theorem atExpiry_of_due {s : State} {timer : Option Nat} {m : Nat} (hs : s.held = false) (ht : timer = some m)
    (hm : m ≤ s.now) (act : State → State) : atExpiry timer act s = serve (act s) := by
  have hd : isDue s.now timer = true := isDue_iff.mpr ⟨m, ht, hm⟩
  simp [atExpiry, hd, whileAwake_of_awake hs]

/-- A frame that is not there to be taken, or meets a part held in reset, is not taken (R23, R196). -/
theorem takeFrame_of_not_takes {p : Port} {f : Frame} {c : Instr} {s : State} (h : ¬Takes p f c s)
    (act : State → State) : takeFrame p f c act s = s := by
  cases hs : s.held with
  | true => simp [takeFrame, whileAwake_of_held hs]
  | false =>
    refine takeFrame_of_not ?_ act
    rw [Bool.eq_false_iff]
    intro ht
    simp only [takesFrame, Bool.and_eq_true, Bool.or_eq_true, decide_eq_true_eq, Bool.not_eq_true'] at ht
    obtain ⟨⟨hhead, hroute⟩, hroom⟩ := ht
    exact h ⟨hs, hhead, hroute, fun hr => hroom.resolve_left (by simp [hr])⟩

/-- A command that carries a frame acts through the taking of that frame alone. -/
theorem exec_of_frameTaken {c : Instr} {p : Port} {f : Frame} (h : frameTaken c = some (p, f)) :
    ∃ act : State → State, ∀ s, exec c s = .next (takeFrame p f c act s) := by
  cases c <;> simp only [frameTaken, Option.some.injEq, Prod.mk.injEq, reduceCtorEq] at h <;>
    obtain ⟨rfl, rfl⟩ := h <;> exact ⟨_, fun _ => rfl⟩

theorem exec_of_not_takes {c : Instr} {p : Port} {f : Frame} {s : State} (h : frameTaken c = some (p, f))
    (ht : ¬Takes p f c s) : exec c s = .next s := by
  obtain ⟨act, ha⟩ := exec_of_frameTaken h
  rw [ha, takeFrame_of_not_takes ht]

/-- A boundary that the clock has not reached is none (R18). -/
theorem execPeriodBoundary_of_handed {s : State} (h : (s.clock.day, s.clock.ms / 1800000) = s.clock.handed) :
    execPeriodBoundary s = .next s := by
  have hd : boundaryDue s = false := by simp [boundaryDue, periodOf, h]
  simp [execPeriodBoundary, hd]

theorem execFrameCompletes_of_idle {s : State} {p : Port} (h : (s.port p).tx = none) :
    execFrameCompletes p s = .next s := by
  simp [execFrameCompletes, h]

/-- A part held in reset takes and sends nothing (R196). -/
theorem exec_of_held {s : State} (h : s.held = true) {c : Instr} (hon : ∀ n, c ≠ .powerOn n)
    (hreset : c ≠ .powerOnReset) : exec c s = .next s := by
  cases hf : frameTaken c with
  | some pf =>
    obtain ⟨p, f⟩ := pf
    exact exec_of_not_takes hf (fun ht => absurd h (by simp [ht.awake]))
  | none =>
    cases c with
    | powerOn n => exact absurd rfl (hon n)
    | powerOnReset => exact absurd rfl hreset
    | frameReceived | symbolReceived | pauseReceived | resumeReceived =>
      exact congrArg Host.Outcome.next (whileAwake_of_held h _)
    | pauseTimerExpiry | linkDownExpiry | freshnessExpiry | answerTimerExpiry | discardTimerExpiry
    | rampTimerExpiry | inputHoldExpiry | cycleTimerExpiry =>
      exact congrArg Host.Outcome.next (atExpiry_of_held h _ _)
    | frameCompletes p =>
      cases htx : (s.port p).tx with
      | none => exact execFrameCompletes_of_idle htx
      | some snd => simp [exec, execFrameCompletes, htx, whileAwake_of_held h]
    | periodBoundary => simp [exec, execPeriodBoundary, whileAwake_of_held h]
    | _ => simp [frameTaken] at hf

/-- Settles O3: each command goes through the gate that its occasion opens (`takeFrame`, `atExpiry`, `whileAwake`), and a
closed gate leaves the state. -/
theorem nothingHappensOutOfTurn : Obligations.NothingHappensOutOfTurn := by
  intro s
  have expiry {timer : Option Nat} (act : State → State) (h : ∀ m, timer = some m → s.now < m) :
      (Host.Outcome.next (atExpiry timer act s) : Host.Outcome State Fault Refusal) = .next s :=
    congrArg Host.Outcome.next (atExpiry_of_resting h act)
  refine ⟨fun h => ⟨fun c hon hreset => exec_of_held h hon hreset, fun hp => ?_⟩,
    fun c p f hf ht => exec_of_not_takes hf ht, fun p => expiry _, fun i => expiry _, fun i => expiry _,
    fun i => expiry _, fun i => expiry _, expiry _, execPeriodBoundary_of_handed,
    fun p => ⟨expiry _, expiry _, execFrameCompletes_of_idle⟩⟩
  simp [step, hp, idle, h]

/-! ### One millisecond of an idle part -/

/-- The reading that the clock advances to is that many milliseconds on, round the circle (R17). -/
theorem absTime_advance (c : Clock) (d : Nat) :
    absTime (c.advance d).day (c.advance d).ms = (absTime c.day c.ms + d) % circle := by
  simp only [Clock.advance]
  rw [absTime, Nat.mul_comm, Nat.div_add_mod]

theorem advance_ms_lt (c : Clock) (d : Nat) : (c.advance d).ms < Config.msPerDay := Nat.mod_lt _ (by decide)

/-- The clock's advance moves its reading alone. -/
theorem advance_eq (c : Clock) (d : Nat) : ∃ day ms, c.advance d = { c with day := day, ms := ms } := ⟨_, _, rfl⟩

theorem advance_unset (c : Clock) (d : Nat) : (c.advance d).unset = c.unset := by
  obtain ⟨_, _, h⟩ := advance_eq c d
  rw [h]

theorem advance_handed (c : Clock) (d : Nat) : (c.advance d).handed = c.handed := by
  obtain ⟨_, _, h⟩ := advance_eq c d
  rw [h]

theorem step_of_nothing_ready {s : State} (hp : s.pending = []) (hh : s.held = false) (hr : readyCommands s = [])
    (ho : s.dispatch.owed = false) : step s = .next { elapse 1 s with pending := dueCommands (elapse 1 s) } := by
  simp [step, hp, idle, hh, hr, ho]

theorem dueCommands_pending (s : State) (l : List Instr) : dueCommands { s with pending := l } = dueCommands s := rfl

/-- Settles O2. -/
theorem idlePassesOneMillisecond : Obligations.IdlePassesOneMillisecond := by
  intro s hp hh hr ho
  exact ⟨_, step_of_nothing_ready hp hh hr ho, rfl, absTime_advance s.clock 1, advance_ms_lt s.clock 1,
    advance_unset s.clock 1, advance_handed s.clock 1, (dueCommands_pending _ _).symm, rfl⟩

end Sys2Proof.Machine
end

section
namespace Sys2Proof.Machine
open Sys2Proof

/-! ### Frames that are taken -/

theorem exec_of_takes {c : Instr} {p : Port} {f : Frame} {s : State} {act : State → State}
    (hc : exec c s = .next (takeFrame p f c act s)) (h : Takes p f c s) :
    exec c s = .next (serve (act (taken p f s))) := by
  rw [hc, takeFrame_of_takes h]

theorem taken_point (p : Port) (f : Frame) (s : State) (q : Nat) : (taken p f s).point q = s.point q := by
  simp only [State.point, taken_points]

theorem taken_channel (p : Port) (f : Frame) (s : State) (c : Nat) : (taken p f s).channel c = s.channel c := by
  simp only [State.channel, taken_emission]

theorem fieldSide_taken (p : Port) (f : Frame) (s : State) (n : Nat) : fieldSide (taken p f s) n = fieldSide s n := by
  simp only [fieldSide, taken_windows]

theorem forwardsReport_taken (p : Port) (f : Frame) (s : State) :
    forwardsReport (taken p f s) f = forwardsReport s f := by
  simp only [forwardsReport, fieldSide_taken, taken_part]

/-! ### Reading and changing a point record -/

/-- A configured point has a record in the table: a number without one reads as unconfigured (R1). -/
theorem lt_points_of_configured {s : State} {p : Nat} (h : (s.point p).configured = true) : p < s.points.length := by
  by_contra hp
  rw [State.point, List.getD_eq_default _ _ (by omega)] at h
  exact absurd h (by decide)

theorem point_modPoint_same {s : State} {p : Nat} (h : p < s.points.length) (f : Point → Point) :
    (s.modPoint p f).point p = f (s.point p) := by
  rw [State.point_modPoint, if_pos ⟨rfl, h⟩]

/-- Two changes that agree on the record as it stands are one change. -/
theorem modPoint_congr {s : State} {p : Nat} {f g : Point → Point} (h : f (s.point p) = g (s.point p)) :
    s.modPoint p f = s.modPoint p g := by
  have key : s.points.modify p f = s.points.modify p g := by
    apply List.ext_getElem?
    intro i
    simp only [List.getElem?_modify]
    by_cases hi : p = i
    · subst hi
      cases hx : s.points[p]? with
      | none => rfl
      | some r =>
        have : s.point p = r := by simp [State.point, List.getD_eq_getElem?_getD, hx]
        simp [← this, h]
    · simp [hi]
  simp only [State.modPoint, key]

theorem point_of_points {s t : State} (h : t.points = s.points) (p : Nat) : t.point p = s.point p := by
  simp only [State.point, h]

/-! ### What the lines' and the dispatch unit's part of a wake leave -/

/-- Shows all but the emission unit. -/
def beyondEmission (s : State) : State := { s with emission := .powerOn }

/-- Shows all but the attention unit and the dispatch unit. -/
def beyondInputs (s : State) : State := { s with attention := .powerOn true, dispatch := .powerOn }

theorem modLine_beyondEmission (l : LineId) (f : LineRec → LineRec) (s : State) :
    beyondEmission (s.modLine l f) = beyondEmission s := by cases l <;> rfl

theorem deriveOperating_beyondEmission (l : LineId) (s : State) :
    beyondEmission (deriveOperating l s) = beyondEmission s := by
  unfold deriveOperating
  simp only
  split
  · split
    · exact modLine_beyondEmission l _ s
    · exact modLine_beyondEmission l _ s
  · rfl

theorem wakeLines_beyondEmission (p : Nat) (s : State) : beyondEmission (wakeLines p s) = beyondEmission s := by
  unfold wakeLines
  apply foldl_keeps
  intro t l
  split
  · exact deriveOperating_beyondEmission l t
  · rfl

theorem beyondInputs_beyondAttention (s : State) : beyondInputs (beyondAttention s) = beyondInputs s := rfl

theorem followDispatch_beyondInputs (s : State) : beyondInputs (followDispatch s) = beyondInputs s :=
  widen beyondInputs_beyondAttention (followDispatch_beyondAttention s)

theorem wakeInput_beyondInputs (p : Nat) (i : ReqInput) (s : State) : beyondInputs (wakeInput p i s) = beyondInputs s := by
  unfold wakeInput
  split <;> rfl

theorem wakeTripSeen_beyondInputs (p : Nat) (s : State) : beyondInputs (wakeTripSeen p s) = beyondInputs s := by
  unfold wakeTripSeen
  split <;> rfl

theorem wakeDemands_beyondInputs (p : Nat) (s : State) : beyondInputs (wakeDemands p s) = beyondInputs s := by
  unfold wakeDemands
  simp only
  split <;> rfl

theorem wakeDispatch_beyondInputs (p : Nat) (s : State) : beyondInputs (wakeDispatch p s) = beyondInputs s := by
  unfold wakeDispatch
  split
  · rw [followDispatch_beyondInputs, wakeDemands_beyondInputs, wakeTripSeen_beyondInputs, wakeInput_beyondInputs,
      wakeInput_beyondInputs, wakeInput_beyondInputs]
  · rfl

/-! ### The point table under the operations of a wake -/

theorem serve_points (s : State) : (serve s).points = s.points :=
  (congrArg State.points (serve_standing s) :)

theorem raiseFlag_points (fl : Flag) (s : State) : (raiseFlag fl s).points = s.points :=
  (congrArg State.points (raiseFlag_beyondAttention fl s) :)

theorem handUpstream_points (e : UpEntry) (s : State) : (handUpstream e s).points = s.points :=
  (congrArg State.points (handUpstream_beyondUpstream e s) :)

theorem reportSelf_points (p : Nat) (a b : Value × Quality) (s : State) : (reportSelf p a b s).points = s.points := by
  unfold reportSelf
  split
  · exact handUpstream_points _ _
  · rfl

theorem wakeGuard_points (p : Nat) (s : State) : (wakeGuard p s).points = s.points :=
  (congrArg State.points (wakeGuard_beyondGuard p s) :)

theorem wakeLines_points (p : Nat) (s : State) : (wakeLines p s).points = s.points :=
  (congrArg State.points (wakeLines_beyondEmission p s) :)

theorem wakeDispatch_points (p : Nat) (s : State) : (wakeDispatch p s).points = s.points :=
  (congrArg State.points (wakeDispatch_beyondInputs p s) :)

/-- A wake of a point's consumers writes no point record. -/
theorem wakeConsumers_points (p : Nat) (s : State) : (wakeConsumers p s).points = s.points := by
  rw [wakeConsumers, wakeDispatch_points, wakeLines_points, wakeGuard_points]

/-! ### Events on a point -/

/-- The SELF entry after an event, read from the point table that the event left (R15): a configured SELF point hands its
entry upstream if the event changed what the point shows. -/
theorem reportSelf_of_points {s s1 t : State} (p : Nat) (h : t.points = s1.points) :
    reportSelf p (shown s p) (shown s1 p) t =
      if (s1.point p).configured = true ∧ (s1.point p).owner = .self ∧
          ¬((s.point p).effValue = (s1.point p).effValue ∧ (s.point p).effQuality = (s1.point p).effQuality) then
        handUpstream ⟨p, (s1.point p).effValue, qualityCode (s1.point p).effQuality, (s1.point p).cls⟩ t
      else t := by
  simp only [reportSelf, selfEntry, shown, point_of_points h, ne_eq, Prod.mk.injEq]

/-- An event on a point: the consumers wake, then the SELF entry goes upstream (R12, R15). -/
theorem pointEvent_eq (p : Nat) (change : State → State) (s : State) :
    pointEvent p change s =
      serve (if ((change s).point p).configured = true ∧ ((change s).point p).owner = .self ∧
          ¬((s.point p).effValue = ((change s).point p).effValue ∧
            (s.point p).effQuality = ((change s).point p).effQuality) then
        handUpstream ⟨p, ((change s).point p).effValue, qualityCode ((change s).point p).effQuality,
          ((change s).point p).cls⟩ (wakeConsumers p (change s))
      else wakeConsumers p (change s)) := by
  rw [pointEvent, reportSelf_of_points p (wakeConsumers_points p (change s))]

/-! ### Orders and queries to the part -/

theorem selfAnswer_of_points {s t : State} (h : t.points = s.points) (p : Nat) : selfAnswer t p = selfAnswer s p := by
  simp only [selfAnswer, point_of_points h]

theorem selfAnswer_configured {s : State} {p : Nat} (hp : p < 1024) (hc : (s.point p).configured = true) :
    selfAnswer s p = ⟨p, qualityCode (s.point p).effQuality, (s.point p).effValue, 0⟩ := by
  simp [selfAnswer, hp, hc]

theorem selfAnswer_unconfigured {s : State} {p : Nat} (h : ¬(p < 1024 ∧ (s.point p).configured = true)) :
    selfAnswer s p = ⟨p, 2, 0, 1⟩ := by
  have : ¬(decide (p < Config.points) && (s.point p).configured) = true := by simpa using h
  rw [selfAnswer, if_neg this]

/-- Settles O31: the answer reads the point table, which the taking of the frame left as it was. -/
theorem queryToPartIsAnswered : Obligations.QueryToPartIsAnswered := by
  intro f s h
  have hexec := exec_of_takes (act := takeSelfQuery f) rfl h
  simp only [takeSelfQuery, selfAnswer_of_points (taken_points .sPort f s), answerFrame, taken_part] at hexec
  constructor
  · rintro ⟨hp, hc⟩
    rw [hexec, selfAnswer_configured hp hc]
    rfl
  · intro hno
    rw [hexec, selfAnswer_unconfigured hno]
    rfl

/-- What leaves the point's configuration and owner standing wakes and reports as a SELF point (R13, R15). -/
theorem takeSelfEntry_self {s : State} {p : Nat} (v : Value) (hp : p < 1024) (hc : (s.point p).configured = true)
    (ho : (s.point p).owner = .self) :
    takeSelfEntry (p, v) s = (none, settle (writeSelf p (clampTo (s.point p).low (s.point p).high v) s)) := by
  simp [takeSelfEntry, hp, hc, ho]

theorem takeSelfEntry_station {s : State} {p n : Nat} (v : Value) (hp : p < 1024) (hc : (s.point p).configured = true)
    (ho : (s.point p).owner = .station n) : takeSelfEntry (p, v) s = (some .mismatch, s) := by
  simp [takeSelfEntry, hp, hc, ho]

theorem takeSelfEntry_unknown {s : State} {p : Nat} (v : Value) (h : 1024 ≤ p ∨ (s.point p).configured = false) :
    takeSelfEntry (p, v) s = (some .unknownPoint, s) := by
  have : (decide (p < Config.points) && (s.point p).configured) = false := by
    rcases h with h | h <;> simp [h]
  simp [takeSelfEntry, this]

theorem part_of_beyondWake {s t : State} (h : beyondWake t = beyondWake s) : t.part = s.part :=
  (congrArg State.part h :)

theorem storeUpdate_part (p : Nat) (v : Value) (q : Quality) (s : State) : (storeUpdate p v q s).part = s.part := rfl

theorem writeSelf_part (p : Nat) (v : Value) (s : State) : (writeSelf p v s).part = s.part := by
  rw [part_of_beyondWake (writeSelf_beyondWake p v s), storeUpdate_part]

theorem settle_part (s : State) : (settle s).part = s.part := part_of_beyondWake (settle_beyondWake s)

theorem takeSelfEntry_part (e : Nat × Value) (s : State) : (takeSelfEntry e s).2.part = s.part := by
  unfold takeSelfEntry
  simp only
  split
  · split
    · rw [settle_part, writeSelf_part]
    · rfl
  · rfl

/-- Judging a frame's entries keeps what the judgement of one entry keeps. -/
theorem judgeEntries_keeps {β : Type} (M : State → β) {judge : Nat × Value → State → Option Status × State}
    (h : ∀ e s, M (judge e s).2 = M s) (l : List (Nat × Value)) (s : State) : M (judgeEntries judge l s).2 = M s := by
  induction l generalizing s with
  | nil => rfl
  | cons e l ih => simp only [judgeEntries]; rw [ih, h]

/-- Settles O30. -/
theorem orderToPartWritesPoints : Obligations.OrderToPartWritesPoints := by
  refine ⟨fun f s h => ?_, fun p v s => ⟨fun hp hc ho => ?_, fun n hp hc ho => takeSelfEntry_station v hp hc ho,
    takeSelfEntry_unknown v⟩⟩
  · have hpart := (judgeEntries_keeps State.part takeSelfEntry_part (orderEntries f) (taken .sPort f s)).trans
      (taken_part .sPort f s)
    simp only [exec_of_takes (act := takeSelfOrder f) rfl h, takeSelfOrder, replyRefusals, placeReply, resultStatus, hpart]
  · intro s1 q woken
    have hstore : storeUpdate p (clampTo (s.point p).low (s.point p).high v) .good s = s1 := modPoint_congr rfl
    have hq : q = _ := point_modPoint_same (lt_points_of_configured hc) _
    have hqc : q.configured = true := by rw [hq]; exact hc
    have hqo : q.owner = .self := by rw [hq]; exact ho
    rw [takeSelfEntry_self v hp hc ho]
    refine ⟨?_, ?_⟩
    · rw [writeSelf, pointEvent_eq, hstore]
      simp only [show s1.point p = q from rfl, hqc, hqo, true_and, ite_not]
      rfl
    · rw [settle_beyondWake, writeSelf_beyondWake, hstore]

/-! ### Field reports -/

/-- One entry of a field REPORT, with the forwarding of the whole frame written out (R27). -/
theorem reportEntry_forwards (f : Frame) (s u : State) (e : ReportEntry) :
    reportEntry (forwardsReport s f) f.src u e =
      serve (if f.dest = s.part.station ∨ fieldSide s f.dest = false then
        handUpstream ⟨e.point, e.value, e.code, upstreamClass (takeReportEntry f.src e u) e.point⟩
          (takeReportEntry f.src e u)
      else takeReportEntry f.src e u) := by
  simp [reportEntry, forwardsReport]

theorem takeReportEntry_owner {src : Nat} {e : ReportEntry} {s : State} (hp : e.point < 1024)
    (hc : (s.point e.point).configured = true) (ho : (s.point e.point).owner = .station src) :
    takeReportEntry src e s = acceptReport e.point e.value (mappedQuality e.code) s := by
  simp [takeReportEntry, hp, hc, ho]

theorem takeReportEntry_foreign {src : Nat} {e : ReportEntry} {s : State} (hp : e.point < 1024)
    (hc : (s.point e.point).configured = true) (ho : (s.point e.point).owner ≠ .station src) :
    takeReportEntry src e s = s.modPoint e.point (fun r => { r with foreign := bump r.foreign }) := by
  simp [takeReportEntry, hp, hc, ho]

theorem takeReportEntry_unconfigured {src : Nat} {e : ReportEntry} {s : State}
    (h : 1024 ≤ e.point ∨ (s.point e.point).configured = false) : takeReportEntry src e s = s := by
  have : (decide (e.point < Config.points) && (s.point e.point).configured) = false := by
    rcases h with h | h <;> simp [h]
  simp [takeReportEntry, this]

theorem handUpstream_queued {e : UpEntry} {s : State} (h : ∃ x ∈ s.fwd.up, x.point = e.point) :
    handUpstream e s = { s with fwd := { s.fwd with up := coalesce e s.fwd.up } } := by
  have : s.fwd.up.any (fun x => decide (x.point = e.point)) = true := by simpa using h
  simp [handUpstream, this]

theorem handUpstream_refused {e : UpEntry} {s : State} (h : ¬∃ x ∈ s.fwd.up, x.point = e.point) (hc : e.cls = .routine)
    (hr : s.fwd.thinning = true ∨ 128 ≤ s.fwd.up.length) :
    handUpstream e s = s.countFwd (fun c => { c with thinningRefusal := bump c.thinningRefusal }) := by
  have hq : ¬s.fwd.up.any (fun x => decide (x.point = e.point)) = true := by simpa using h
  rw [handUpstream, if_neg hq, if_pos ⟨hc, hr⟩]

theorem handUpstream_lost {e : UpEntry} {s : State} (h : ¬∃ x ∈ s.fwd.up, x.point = e.point) (hc : e.cls = .essential)
    (hf : 128 ≤ s.fwd.up.length) :
    handUpstream e s = raiseFlag .upstreamLoss (s.countFwd (fun c => { c with upstreamLoss := bump c.upstreamLoss })) := by
  have hq : ¬s.fwd.up.any (fun x => decide (x.point = e.point)) = true := by simpa using h
  rw [handUpstream, if_neg hq, if_neg (fun hr => by simp [hc] at hr), if_pos hf]

/-- An entry that finds a place goes to the tail, and the high watermark begins THINNING (R32). -/
theorem handUpstream_placed {e : UpEntry} {s : State} (h : ¬∃ x ∈ s.fwd.up, x.point = e.point)
    (ht : e.cls = .essential ∨ s.fwd.thinning = false) (hf : ¬128 ≤ s.fwd.up.length) :
    handUpstream e s = (let s1 : State := { s with fwd := { s.fwd with up := s.fwd.up ++ [e] } }
      if s.fwd.highMark ≤ s.fwd.up.length + 1 then setThinning true s1 else s1) := by
  have hq : ¬s.fwd.up.any (fun x => decide (x.point = e.point)) = true := by simpa using h
  have hr : ¬(e.cls = .routine ∧ (s.fwd.thinning = true ∨ Config.upstreamCap ≤ s.fwd.up.length)) := by
    rintro ⟨hc, hr⟩
    rcases ht with ht | ht
    · simp [ht] at hc
    · simp only [ht, Bool.false_eq_true, false_or] at hr
      exact hf hr
  rw [handUpstream, if_neg hq, if_neg hr, if_neg hf]
  simp only [List.length_append, List.length_singleton]

/-- Settles O35. -/
theorem fieldReportUpdatesPoints : Obligations.FieldReportUpdatesPoints := by
  refine ⟨fun f s h => ?_, fun src e s => ⟨fun hp hc ho => ?_, takeReportEntry_foreign, takeReportEntry_unconfigured⟩,
    fun e s => ⟨handUpstream_queued, fun hq => ⟨handUpstream_refused hq, handUpstream_lost hq, fun ht hf => ⟨?_, ?_⟩⟩⟩⟩
  · rw [exec_of_takes (act := takeReport f) rfl h, takeReport, forwardsReport_taken]
    congr 3
    funext u e
    rw [reportEntry_forwards]
    rfl
  · rw [takeReportEntry_owner hp hc ho]
    exact ⟨rfl, acceptReport_beyondWake _ _ _ _⟩
  · intro hlow
    rw [handUpstream_placed hq ht hf, if_neg (by omega)]
  · intro hhigh
    rw [handUpstream_placed hq ht hf, if_pos hhigh]
    rfl

end Sys2Proof.Machine
end

section
namespace Sys2Proof.Machine
open Sys2Proof

/-! ### What the cycle occasions keep

A relation between a state and a later one holds across `settle` if it holds across each thing that a cycle does. -/

/-- A relation that each operation of a cycle occasion respects: serving the transmitters, handing the orders, changing
the dispatch unit's runtime fields, judging its conditions, and writing a point that the part publishes. -/
structure CycleFrame (R : State → State → Prop) : Prop where
  refl       : ∀ s, R s s
  trans      : ∀ {s t u}, R s t → R t u → R s u
  serve      : ∀ s, R s (serve s)
  handed     : ∀ r s, R s (handAll r s).2
  unit       : ∀ s d, d.plan = s.dispatch.plan → R s { s with dispatch := d }
  conditions : ∀ s, R s (followDispatch s)
  written    : ∀ p v s, publishes s.emission.plan s.dispatch.cfg p = true → R s (writeSelf p v s)

namespace CycleFrame

variable {R : State → State → Prop} (h : CycleFrame R)
include h

theorem publish (p : Option Nat) (v : Value) (s : State)
    (hp : ∀ q, p = some q → publishes s.emission.plan s.dispatch.cfg q = true) : R s (publish p v s) := by
  unfold Machine.publish
  split
  · exact h.refl s
  · exact h.written _ _ _ (hp _ rfl)

theorem publishState (s : State) : R s (publishState s) :=
  h.publish _ _ _ fun _ hq => publishes_dispatch (.inr (.inr hq))

theorem leaveHold (s : State) : R s (leaveHold s) := by
  refine h.trans (h.trans (h.unit s _ ?_) (h.conditions _)) (h.publishState _)
  rfl

theorem runCycle (s : State) : R s (runCycle s) := by
  unfold Machine.runCycle
  refine h.trans (h.trans (h.trans (h.trans (h.trans (h.unit s _ ?_) (h.handed _ _)) (h.unit _ _ ?_))
    (h.publish _ _ _ fun _ hq => publishes_dispatch (.inl hq)))
    (h.publish _ _ _ fun _ hq => publishes_dispatch (.inr (.inl hq))))
    (h.publish _ _ _ fun _ hq => publishes_dispatch (.inr (.inr hq)))
  · rfl
  · rfl

theorem actOnOccasion (s : State) : R s (actOnOccasion s) := by
  unfold Machine.actOnOccasion
  split
  · exact h.refl s
  · exact h.runCycle s
  · split
    · exact h.trans (h.leaveHold s) (h.runCycle _)
    · exact h.refl s

theorem runOccasions (n : Nat) (s : State) : R s (runOccasions n s) := by
  induction n generalizing s with
  | zero => exact h.refl s
  | succ n ih =>
    unfold Machine.runOccasions
    split
    · refine h.trans (h.trans (h.unit s _ ?_) (h.actOnOccasion _)) (ih _)
      rfl
    · exact h.refl s

/-- The cycle occasions that an event gives, and the service of what they place, stay within the relation. -/
theorem settle (s : State) : R s (settle s) := h.trans (h.runOccasions _ s) (h.serve _)

end CycleFrame

theorem handOutput_beyondGuard (r : CycleRecord) (k : Nat) (v : Value) (s : State) :
    beyondGuard (handOutput r k v s).2 = beyondGuard s := by
  unfold handOutput
  split
  · split
    · rfl
    · exact (rfl : _ = beyondGuard (guardOrder _ _ _ s).2).trans (guardOrder_beyondGuard _ _ _ s)
  · rfl

/-- Handing a cycle's outputs one after another respects a relation that the handing of one and the service respect. -/
theorem handAll_induct {R : State → State → Prop} (refl : ∀ s, R s s) (trans : ∀ {s t u}, R s t → R t u → R s u)
    (one : ∀ r k v s, R s (handOutput r k v s).2) (serves : ∀ s, R s (serve s)) (r : CycleRecord) (s : State) :
    R s (handAll r s).2 := by
  unfold handAll
  generalize (List.range 5).zip r.values = l
  suffices h : ∀ (l : List (Nat × Value)) (acc : List Handed × State),
      R acc.2 (l.foldl (fun (acc : List Handed × State) kv =>
        let a := handOutput r kv.1 kv.2 acc.2
        (acc.1 ++ [a.1], serve a.2)) acc).2 from h l ([], s)
  intro l
  induction l with
  | nil => exact fun acc => refl acc.2
  | cons kv l ih =>
    intro acc
    exact trans (trans (one r kv.1 kv.2 acc.2) (serves _))
      (ih (acc.1 ++ [(handOutput r kv.1 kv.2 acc.2).1], serve (handOutput r kv.1 kv.2 acc.2).2))

theorem handAll_beyondGuard (r : CycleRecord) (s : State) : beyondGuard (handAll r s).2 = beyondGuard s :=
  handAll_induct (R := fun s t => beyondGuard t = beyondGuard s) (fun _ => rfl) (fun h1 h2 => h2.trans h1)
    handOutput_beyondGuard serve_beyondGuard r s

theorem points_of_beyondGuard {s t : State} (h : beyondGuard t = beyondGuard s) : t.points = s.points :=
  (congrArg State.points h :)

/-! ### Substitutions through a wake and its cycle occasions -/

/-- The substitution of every point record: whether one stands, and its value. -/
def substitutions (l : List Point) : List (Bool × Value) := l.map (fun r => (r.subActive, r.subValue))

theorem substitution_of_eq {l m : List Point} (h : substitutions l = substitutions m) (p : Nat) :
    (l.getD p .blank).subActive = (m.getD p .blank).subActive ∧ (l.getD p .blank).subValue = (m.getD p .blank).subValue := by
  have key (n : List Point) : (substitutions n).getD p (false, 0) =
      ((n.getD p .blank).subActive, (n.getD p .blank).subValue) := by
    simp only [substitutions, List.getD_eq_getElem?_getD, List.getElem?_map]
    cases n[p]? <;> rfl
  have h' := congrArg (fun n => List.getD n p (false, 0)) h
  simp only [key, Prod.mk.injEq] at h'
  exact h'

theorem storeUpdate_substitutions (p : Nat) (v : Value) (q : Quality) (s : State) :
    substitutions (storeUpdate p v q s).points = substitutions s.points :=
  map_modify_keeps (fun r : Point => (r.subActive, r.subValue)) _ (fun _ => by rfl) s.points p

/-- The write of a SELF point leaves the point table as the update of its record does. -/
theorem writeSelf_points (p : Nat) (v : Value) (s : State) :
    (writeSelf p v s).points = (storeUpdate p v .good s).points := by
  unfold writeSelf pointEvent
  rw [serve_points, reportSelf_points, wakeConsumers_points]

theorem followDispatch_points (s : State) : (followDispatch s).points = s.points :=
  (congrArg State.points (followDispatch_beyondAttention s) :)

/-- No cycle occasion begins or ends a substitution: a write of a published point leaves it (R3, R14). -/
theorem settle_substitutions (s : State) : substitutions (settle s).points = substitutions s.points := by
  refine CycleFrame.settle (R := fun s t => substitutions t.points = substitutions s.points) ?_ s
  exact {
    refl := fun _ => rfl
    trans := fun h1 h2 => h2.trans h1
    serve := fun s => by rw [serve_points]
    handed := fun r s => by rw [points_of_beyondGuard (handAll_beyondGuard r s)]
    unit := fun _ _ _ => rfl
    conditions := fun s => by rw [followDispatch_points]
    written := fun p v s _ => by rw [writeSelf_points, storeUpdate_substitutions] }

/-! ### Substitution commands -/

theorem effValue_eq (r : Point) : r.effValue = if r.subActive = true then r.subValue else r.value := rfl

theorem effQuality_eq (r : Point) : r.effQuality =
    if r.subActive = true then .substituted else if r.fresh = .fresh then r.quality else .stale := by
  unfold Point.effQuality
  cases r.fresh <;> rfl

theorem configuredPoint_iff {s : State} {p : Nat} :
    configuredPoint s p = true ↔ p < 1024 ∧ (s.point p).configured = true := by
  simp [configuredPoint]

theorem configuredPoint_taken (q : Port) (f : Frame) (s : State) (p : Nat) :
    configuredPoint (taken q f s) p = configuredPoint s p := by
  simp only [configuredPoint, taken_point]

/-- The service that a done command passes before its reply finds nothing where the command has settled. -/
theorem replyDone_settle (f : Frame) (s : State) : replyDone f (settle s) = replySetup f .done (settle s) := by
  rw [replyDone, settle, serve_serve]

theorem serve_taken (p : Port) (f : Frame) (s : State) : serve (taken p f s) = taken p f s := serve_serve _

/-- A change of a point's substitution: consumers wake, the SELF entry goes upstream, cycle occasions are acted on. -/
theorem substitutionEvent_eq {s t : State} {p : Nat} {change : Point → Point} (ht : t.points = s.points)
    (hq : ((t.modPoint p change).point p).configured = true) :
    settle (pointEvent p (fun t => t.modPoint p change) t) =
      settle (serve (if ((t.modPoint p change).point p).owner = .self ∧
          ¬((s.point p).effValue = ((t.modPoint p change).point p).effValue ∧
            (s.point p).effQuality = ((t.modPoint p change).point p).effQuality) then
        handUpstream ⟨p, ((t.modPoint p change).point p).effValue,
          qualityCode ((t.modPoint p change).point p).effQuality, ((t.modPoint p change).point p).cls⟩
          (wakeConsumers p (t.modPoint p change))
      else wakeConsumers p (t.modPoint p change))) := by
  simp only [pointEvent_eq, hq, true_and, point_of_points ht]

theorem pointEvent_points (p : Nat) (change : State → State) (s : State) :
    (pointEvent p change s).points = (change s).points := by
  unfold pointEvent
  rw [serve_points, reportSelf_points, wakeConsumers_points]

/-- What a point's substitution is once its event has settled: as the change of its record made it. -/
theorem substitution_settled {t : State} {p : Nat} {change : Point → Point} (hp : p < t.points.length) :
    ((settle (pointEvent p (fun t => t.modPoint p change) t)).point p).subActive = (change (t.point p)).subActive ∧
    ((settle (pointEvent p (fun t => t.modPoint p change) t)).point p).subValue = (change (t.point p)).subValue := by
  have h := substitution_of_eq (settle_substitutions (pointEvent p (fun t => t.modPoint p change) t)) p
  rw [pointEvent_points] at h
  rw [← point_modPoint_same hp change]
  exact h

/-- Settles O50. -/
theorem substitutionShowsThrough : Obligations.SubstitutionShowsThrough := by
  refine ⟨fun r => ⟨effValue_eq r, effQuality_eq r⟩, fun f s => ?_⟩
  intro t changed
  have htp : t.points = s.points := taken_points .sPort f s
  have hpt (p : Nat) : t.point p = s.point p := taken_point .sPort f s p
  have hlen {p : Nat} (hc : (s.point p).configured = true) : p < t.points.length := by
    rw [htp]; exact lt_points_of_configured hc
  constructor
  · intro h p
    have hexec := exec_of_takes (act := takeSubstitute f) rfl h
    have hconf : configuredPoint t p = configuredPoint s p := configuredPoint_taken .sPort f s p
    refine ⟨fun hn => ?_, fun hn hno => ?_, fun hn hp hc => ?_⟩
    · rw [hexec, takeSubstitute, if_pos hn]
    · have hno' : ¬configuredPoint t p = true := by rw [hconf, configuredPoint_iff]; exact hno
      rw [hexec, takeSubstitute, if_neg (by omega), if_neg hno']
    · have hyes : configuredPoint t p = true := by rw [hconf, configuredPoint_iff]; exact ⟨hp, hc⟩
      have hq : ((t.modPoint p (fun r => { r with subActive := true, subValue := valueAt f.body 8 })).point p).configured
          = true := by rw [point_modPoint_same (hlen hc), hpt]; exact hc
      obtain ⟨hact, hval⟩ := substitution_settled
        (change := fun r => { r with subActive := true, subValue := valueAt f.body 8 }) (hlen hc)
      refine ⟨settle (substitutePoint p (valueAt f.body 8) t), ?_, substitutionEvent_eq htp hq, ?_, ?_, ?_⟩
      · rw [hexec, takeSubstitute, if_neg (by omega), if_pos hyes, replyDone_settle]
      · exact (if_pos hact).trans hval
      · exact if_pos hact
      · rw [settle_beyondWake, substitutePoint_beyondWake]
  · intro h p
    have hexec := exec_of_takes (act := takeUnsubstitute f) rfl h
    have hconf : configuredPoint t p = configuredPoint s p := configuredPoint_taken .sPort f s p
    refine ⟨fun hno => ?_, fun hp hc hsub => ?_, fun hp hc hsub => ?_⟩
    · have hno' : ¬configuredPoint t p = true := by rw [hconf, configuredPoint_iff]; exact hno
      rw [hexec, takeUnsubstitute, if_neg hno']
    · have hyes : configuredPoint t p = true := by rw [hconf, configuredPoint_iff]; exact ⟨hp, hc⟩
      have hoff : ¬(t.point p).subActive = true := by rw [hpt, hsub]; exact Bool.false_ne_true
      rw [hexec, takeUnsubstitute, if_pos hyes, if_neg hoff, replyDone, serve_taken]
    · have hyes : configuredPoint t p = true := by rw [hconf, configuredPoint_iff]; exact ⟨hp, hc⟩
      have hon : (t.point p).subActive = true := by rw [hpt, hsub]
      have hq : ((t.modPoint p (fun r => { r with subActive := false })).point p).configured = true := by
        rw [point_modPoint_same (hlen hc), hpt]; exact hc
      refine ⟨settle (unsubstitutePoint p t), ?_, substitutionEvent_eq htp hq, ?_, ?_⟩
      · rw [hexec, takeUnsubstitute, if_pos hyes, if_pos hon, replyDone_settle]
      · exact (substitution_settled (change := fun r => { r with subActive := false }) (hlen hc)).1
      · rw [settle_beyondWake, unsubstitutePoint_beyondWake]

end Sys2Proof.Machine
end

section
namespace Sys2Proof.Machine
open Sys2Proof

/-! ### Attention flags through a wake and its cycle occasions -/

/-- A later state's attention unit keeps its size, every EVENT flag that was set, and the TIME-UNSET condition. Nothing
but CLEAR, FORCE, a TIME and a reset changes these otherwise (R201, R205). -/
structure FlagsKept (s t : State) : Prop where
  length : t.attention.flags.length = s.attention.flags.length
  unset  : (t.flag 12).cond = (s.flag 12).cond
  events : ∀ j, 13 ≤ j → (s.flag j).isSet = true → (t.flag j).isSet = true

namespace FlagsKept

theorem of_flags {s t : State} (h : t.attention.flags = s.attention.flags) : FlagsKept s t := by
  have key (j : Nat) : t.flag j = s.flag j := by simp only [State.flag, h]
  exact ⟨congrArg List.length h, by rw [key], fun j _ hj => by rw [key]; exact hj⟩

theorem refl (s : State) : FlagsKept s s := of_flags rfl

theorem trans {s t u : State} (h1 : FlagsKept s t) (h2 : FlagsKept t u) : FlagsKept s u :=
  ⟨h2.length.trans h1.length, h2.unset.trans h1.unset, fun j hj hs => h2.events j hj (h1.events j hj hs)⟩

/-- What keeps the attention unit's flags as they are keeps the flags. -/
theorem then_flags {s t u : State} (h : FlagsKept s t) (e : u.attention.flags = t.attention.flags) : FlagsKept s u :=
  h.trans (of_flags e)

theorem modFlag_low {i : Nat} (hi : i < 12) (f : FlagRec → FlagRec) (s : State) : FlagsKept s (s.modFlag i f) := by
  have key (j : Nat) (hj : 12 ≤ j) : (s.modFlag i f).flag j = s.flag j := by
    rw [State.flag_modFlag, if_neg (by omega)]
  exact ⟨List.length_modify .., by rw [key 12 (by omega)], fun j hj hs => by rw [key j (by omega)]; exact hs⟩

theorem modFlag_rise (i : Nat) (s : State) : FlagsKept s (s.modFlag i (fun r => { r with isSet := true })) := by
  refine ⟨List.length_modify .., ?_, fun j _ hs => ?_⟩ <;> rw [State.flag_modFlag]
  · split
    · next h => rw [h.1]
    · rfl
  · split
    · rfl
    · exact hs

end FlagsKept

theorem placeNotice_flags (i : Nat) (s : State) : (placeNotice i s).attention.flags = s.attention.flags := by
  unfold placeNotice
  split
  · rfl
  · split <;> rfl

section
variable {s t : State}

theorem riseAt_flagsKept (i : Nat) (h : FlagsKept s t) : FlagsKept s (riseAt i t) := by
  have hrise := h.trans (.modFlag_rise i t)
  unfold riseAt
  simp only
  split
  · exact h
  · split
    · exact hrise.then_flags (placeNotice_flags i _)
    · exact hrise

theorem raiseFlag_flagsKept (fl : Flag) (h : FlagsKept s t) : FlagsKept s (raiseFlag fl t) := riseAt_flagsKept _ h

theorem setCondition_flagsKept {fl : Flag} (b : Bool) (hfl : fl.index < 12) (h : FlagsKept s t) :
    FlagsKept s (setCondition fl b t) := by
  have hcond := h.trans (.modFlag_low hfl (fun r => { r with cond := b }) t)
  unfold setCondition
  simp only
  split
  · exact h
  · split
    · exact riseAt_flagsKept _ hcond
    · split
      · exact hcond
      · exact hcond.trans (.modFlag_low hfl _ _)

/-! Each operation that a wake or a close reaches keeps the flags, in the order of the model's files. -/

theorem setThinning_flagsKept (b : Bool) (h : FlagsKept s t) : FlagsKept s (setThinning b t) :=
  setCondition_flagsKept b (by decide) (h.then_flags rfl)

theorem handUpstream_flagsKept (e : UpEntry) (h : FlagsKept s t) : FlagsKept s (handUpstream e t) := by
  unfold handUpstream
  simp only
  split
  · exact h.then_flags rfl
  · split
    · exact h.then_flags rfl
    · split
      · exact raiseFlag_flagsKept _ (h.then_flags rfl)
      · split
        · exact setThinning_flagsKept _ (h.then_flags rfl)
        · exact h.then_flags rfl

theorem removeUpstream_flagsKept (h : FlagsKept s t) : FlagsKept s (removeUpstream t) := by
  unfold removeUpstream judgeRemoval
  split
  · exact setThinning_flagsKept _ (h.then_flags rfl)
  · exact h.then_flags rfl

theorem freezeRecorder_flagsKept (h : FlagsKept s t) : FlagsKept s (freezeRecorder t) :=
  setCondition_flagsKept true (by decide) (h.then_flags rfl)

theorem enterRecord_flagsKept (r : RecEntry) (h : FlagsKept s t) : FlagsKept s (enterRecord r t) := by
  unfold enterRecord
  simp only
  split
  · exact h
  · exact h
  · exact h.then_flags rfl
  · split
    · exact freezeRecorder_flagsKept (h.then_flags rfl)
    · exact h.then_flags rfl

theorem enterTrigger_flagsKept (r : RecEntry) (h : FlagsKept s t) : FlagsKept s (enterTrigger r t) := by
  unfold enterTrigger
  simp only
  split
  · exact h
  · exact h.then_flags rfl
  · split
    · exact freezeRecorder_flagsKept (h.then_flags rfl)
    · exact h.then_flags rfl
  · exact enterRecord_flagsKept r (h.then_flags rfl)

theorem recordOutcome_flagsKept (org : RecOrigin) (o : RecOutcome) (a b p : Nat) (v : Value) (h : FlagsKept s t) :
    FlagsKept s (recordOutcome org o a b p v t) := by
  unfold recordOutcome
  split
  · exact enterRecord_flagsKept _ h
  · exact h

theorem markerTrigger_flagsKept (p : Option Nat) (v : Option Value) (m : TriggerMark) (h : FlagsKept s t) :
    FlagsKept s (markerTrigger p v m t) := by
  unfold markerTrigger
  split
  · exact enterTrigger_flagsKept _ h
  · exact h

theorem recordTripSafe_flagsKept (p : Nat) (v : Value) (h : FlagsKept s t) : FlagsKept s (recordTripSafe p v t) := by
  unfold recordTripSafe
  split
  · exact enterTrigger_flagsKept _ h
  · exact recordOutcome_flagsKept _ _ _ _ _ _ h

theorem sendFlow_attention (p : Port) (s : State) : (sendFlow p s).attention = s.attention := by
  unfold sendFlow
  simp only
  split
  · split
    · rfl
    · exact State.modPort_attention ..
    · exact State.modPort_attention ..
  · rfl

theorem serveF_attention (s : State) : (serveF s).attention = s.attention := by
  unfold serveF grantTrip grantRequester grantSupervisory grantDispatch grantStep grantQuery
  (repeat' split) <;> rfl

theorem serveS_flagsKept (h : FlagsKept s t) : FlagsKept s (serveS t) := by
  unfold serveS
  split
  · split
    · exact h
    · rename_i src _
      cases src with
      | reply => exact h.then_flags rfl
      | notice => exact h.then_flags rfl
      | upPass => exact h.then_flags rfl
      | upstream => exact (removeUpstream_flagsKept h).then_flags rfl
  · exact h

theorem serve_flagsKept (h : FlagsKept s t) : FlagsKept s (serve t) := by
  unfold serve
  refine (serveS_flagsKept (h.then_flags ?_)).then_flags (by rw [serveF_attention])
  simp only [sendFlow_attention]

theorem followLatched_flagsKept (h : FlagsKept s t) : FlagsKept s (followLatched t) :=
  setCondition_flagsKept _ (by decide) h

theorem withdrawStep_attention (i : Nat) (s : State) : (withdrawStep i s).attention = s.attention := by
  unfold withdrawStep
  split <;> rfl

theorem withdrawSlot_attention (k : Nat) (s : State) : (withdrawSlot k s).attention = s.attention := by
  unfold withdrawSlot
  split <;> rfl

theorem withdrawOrders_attention (i : Nat) (s : State) : (withdrawOrders i s).attention = s.attention := by
  unfold withdrawOrders
  simp only [State.modGuard_attention, withdrawStep_attention]
  rw [foldl_keeps State.attention _ fun t k => withdrawSlot_attention k t]

theorem enterTripOrder_attention (i : Nat) (s : State) : (enterTripOrder i s).attention = s.attention := by
  unfold enterTripOrder
  split <;> rfl

theorem issue_attention (i : Nat) (v : Value) (s : State) : (issue i v s).attention = s.attention := rfl

theorem placeOrder_attention (org : OrderOrigin) (p : Nat) (v : Value) (s : State) :
    (placeOrder org p v s).attention = s.attention := by
  unfold placeOrder
  split <;> rfl

theorem restrictWaiting_attention (i : Nat) (s : State) : (restrictWaiting i s).attention = s.attention := rfl

theorem tripOutput_flagsKept (i : Nat) (h : FlagsKept s t) : FlagsKept s (tripOutput i t) := by
  have hserved : FlagsKept s (serve (withdrawOrders i t)) :=
    serve_flagsKept (h.then_flags (by rw [withdrawOrders_attention]))
  unfold tripOutput
  simp only
  generalize serve (withdrawOrders i t) = u at hserved ⊢
  apply serve_flagsKept
  split
  · refine recordTripSafe_flagsKept _ _ (raiseFlag_flagsKept _ (followLatched_flagsKept (hserved.then_flags ?_)))
    simp only [State.modGuard_attention, issue_attention, enterTripOrder_attention]
  · refine markerTrigger_flagsKept _ _ _ (raiseFlag_flagsKept _ (followLatched_flagsKept (hserved.then_flags ?_)))
    simp only [State.modGuard_attention]

theorem interlockEnds_flagsKept (i : Nat) (h : FlagsKept s t) : FlagsKept s (interlockEnds i t) :=
  followLatched_flagsKept (h.then_flags (by rw [State.modGuard_attention]))

theorem wakeOutput_flagsKept (p i : Nat) (h : FlagsKept s t) : FlagsKept s (wakeOutput p i t) := by
  unfold wakeOutput
  simp only
  have hseen (f : GuardRec → GuardRec) : FlagsKept s (t.modGuard i f) :=
    h.then_flags (by rw [State.modGuard_attention])
  split
  · split
    · exact tripOutput_flagsKept i (hseen _)
    · split
      · exact interlockEnds_flagsKept i (hseen _)
      · exact hseen _
  · exact h

theorem foldl_flagsKept {α : Type} {f : State → α → State} (hf : ∀ t a, FlagsKept s t → FlagsKept s (f t a))
    (l : List α) (h : FlagsKept s t) : FlagsKept s (l.foldl f t) := by
  induction l generalizing t with
  | nil => exact h
  | cons a l ih => exact ih (hf t a h)

theorem wakeGuard_flagsKept (p : Nat) (h : FlagsKept s t) : FlagsKept s (wakeGuard p t) := by
  unfold wakeGuard
  split
  · exact h
  · exact foldl_flagsKept (fun t i => wakeOutput_flagsKept p i) _ h

theorem recordDecision_flagsKept (org : OrderOrigin) (o : RecOutcome) (p : Nat) (v : Value) (h : FlagsKept s t) :
    FlagsKept s (recordDecision org o p v t) := by
  unfold recordDecision
  split <;> exact recordOutcome_flagsKept _ _ _ _ _ _ h

theorem judgeOrder_flagsKept (org : OrderOrigin) (i : Nat) (v : Value) (h : FlagsKept s t) :
    FlagsKept s (judgeOrder org i v t) := by
  unfold judgeOrder
  simp only
  split
  · refine recordDecision_flagsKept _ _ _ _ (h.then_flags ?_)
    rw [issue_attention, placeOrder_attention, State.modGuard_attention]
  · split
    · refine recordDecision_flagsKept _ _ _ _ (h.then_flags ?_)
      rw [issue_attention, placeOrder_attention, State.modGuard_attention]
    · refine recordDecision_flagsKept _ _ _ _ (h.then_flags ?_)
      rw [State.modGuard_attention, State.modGuard_attention]

theorem guardOrder_flagsKept (org : OrderOrigin) (i : Nat) (v : Value) (h : FlagsKept s t) :
    FlagsKept s (guardOrder org i v t).2 := by
  have hstep : FlagsKept s (withdrawStep i t) := h.then_flags (by rw [withdrawStep_attention])
  unfold guardOrder
  simp only
  generalize withdrawStep i t = u at hstep ⊢
  have hcount (f : GuardRec → GuardRec) : FlagsKept s (u.modGuard i f) :=
    hstep.then_flags (by rw [State.modGuard_attention])
  split
  · exact judgeOrder_flagsKept _ _ _ hstep
  · exact recordDecision_flagsKept _ _ _ _ (hcount _)
  · apply recordDecision_flagsKept
    split
    · exact raiseFlag_flagsKept _ (hcount _)
    · exact hcount _
  · exact recordDecision_flagsKept _ _ _ _ (hcount _)

theorem writeStep_attention (p : PendingStep) (s : State) : (writeStep p s).attention = s.attention := rfl

theorem restrictOutput_flagsKept (l : LineId) (i : Nat) (h : FlagsKept s t) : FlagsKept s (restrictOutput l i t) := by
  unfold restrictOutput
  simp only
  have hwait : FlagsKept s (restrictWaiting i t) := h.then_flags (by rw [restrictWaiting_attention])
  split
  · split
    · exact hwait
    · split
      · refine serve_flagsKept (recordOutcome_flagsKept _ _ _ _ _ _ (hwait.then_flags ?_))
        rw [issue_attention, writeStep_attention]
      · exact hwait
  · exact h

theorem restrictEntry_flagsKept (l : LineId) (h : FlagsKept s t) : FlagsKept s (restrictEntry l t) :=
  foldl_flagsKept (fun _ i => restrictOutput_flagsKept l i) _ h

theorem wakeLines_attention (p : Nat) (s : State) : (wakeLines p s).attention = s.attention :=
  (congrArg State.attention (wakeLines_beyondEmission p s) :)

theorem followDispatch_flagsKept (h : FlagsKept s t) : FlagsKept s (followDispatch t) := by
  unfold followDispatch
  simp only
  exact setCondition_flagsKept _ (by decide) (setCondition_flagsKept _ (by decide) (setCondition_flagsKept _ (by decide) h))

theorem wakeInput_attention (p : Nat) (i : ReqInput) (s : State) : (wakeInput p i s).attention = s.attention := by
  unfold wakeInput
  split <;> rfl

theorem wakeTripSeen_attention (p : Nat) (s : State) : (wakeTripSeen p s).attention = s.attention := by
  unfold wakeTripSeen
  split <;> rfl

theorem wakeDemands_attention (p : Nat) (s : State) : (wakeDemands p s).attention = s.attention := by
  unfold wakeDemands
  simp only
  split <;> rfl

theorem wakeDispatch_flagsKept (p : Nat) (h : FlagsKept s t) : FlagsKept s (wakeDispatch p t) := by
  unfold wakeDispatch
  split
  · refine followDispatch_flagsKept (h.then_flags ?_)
    simp only [wakeDemands_attention, wakeTripSeen_attention, wakeInput_attention]
  · exact h

theorem wakeConsumers_flagsKept (p : Nat) (h : FlagsKept s t) : FlagsKept s (wakeConsumers p t) :=
  wakeDispatch_flagsKept p ((wakeGuard_flagsKept p h).then_flags (by rw [wakeLines_attention]))

theorem reportSelf_flagsKept (p : Nat) (a b : Value × Quality) (h : FlagsKept s t) :
    FlagsKept s (reportSelf p a b t) := by
  unfold reportSelf
  split
  · exact handUpstream_flagsKept _ h
  · exact h

theorem storeUpdate_attention (p : Nat) (v : Value) (q : Quality) (s : State) :
    (storeUpdate p v q s).attention = s.attention := rfl

theorem writeSelf_flagsKept (p : Nat) (v : Value) (h : FlagsKept s t) : FlagsKept s (writeSelf p v t) := by
  unfold writeSelf pointEvent
  exact serve_flagsKept (reportSelf_flagsKept _ _ _ (wakeConsumers_flagsKept p
    (h.then_flags (by rw [storeUpdate_attention]))))

theorem handOutput_flagsKept (r : CycleRecord) (k : Nat) (v : Value) (h : FlagsKept s t) :
    FlagsKept s (handOutput r k v t).2 := by
  unfold handOutput
  split
  · split
    · exact h
    · exact (guardOrder_flagsKept _ _ _ h).then_flags rfl
  · exact h

end

/-- A cycle occasion keeps the flags. -/
theorem cycleFrame_flagsKept : CycleFrame FlagsKept where
  refl := .refl
  trans := .trans
  serve := fun s => serve_flagsKept (.refl s)
  handed := handAll_induct .refl .trans (fun r k v s => handOutput_flagsKept r k v (.refl s))
    (fun s => serve_flagsKept (.refl s))
  unit := fun _ _ _ => .of_flags rfl
  conditions := fun s => followDispatch_flagsKept (.refl s)
  written := fun p v s _ => writeSelf_flagsKept p v (.refl s)

theorem settle_flagsKept {s t : State} (h : FlagsKept s t) : FlagsKept s (settle t) :=
  h.trans (cycleFrame_flagsKept.settle t)

/-! ### A flag's rise -/

theorem flag_of_flags {s t : State} (h : t.attention.flags = s.attention.flags) (j : Nat) : t.flag j = s.flag j := by
  simp only [State.flag, h]

/-- An event sets its flag and no other (R201). -/
theorem raiseFlag_isSet (fl : Flag) {s : State} (hl : s.attention.flags.length = flagCount) (j : Nat) :
    ((raiseFlag fl s).flag j).isSet = ((s.flag j).isSet || decide (fl.index = j)) := by
  have hi : fl.index < s.attention.flags.length := by rw [hl]; cases fl <;> decide
  have hset : ((s.modFlag fl.index (fun r => { r with isSet := true })).flag j).isSet =
      ((s.flag j).isSet || decide (fl.index = j)) := by
    rw [State.flag_modFlag]
    by_cases hj : fl.index = j
    · simp [hj, hj ▸ hi]
    · simp [hj]
  unfold raiseFlag riseAt
  split
  · next h =>
    by_cases hj : fl.index = j
    · subst hj; simp [h]
    · simp [hj]
  · split
    · rw [flag_of_flags (placeNotice_flags _ _), hset]
    · exact hset

/-! ### Freshness -/

/-- What the expiry of a freshness timer does, with the point as the expiry left it: its consumers wake, POINT-STALE
rises for an ESSENTIAL point, and the SELF entry goes upstream (R9, R15). -/
theorem expireFreshness_eq {s : State} {p : Nat} (hp : p < s.points.length) :
    let s1 := s.modPoint p (fun r => { r with fresh := .expired, timer := none })
    let woken := wakeConsumers p s1
    let noted := if (s1.point p).cls = .essential then raiseFlag .pointStale woken else woken
    expireFreshness p s =
      serve (if (s1.point p).configured = true ∧ (s1.point p).owner = .self ∧
          ¬((s.point p).effValue = (s1.point p).effValue ∧ (s.point p).effQuality = (s1.point p).effQuality) then
        handUpstream ⟨p, (s1.point p).effValue, qualityCode (s1.point p).effQuality, (s1.point p).cls⟩ noted
      else noted) := by
  intro s1 woken noted
  have hcls : (s.point p).cls = (s1.point p).cls := by rw [point_modPoint_same hp]
  have hpts : noted.points = s1.points := by
    have hw : woken.points = s1.points := wakeConsumers_points p s1
    show (if _ then raiseFlag .pointStale woken else woken).points = _
    split
    · rw [raiseFlag_points, hw]
    · exact hw
  unfold expireFreshness
  simp only [hcls]
  rw [reportSelf_of_points p hpts]

theorem lt_points_of_timer {s : State} {p m : Nat} (h : (s.point p).timer = some m) : p < s.points.length := by
  by_contra hp
  rw [State.point, List.getD_eq_default _ _ (by omega)] at h
  exact absurd h (by simp [Point.blank])

/-- Settles O37. -/
theorem freshnessExpires : Obligations.FreshnessExpires := by
  intro p s m hawake ht hm s1 q woken noted shows
  have hlen := lt_points_of_timer ht
  have hexec : exec (.freshnessExpiry p) s = .next (serve (settle (expireFreshness p s))) :=
    congrArg Host.Outcome.next (atExpiry_of_due hawake ht hm _)
  refine ⟨_, hexec, congrArg settle (expireFreshness_eq hlen), ?_, fun hcls hl => ?_⟩
  · rw [settle_beyondWake, expireFreshness_beyondWake]
  · have hq : q.cls = .essential := by
      show (s1.point p).cls = _
      rw [point_modPoint_same hlen]; exact hcls
    have hwoken : woken.attention.flags.length = flagCount := (wakeConsumers_flagsKept p (.refl s1)).length.trans hl
    have hraised : ((raiseFlag .pointStale woken).flag 19).isSet = true := by
      rw [raiseFlag_isSet _ hwoken]; simp [Flag.index]
    refine (settle_flagsKept (.refl _)).events 19 (by decide) ?_
    unfold expireFreshness
    simp only [hcls, if_pos]
    exact (serve_flagsKept (reportSelf_flagsKept _ _ _ (.refl _))).events 19 (by decide) hraised

end Sys2Proof.Machine
end

section
namespace Sys2Proof.Machine
open Sys2Proof

/-! ### Terms and the interlock -/

theorem evalTerm_notGood {t : Term} (h : t.relation = .notGood) (v : Value) (q : Quality) :
    evalTerm t v q = !q.usable := by simp [evalTerm, h]

theorem evalTerm_unusable {t : Term} {q : Quality} (h : t.relation ≠ .notGood) (hq : q.usable = false) (v : Value) :
    evalTerm t v q = t.failActive := by
  unfold evalTerm
  cases hr : t.relation with
  | above => simp [hq]
  | below => simp [hq]
  | notGood => exact absurd hr h

theorem evalTerm_above {t : Term} {q : Quality} (h : t.relation = .above) (hq : q.usable = true) (v : Value) :
    evalTerm t v q = true ↔ (if t.active = true then t.threshold - t.hysteresis else t.threshold) < v := by
  cases ha : t.active <;> simp [evalTerm, h, hq, ha]

theorem evalTerm_below {t : Term} {q : Quality} (h : t.relation = .below) (hq : q.usable = true) (v : Value) :
    evalTerm t v q = true ↔ v < if t.active = true then t.threshold + t.hysteresis else t.threshold := by
  cases ha : t.active <;> simp [evalTerm, h, hq, ha]

theorem interlock_iff (g : GuardRec) : g.interlock = true ↔ ∃ t ∈ g.terms, t.used = true ∧ t.active = true := by
  simp [GuardRec.interlock]

/-! ### Changing one guard record -/

theorem lt_guards_of_configured {s : State} {i : Nat} (h : (s.guardRec i).configured = true) : i < s.guard.recs.length := by
  by_contra hi
  rw [State.guardRec, List.getD_eq_default _ _ (by omega)] at h
  exact absurd h (by decide)

theorem guardRec_modGuard_same {s : State} {i : Nat} (h : i < s.guard.recs.length) (f : GuardRec → GuardRec) :
    (s.modGuard i f).guardRec i = f (s.guardRec i) := by
  rw [State.guardRec_modGuard, if_pos ⟨rfl, h⟩]

/-- Two changes that agree on the record as it stands change the list alike. -/
theorem modify_congr {α : Type} {l : List α} {i : Nat} {d : α} {f g : α → α} (h : f (l.getD i d) = g (l.getD i d)) :
    l.modify i f = l.modify i g := by
  apply List.ext_getElem?
  intro j
  simp only [List.getElem?_modify]
  by_cases hj : i = j
  · subst hj
    cases hx : l[i]? with
    | none => rfl
    | some r => simp_all [List.getD_eq_getElem?_getD]
  · simp [hj]

theorem modify_of_fixed {α : Type} {l : List α} {i : Nat} {d : α} {f : α → α} (h : f (l.getD i d) = l.getD i d) :
    l.modify i f = l := by
  rw [modify_congr (g := id) (d := d) h, List.modify_id]

theorem modGuard_congr {s : State} {i : Nat} {f g : GuardRec → GuardRec} (h : f (s.guardRec i) = g (s.guardRec i)) :
    s.modGuard i f = s.modGuard i g := by
  simp only [State.modGuard, modify_congr (d := GuardRec.blank) h]

theorem modGuard_modGuard (s : State) (i : Nat) (f g : GuardRec → GuardRec) :
    (s.modGuard i f).modGuard i g = s.modGuard i (g ∘ f) := by
  simp only [State.modGuard, List.modify_modify_eq]

theorem guardRec_of_recs {s t : State} (h : t.guard.recs = s.guard.recs) (i : Nat) : t.guardRec i = s.guardRec i := by
  simp only [State.guardRec, h]

theorem guard_of_beyondAttention {s t : State} (h : beyondAttention t = beyondAttention s) : t.guard = s.guard :=
  (congrArg State.guard h :)

theorem followLatched_guard (s : State) : (followLatched s).guard = s.guard :=
  guard_of_beyondAttention (followLatched_beyondAttention s)

/-! ### An output's terms on a woken point -/

/-- A guard record whose used terms on a point are evaluated from the point table as it stands (R69). -/
def GuardRec.wokenBy (s : State) (p : Nat) (g : GuardRec) : GuardRec :=
  { g with terms := g.terms.map (fun t =>
      if t.used = true ∧ t.point = p then
        { t with active := evalTerm t (s.point p).effValue (s.point p).effQuality } else t) }

/-- An output wakes on a point that one of its used terms names. -/
def GuardRec.reads (g : GuardRec) (p : Nat) : Prop := g.configured = true ∧ ∃ t ∈ g.terms, t.used = true ∧ t.point = p

theorem wakeTerms_eq (s : State) (p i : Nat) :
    s.modGuard i (fun g => { g with
      terms := g.terms.map (fun t => if t.used && decide (t.point = p) then evaluated s t else t) }) =
    s.modGuard i (fun _ => (s.guardRec i).wokenBy s p) := by
  apply modGuard_congr
  have key (t : Term) : (if (t.used && decide (t.point = p)) = true then evaluated s t else t) =
      if t.used = true ∧ t.point = p then
        { t with active := evalTerm t (s.point p).effValue (s.point p).effQuality } else t := by
    by_cases h : t.used = true ∧ t.point = p
    · rw [if_pos (by simpa using h), if_pos h, evaluated, h.2]
    · rw [if_neg (by simpa using h), if_neg h]
  simp only [GuardRec.wokenBy, key]

theorem reads_iff (g : GuardRec) (p : Nat) :
    (g.configured && g.terms.any (fun t => t.used && decide (t.point = p))) = true ↔ g.reads p := by
  simp [GuardRec.reads]

theorem wakeOutput_of_not_reads {s : State} {p i : Nat} (h : ¬(s.guardRec i).reads p) : wakeOutput p i s = s := by
  rw [← reads_iff] at h
  rw [wakeOutput, if_neg h]

/-- A woken output's interlock is compared with its value before the wake (R69). -/
theorem wakeOutput_of_reads {s : State} {p i : Nat} (h : (s.guardRec i).reads p) :
    wakeOutput p i s =
      (let seen := s.modGuard i (fun _ => (s.guardRec i).wokenBy s p)
      let after := ((s.guardRec i).wokenBy s p).interlock
      let before := (s.guardRec i).interlock
      if after = true ∧ ¬before = true ∧ (s.guardRec i).state ≠ .tripped then tripOutput i seen
      else if ¬after = true ∧ before = true ∧ (s.guardRec i).state = .tripped then interlockEnds i seen
      else seen) := by
  have hlen := lt_guards_of_configured h.1
  rw [← reads_iff] at h
  simp only [wakeOutput, if_pos h, wakeTerms_eq, guardRec_modGuard_same hlen]
  simp [and_assoc]

/-- The end of an interlock changes the output's state alone (R74). -/
theorem interlockEnds_modGuard {s : State} {i : Nat} (hi : i < s.guard.recs.length) (g : GuardRec) :
    (interlockEnds i (s.modGuard i (fun _ => g))).guardRec i =
      { g with state := if g.latching = true then .latched else .clear } ∧
    beyondAttention (interlockEnds i (s.modGuard i (fun _ => g))) =
      beyondAttention (s.modGuard i (fun _ => (interlockEnds i (s.modGuard i (fun _ => g))).guardRec i)) := by
  have hrec : (interlockEnds i (s.modGuard i (fun _ => g))).guardRec i =
      { g with state := if g.latching = true then .latched else .clear } := by
    rw [interlockEnds, guardRec_of_recs (congrArg Guard.recs (followLatched_guard _)), modGuard_modGuard,
      guardRec_modGuard_same hi]
    rfl
  refine ⟨hrec, ?_⟩
  rw [hrec, interlockEnds, followLatched_beyondAttention, modGuard_modGuard]
  rfl

/-! ### Withdrawals -/

/-- The withdrawal of one dispatch slot, whether or not it holds an order (R142, R143). -/
theorem withdrawSlot_eq (k : Nat) (s : State) :
    withdrawSlot k s = { s with dispatch := { s.dispatch with
      slots := s.dispatch.slots.filter (fun o => decide (o.output ≠ k))
      lastOrdered := s.dispatch.lastOrdered.mapIdx (fun j x =>
        if j = k ∧ ∃ o ∈ s.dispatch.slots, o.output = j then none else x) } } := by
  unfold withdrawSlot
  split
  · next h =>
    have hk : ∃ o ∈ s.dispatch.slots, o.output = k := by simpa using h
    have hlast : s.dispatch.lastOrdered.set k none = s.dispatch.lastOrdered.mapIdx (fun j x =>
        if j = k ∧ ∃ o ∈ s.dispatch.slots, o.output = j then none else x) := by
      apply List.ext_getElem?
      intro j
      rw [List.getElem?_set, List.getElem?_mapIdx]
      by_cases hj : k = j
      · subst hj
        cases hx : s.dispatch.lastOrdered[k]? with
        | none => simp [List.getElem?_eq_none_iff.mp hx]
        | some x => simp [hk, (List.getElem?_eq_some_iff.mp hx).1]
      · simp [hj, Ne.symm hj]
    rw [hlast]
  · next h =>
    have hk : ∀ o ∈ s.dispatch.slots, o.output ≠ k := by simpa using h
    have hslots : s.dispatch.slots.filter (fun o => decide (o.output ≠ k)) = s.dispatch.slots :=
      List.filter_eq_self.mpr (by simpa using hk)
    have hlast : s.dispatch.lastOrdered.mapIdx (fun j x =>
        if j = k ∧ ∃ o ∈ s.dispatch.slots, o.output = j then none else x) = s.dispatch.lastOrdered := by
      apply List.ext_getElem?
      intro j
      have hno : ¬(j = k ∧ ∃ o ∈ s.dispatch.slots, o.output = j) := by
        rintro ⟨rfl, o, ho, e⟩
        exact hk o ho e
      simp [List.getElem?_mapIdx, hno]
    rw [hslots, hlast]

/-- The withdrawal of several dispatch slots: none of them keeps its order, and an output that had one has no last ordered
value (R142, R143). -/
theorem withdrawSlots_eq (outs : List Nat) (s : State) :
    outs.foldl (fun t k => withdrawSlot k t) s = { s with dispatch := { s.dispatch with
      slots := s.dispatch.slots.filter (fun o => decide (o.output ∉ outs))
      lastOrdered := s.dispatch.lastOrdered.mapIdx (fun j x =>
        if j ∈ outs ∧ ∃ o ∈ s.dispatch.slots, o.output = j then none else x) } } := by
  induction outs generalizing s with
  | nil =>
    have : s.dispatch.lastOrdered.mapIdx (fun _ x => x) = s.dispatch.lastOrdered := by
      apply List.ext_getElem?
      intro j
      simp [List.getElem?_mapIdx]
    simp [this]
  | cons k outs ih =>
    rw [List.foldl_cons, ih, withdrawSlot_eq]
    simp only [List.filter_filter, List.mapIdx_mapIdx, List.mem_cons, Function.comp_def]
    congr 2
    · apply List.ext_getElem?
      intro j
      simp only [List.getElem?_mapIdx, List.mem_filter, decide_eq_true_eq]
      cases s.dispatch.lastOrdered[j]? with
      | none => rfl
      | some x =>
        by_cases hk : j = k
        · subst hk
          by_cases he : ∃ o ∈ s.dispatch.slots, o.output = j <;> simp [he]
        · have : (∃ o, (o ∈ s.dispatch.slots ∧ o.output ≠ k) ∧ o.output = j) ↔ ∃ o ∈ s.dispatch.slots, o.output = j := by
            constructor
            · rintro ⟨o, ⟨ho, _⟩, e⟩; exact ⟨o, ho, e⟩
            · rintro ⟨o, ho, e⟩; exact ⟨o, ⟨ho, e ▸ hk⟩, e⟩
          simp [hk, this]
    · apply List.filter_congr
      intro o _
      simp [Bool.and_comm]

/-- The issued value once a pending step of the record is withdrawn (R82). -/
def issuedWithdrawn (s : State) (i : Nat) : Option Value :=
  match pendingStep s i with
  | some q => some q.fromVal
  | none => (s.guardRec i).issued

/-- The withdrawal of a record's step, whether or not one is pending (R82). -/
theorem withdrawStep_eq (i : Nat) (s : State) :
    withdrawStep i s = { s with guard := { s.guard with
      steps := s.guard.steps.filter (fun q => decide (q.record ≠ i))
      recs := s.guard.recs.modify i (fun r => { r with issued := issuedWithdrawn s i }) } } := by
  unfold withdrawStep issuedWithdrawn
  cases h : pendingStep s i with
  | some q => rfl
  | none =>
    have hsteps : s.guard.steps.filter (fun q => decide (q.record ≠ i)) = s.guard.steps := by
      rw [List.filter_eq_self]
      intro q hq
      simpa using List.find?_eq_none.mp h q hq
    have hrecs : s.guard.recs.modify i (fun r => { r with issued := (s.guardRec i).issued }) = s.guard.recs :=
      modify_of_fixed (d := GuardRec.blank) rfl
    simp only [hsteps, hrecs]

/-- The state once every order for an output is withdrawn and its ramp timer has stopped (R73 step 1). -/
def ordersWithdrawn (i : Nat) (s : State) : State :=
  { s with
    fwd := { s.fwd with orders := s.fwd.orders.filter (fun e => !e.guardedFor (s.guardRec i).point) }
    guard := { s.guard with
      steps := s.guard.steps.filter (fun q => decide (q.record ≠ i))
      recs := s.guard.recs.modify i (fun r => { r with issued := issuedWithdrawn s i, rampTimer := none }) }
    dispatch := { s.dispatch with
      slots := s.dispatch.slots.filter (fun o => decide (o.output ∉ dispatchOutputs s (s.guardRec i).point))
      lastOrdered := s.dispatch.lastOrdered.mapIdx (fun k x =>
        if k ∈ dispatchOutputs s (s.guardRec i).point ∧ ∃ o ∈ s.dispatch.slots, o.output = k then none else x) } }

theorem withdrawOrders_eq (i : Nat) (s : State) : withdrawOrders i s = ordersWithdrawn i s := by
  unfold withdrawOrders
  simp only [withdrawSlots_eq, withdrawStep_eq, State.modGuard, List.modify_modify_eq]
  rfl

/-! ### Trips -/

theorem serve_recs (s : State) : (serve s).guard.recs = s.guard.recs :=
  (congrArg (fun t => t.guard.recs) (serve_standing s) :)

theorem serve_now (s : State) : (serve s).now = s.now := (congrArg State.now (serve_standing s) :)

/-- The record of an output that has tripped, from its record before and the issued value that the withdrawal left (R73,
R83). -/
def GuardRec.tripped (g : GuardRec) (issued : Option Value) (now : Nat) : GuardRec :=
  match g.action with
  | .safe => { g with
      state := .tripped, target := some g.safe, issued := some g.safe, lastIssue := some now, rampTimer := none,
      trips := bump g.trips }
  | .hold => { g with
      state := .tripped, target := issued, issued := issued, rampTimer := none, trips := bump g.trips }

/-- The guard as a trip leaves it once the withdrawal has been served: the tripped record, and with action SAFE one trip
order for it (R73, R76). -/
def tripActed (i : Nat) (s v : State) : State :=
  { v with guard := { v.guard with
    recs := v.guard.recs.modify i (fun _ => (s.guardRec i).tripped (issuedWithdrawn s i) s.now)
    trips := if (s.guardRec i).action = .safe ∧ ∀ t ∈ v.guard.trips, t.record ≠ i then
        v.guard.trips ++ [⟨i, (s.guardRec i).point, (s.guardRec i).safe⟩]
      else v.guard.trips } }

theorem enterTripOrder_eq (i : Nat) (s : State) :
    enterTripOrder i s = { s with guard := { s.guard with
      trips := if ∀ t ∈ s.guard.trips, t.record ≠ i then
          s.guard.trips ++ [⟨i, (s.guardRec i).point, (s.guardRec i).safe⟩]
        else s.guard.trips } } := by
  unfold enterTripOrder
  split
  · next h =>
    have : ¬∀ t ∈ s.guard.trips, t.record ≠ i := by simpa using h
    rw [if_neg this]
  · next h =>
    have : ∀ t ∈ s.guard.trips, t.record ≠ i := by simpa using h
    rw [if_pos this]

theorem guardRec_withdrawn {i : Nat} {s : State} (hi : i < s.guard.recs.length) :
    (serve (ordersWithdrawn i s)).guardRec i =
      { s.guardRec i with issued := issuedWithdrawn s i, rampTimer := none } := by
  rw [guardRec_of_recs (serve_recs _)]
  exact guardRec_modGuard_same hi (fun r => { r with issued := issuedWithdrawn s i, rampTimer := none })

/-- The recorder has a trip last: the TRIP-SAFE outcome with action SAFE, the marker with action HOLD (R155). -/
def tripRecorded (g : GuardRec) (issued : Option Value) (s : State) : State :=
  match g.action with
  | .safe => recordTripSafe g.point g.safe s
  | .hold => markerTrigger (some g.point) issued .outputTripped s

/-- The changes that a trip makes to its record one after another, with action SAFE once its trip order is entered, are the
tripped record (R73). -/
theorem tripActed_safe {i : Nat} {s v : State} (ha : (s.guardRec i).action = .safe) (hnow : v.now = s.now)
    (hg : v.guardRec i = { s.guardRec i with issued := issuedWithdrawn s i, rampTimer := none }) :
    (issue i (v.guardRec i).safe ((enterTripOrder i v).modGuard i (fun g => { g with target := some g.safe }))).modGuard i
      (fun g => { g with state := .tripped, trips := bump g.trips }) = tripActed i s v := by
  have hentered : (enterTripOrder i v).guardRec i = v.guardRec i := by
    rw [enterTripOrder_eq]
    rfl
  rw [issue, modGuard_modGuard, modGuard_modGuard,
    modGuard_congr (g := fun _ => (s.guardRec i).tripped (issuedWithdrawn s i) s.now)]
  · simp [State.modGuard, enterTripOrder_eq, tripActed, ha, hg]
  · rw [hentered, hg]
    simp [GuardRec.tripped, ha, enterTripOrder_eq, hnow]

theorem tripActed_hold {i : Nat} {s v : State} (ha : (s.guardRec i).action = .hold)
    (hg : v.guardRec i = { s.guardRec i with issued := issuedWithdrawn s i, rampTimer := none }) :
    (v.modGuard i (fun g => { g with target := g.issued })).modGuard i
      (fun g => { g with state := .tripped, trips := bump g.trips }) = tripActed i s v := by
  rw [modGuard_modGuard, modGuard_congr (g := fun _ => (s.guardRec i).tripped (issuedWithdrawn s i) s.now)]
  · simp [State.modGuard, tripActed, ha]
  · rw [hg]
    simp [GuardRec.tripped, ha]

/-- A trip, with the guard as it leaves it (R73). -/
theorem tripOutput_eq {i : Nat} {s : State} (hi : i < s.guard.recs.length) :
    tripOutput i s = serve (tripRecorded (s.guardRec i) (issuedWithdrawn s i)
      (raiseFlag .outputTrip (followLatched (tripActed i s (serve (ordersWithdrawn i s)))))) := by
  have hg := guardRec_withdrawn hi
  have hnow : (serve (ordersWithdrawn i s)).now = s.now := serve_now _
  unfold tripOutput
  simp only [withdrawOrders_eq]
  generalize serve (ordersWithdrawn i s) = v at hg hnow ⊢
  have hact : (v.guardRec i).action = (s.guardRec i).action := by rw [hg]
  rw [hact]
  cases ha : (s.guardRec i).action with
  | safe =>
    simp only [tripRecorded, ha]
    rw [tripActed_safe ha hnow hg, hg]
  | hold =>
    simp only [tripRecorded, ha]
    rw [tripActed_hold ha hg, hg]

theorem tripRecorded_beyondRecorder (g : GuardRec) (issued : Option Value) (s : State) :
    beyondRecorder (tripRecorded g issued s) = beyondRecorder s := by
  unfold tripRecorded
  split
  · exact recordTripSafe_beyondRecorder _ _ _
  · exact markerTrigger_beyondRecorder _ _ _ _

theorem tripRecorded_flagsKept {s t : State} (g : GuardRec) (issued : Option Value) (h : FlagsKept s t) :
    FlagsKept s (tripRecorded g issued t) := by
  unfold tripRecorded
  split
  · exact recordTripSafe_flagsKept _ _ h
  · exact markerTrigger_flagsKept _ _ _ h

theorem recs_of_beyondRecorder {s t : State} (h : beyondRecorder t = beyondRecorder s) : t.guard.recs = s.guard.recs :=
  (congrArg (fun t => t.guard.recs) h :)

/-- A trip changes the tripped record alone of the guard's records. -/
theorem tripOutput_recs {i : Nat} {s : State} (hi : i < s.guard.recs.length) :
    (tripOutput i s).guard.recs =
      s.guard.recs.modify i (fun _ => (s.guardRec i).tripped (issuedWithdrawn s i) s.now) := by
  rw [tripOutput_eq hi, serve_recs, recs_of_beyondRecorder (tripRecorded_beyondRecorder _ _ _),
    guard_of_beyondAttention (raiseFlag_beyondAttention _ _), followLatched_guard]
  simp only [tripActed, serve_recs, ordersWithdrawn, List.modify_modify_eq]
  rfl

theorem tripOutput_guardRec {i : Nat} {s : State} (hi : i < s.guard.recs.length) :
    (tripOutput i s).guardRec i = (s.guardRec i).tripped (issuedWithdrawn s i) s.now := by
  have h : (tripOutput i s).guard.recs =
      (s.modGuard i (fun _ => (s.guardRec i).tripped (issuedWithdrawn s i) s.now)).guard.recs := tripOutput_recs hi
  rw [guardRec_of_recs h, guardRec_modGuard_same hi]

theorem tripOutput_guardRec_other {i j : Nat} {s : State} (hi : i < s.guard.recs.length) (hj : j ≠ i) :
    (tripOutput i s).guardRec j = s.guardRec j := by
  have h : (tripOutput i s).guard.recs =
      (s.modGuard i (fun _ => (s.guardRec i).tripped (issuedWithdrawn s i) s.now)).guard.recs := tripOutput_recs hi
  rw [guardRec_of_recs h, State.guardRec_modGuard, if_neg (fun e => hj e.1.symm)]

/-- A trip raises OUTPUT-TRIP (R73). -/
theorem tripOutput_raises {i : Nat} {s : State} (hi : i < s.guard.recs.length)
    (hl : s.attention.flags.length = flagCount) : ((tripOutput i s).flag 20).isSet = true := by
  have hserved : FlagsKept s (serve (ordersWithdrawn i s)) := serve_flagsKept (.of_flags rfl)
  have hacted : FlagsKept s (followLatched (tripActed i s (serve (ordersWithdrawn i s)))) :=
    followLatched_flagsKept (hserved.then_flags rfl)
  rw [tripOutput_eq hi]
  refine (serve_flagsKept (tripRecorded_flagsKept _ _ (.refl _))).events 20 (by decide) ?_
  rw [raiseFlag_isSet _ (hacted.length.trans hl)]
  simp [Flag.index]

/-! ### Lines woken -/

theorem operatingOf_eq (p : Point) :
    operatingOf p = decide (¬(p.configured = true ∧ p.effQuality.usable = true ∧ p.effValue = 0)) := by
  cases hc : p.configured <;> cases hu : p.effQuality.usable <;> simp [operatingOf, hc, hu]

/-- A line woken by a point: a configured line with that operating point takes its flag, and one that comes on in RUN marks
its open channels (R92). -/
def lineWoken (p : Nat) (l : LineId) (t : State) : State :=
  if (t.line l).opPoint = p ∧ (t.line l).configured = true then
    if ¬((t.point p).configured = true ∧ (t.point p).effQuality.usable = true ∧ (t.point p).effValue = 0) ∧
        (t.line l).operating = false ∧ t.part.state = .run then
      { t.modLine l (fun r => { r with operating := operatingOf (t.point p) }) with
        emission := { (t.modLine l (fun r => { r with operating := operatingOf (t.point p) })).emission with
          channels := (t.modLine l (fun r => { r with operating := operatingOf (t.point p) })).emission.channels.map
            (fun c => if c.cfg.line = l ∧ c.run.opened = true then { c with run := { c.run with operated := true } }
              else c) } }
    else t.modLine l (fun r => { r with operating := operatingOf (t.point p) })
  else t

theorem lineWoken_eq (p : Nat) (l : LineId) (t : State) :
    (if (t.line l).opPoint = p then deriveOperating l t else t) = lineWoken p l t := by
  unfold lineWoken
  by_cases hp : (t.line l).opPoint = p
  · by_cases hc : (t.line l).configured = true
    · have hon : (operatingOf (t.point p) && !(t.line l).operating && decide (t.part.state = .run)) = true ↔
          ¬((t.point p).configured = true ∧ (t.point p).effQuality.usable = true ∧ (t.point p).effValue = 0) ∧
            (t.line l).operating = false ∧ t.part.state = .run := by
        simp only [operatingOf_eq, Bool.and_eq_true, decide_eq_true_eq, Bool.not_eq_true', and_assoc]
      rw [if_pos hp, if_pos ⟨hp, hc⟩, deriveOperating, if_pos hc]
      simp only [hp, hon]
    · rw [if_pos hp, if_neg (fun h => hc h.2), deriveOperating, if_neg hc]
  · rw [if_neg hp, if_neg (fun h => hp h.1)]

theorem wakeLines_eq (p : Nat) (s : State) : wakeLines p s = lineWoken p .b (lineWoken p .a s) := by
  simp only [wakeLines, List.foldl_cons, List.foldl_nil, lineWoken_eq]

/-! ### Entering a record -/

/-- What the recorder does with a record and with a trigger in each of its states (R153, R156 to R158). -/
theorem enterRecord_off {s : State} (h : s.recorder.state = .off) (r : RecEntry) :
    enterRecord r s = s ∧ enterTrigger r s = s := by simp only [enterRecord, enterTrigger, h, and_self]

theorem enterRecord_frozen {s : State} (h : s.recorder.state = .frozen) (r : RecEntry) :
    enterRecord r s = s ∧
      enterTrigger r s = { s with recorder := { s.recorder with missed := bump s.recorder.missed } } := by
  simp only [enterRecord, enterTrigger, h, and_self]

theorem enterRecord_armed {s : State} (h : s.recorder.state = .armed) (r : RecEntry) :
    enterRecord r s = pushRecord r s := by simp only [enterRecord, h]

theorem enterTrigger_armed {s : State} (h : s.recorder.state = .armed) (r : RecEntry) :
    enterTrigger r s =
      (let s2 : State := { pushRecord r s with
        recorder := { (pushRecord r s).recorder with triggers := bump s.recorder.triggers } }
      if s.recorder.cfg.postCount = 0 then freezeRecorder s2
      else { s2 with recorder := { s2.recorder with state := .post, post := s.recorder.cfg.postCount } }) := by
  simp only [enterTrigger, h]
  rfl

theorem enterRecord_post {s : State} (h : s.recorder.state = .post) (r : RecEntry) :
    enterRecord r s =
      if s.recorder.post ≤ 1 then freezeRecorder (pushRecord r s)
      else { pushRecord r s with recorder := { (pushRecord r s).recorder with post := s.recorder.post - 1 } } := by
  simp only [enterRecord, h]
  rfl

theorem enterTrigger_post {s : State} (h : s.recorder.state = .post) (r : RecEntry) :
    enterTrigger r s =
      (let t : State := { s with recorder := { s.recorder with triggers := bump s.recorder.triggers } }
      if s.recorder.post ≤ 1 then freezeRecorder (pushRecord r t)
      else { pushRecord r t with recorder := { (pushRecord r t).recorder with post := s.recorder.post - 1 } }) := by
  simp only [enterTrigger, h]
  rw [enterRecord_post]
  rfl

/-- Settles O57: the trip's order of effects is `tripOutput_eq`, the wake of an output `wakeOutput_of_reads`. -/
theorem termsTripTheirOutput : Obligations.TermsTripTheirOutput := by
  refine ⟨fun t v q => ⟨fun h => evalTerm_notGood h v q, fun h hq => evalTerm_unusable h hq v,
    fun h hq => evalTerm_above h hq v, fun h hq => evalTerm_below h hq v⟩, fun p i s hi => ?_, fun i s hi => ?_,
    fun p s => ?_, fun r s => ?_, fun p v s => rfl, fun p v m s => ?_⟩
  · intro g reads woken seen before after
    have hbefore : g.interlock = true ↔ before := interlock_iff g
    have hafter : (g.wokenBy s p).interlock = true ↔ after := interlock_iff woken
    refine ⟨wakeOutput_of_not_reads, fun hr ha hb hs => ?_, fun hr ha hb hs => ?_, fun hr h1 h2 => ?_⟩
    all_goals rw [← hafter, ← hbefore] at *
    · rw [wakeOutput_of_reads hr]
      exact if_pos ⟨ha, hb, hs⟩
    · have : wakeOutput p i s = interlockEnds i seen := by
        rw [wakeOutput_of_reads hr]
        exact (if_neg (fun h => ha h.1)).trans (if_pos ⟨ha, hb, hs⟩)
      rw [this]
      exact interlockEnds_modGuard hi woken
    · rw [wakeOutput_of_reads hr]
      exact (if_neg h1).trans (if_neg h2)
  · intro g outs issued withdrawn v tripped acted flagged
    refine ⟨withdrawOrders_eq i s, ?_, tripOutput_beyondGuard i s, tripOutput_guardRec hi,
      fun j => tripOutput_guardRec_other hi, tripOutput_raises hi⟩
    have hflagged : raiseFlag .outputTrip (followLatched (tripActed i s (serve (ordersWithdrawn i s)))) = flagged := by
      simp only [followLatched]
      show raiseFlag _ (setCondition _ (acted.guard.recs.any _) acted) = raiseFlag _ (setCondition _ _ acted)
      simp only [Bool.decide_and, Bool.decide_eq_true]
    rw [tripOutput_eq hi, hflagged]
    rfl
  · intro woken
    have hw (l : LineId) (t : State) : lineWoken p l t = woken l t := by
      unfold lineWoken
      simp only [operatingOf_eq]
      rfl
    refine ⟨fun h => ?_, fun h => ?_, by rw [wakeLines_eq, hw, hw], rfl⟩
    · simp only [wakeGuard, h]
    · simp only [wakeGuard, h]
  · intro c entry pushed counted after frozen
    refine ⟨fun h => enterRecord_off h r, fun h => enterRecord_frozen h r,
      fun h => ⟨enterRecord_armed h r, enterTrigger_armed h r⟩, fun h => ⟨fun hp => ?_, fun hp => ?_⟩⟩
    · have hp' : ¬s.recorder.post ≤ 1 := Nat.not_le.mpr hp
      exact ⟨(enterRecord_post h r).trans (if_neg hp'),
        (enterTrigger_post h r).trans (if_neg hp')⟩
    · exact ⟨(enterRecord_post h r).trans (if_pos hp),
        (enterTrigger_post h r).trans (if_pos hp)⟩
  · intro marks
    refine ⟨?_, ?_, ?_, ?_⟩ <;> rintro rfl <;> rfl

end Sys2Proof.Machine
end

section
namespace Sys2Proof.Machine
open Sys2Proof

/-! ### WRITE of a point record -/

theorem modPoint_modPoint (s : State) (p : Nat) (f g : Point → Point) :
    (s.modPoint p f).modPoint p g = s.modPoint p (g ∘ f) := by
  simp only [State.modPoint, List.modify_modify_eq]

theorem writePoint_of_change {p : Nat} {r : Point} {w : Bool} {s : State}
    (h : r.configured ≠ (s.point p).configured) : writePoint p r w s = s.modPoint p (fun _ => r.startAfresh) := if_pos h

theorem writePoint_of_same {p : Nat} {r : Point} {w : Bool} {s : State} (h : r.configured = (s.point p).configured) :
    writePoint p r w s =
      if (r.configured && w) = true then retimePoint p (s.modPoint p (fun _ => r)) else s.modPoint p (fun _ => r) :=
  if_neg (not_not_intro h)

/-- A configured point whose limit was written is timed anew (R2). -/
theorem retimePoint_eq {p : Nat} {s : State} (hp : p < s.points.length) (r : Point) :
    retimePoint p (s.modPoint p (fun _ => r)) =
      if r.limit = 0 then s.modPoint p (fun _ => { r with timer := none })
      else if r.fresh ≠ .fresh then s.modPoint p (fun _ => r)
      else if r.updated + r.limit ≤ s.now then settle (expireFreshness p (s.modPoint p (fun _ => r)))
      else s.modPoint p (fun _ => { r with timer := some (r.updated + r.limit) }) := by
  have hr : (s.modPoint p (fun _ => r)).point p = r := point_modPoint_same hp _
  have hset (f : Point → Point) : (s.modPoint p (fun _ => r)).modPoint p f = s.modPoint p (fun _ => f r) :=
    modPoint_modPoint s p _ f
  simp only [retimePoint, hr, hset, State.modPoint_now]

theorem writePoint_retimed {p : Nat} {r : Point} {w : Bool} {s : State} (h : r.configured = (s.point p).configured)
    (hc : r.configured = true) (hw : w = true) (hp : p < s.points.length) :
    writePoint p r w s =
      if r.limit = 0 then s.modPoint p (fun _ => { r with timer := none })
      else if r.fresh ≠ .fresh then s.modPoint p (fun _ => r)
      else if r.updated + r.limit ≤ s.now then settle (expireFreshness p (s.modPoint p (fun _ => r)))
      else s.modPoint p (fun _ => { r with timer := some (r.updated + r.limit) }) := by
  rw [writePoint_of_same h, if_pos (by rw [hc, hw]; rfl), retimePoint_eq hp]

/-! ### WRITE of a guard record -/

theorem plan_startAfresh (g : GuardRec) : g.startAfresh.plan = g.plan :=
  plan_terms (fun t => { t with active := false }) (fun _ => rfl) g

theorem writeGuard_guard (i : Nat) (g : GuardRec) (s : State) :
    (writeGuard i g s).guard =
      (s.modGuard i (fun old => if g.configured ≠ old.configured then g.startAfresh else g)).guard := by
  unfold writeGuard
  simp only
  split
  · exact followLatched_guard _
  · exact followLatched_guard _

theorem writeGuard_guardRec {i : Nat} {s : State} (hi : i < s.guard.recs.length) (g : GuardRec) :
    (writeGuard i g s).guardRec i = if g.configured ≠ (s.guardRec i).configured then g.startAfresh else g := by
  rw [guardRec_of_recs (congrArg Guard.recs (writeGuard_guard i g s)), guardRec_modGuard_same hi]

theorem writeGuard_guardRec_other {i j : Nat} (hj : j ≠ i) (g : GuardRec) (s : State) :
    (writeGuard i g s).guardRec j = s.guardRec j := by
  rw [guardRec_of_recs (congrArg Guard.recs (writeGuard_guard i g s)), State.guardRec_modGuard,
    if_neg (fun h => hj h.1.symm)]

theorem fwd_of_beyondAttention {s t : State} (h : beyondAttention t = beyondAttention s) : t.fwd = s.fwd :=
  (congrArg State.fwd h :)

theorem followLatched_fwd (s : State) : (followLatched s).fwd = s.fwd :=
  fwd_of_beyondAttention (followLatched_beyondAttention s)

/-- A WRITE of a configured guard record withdraws every order queue entry for its point (R70). -/
theorem writeGuard_fwd (i : Nat) (g : GuardRec) (s : State) :
    (writeGuard i g s).fwd = { s.fwd with orders :=
      if g.configured = true then s.fwd.orders.filter (fun e => !e.names g.point) else s.fwd.orders } := by
  unfold writeGuard
  simp only
  split <;> simp only [followLatched_fwd] <;> rfl

theorem writeGuard_beyondAttention (i : Nat) (g : GuardRec) (s : State) :
    beyondAttention (writeGuard i g s) =
      beyondAttention { s with guard := (writeGuard i g s).guard, fwd := (writeGuard i g s).fwd } := by
  rw [writeGuard_guard, writeGuard_fwd]
  unfold writeGuard
  simp only
  have h := followLatched_beyondAttention
    (s.modGuard i (fun old => if g.configured ≠ old.configured then g.startAfresh else g))
  split
  · rw [followLatched_fwd]
    exact congrArg (fun t : State => { t with fwd := { s.fwd with
      orders := s.fwd.orders.filter (fun e => !e.names g.point) } }) h
  · exact h

/-! ### WRITE of a line or channel record -/

theorem modChannel_congr {s : State} {c : Nat} {f g : Channel → Channel} (h : f (s.channel c) = g (s.channel c)) :
    s.modChannel c f = s.modChannel c g := by
  simp only [State.modChannel, modify_congr (d := Channel.powerOn) h]

theorem writeChannel_eq (c : Nat) (cfg : ChannelCfg) (s : State) :
    writeChannel c cfg s = s.modChannel c (fun ch => { ch with
      cfg := cfg, run := if cfg.configured ≠ (s.channel c).cfg.configured then .idle 0 0 0 else ch.run }) := by
  apply modChannel_congr
  by_cases h : cfg.configured = (s.channel c).cfg.configured
  · simp [h]
  · simp [h]

theorem modLine_modLine (s : State) (l : LineId) (f g : LineRec → LineRec) :
    (s.modLine l f).modLine l g = s.modLine l (g ∘ f) := by cases l <;> rfl

theorem modLine_congr {s : State} {l : LineId} {f g : LineRec → LineRec} (h : f (s.line l) = g (s.line l)) :
    s.modLine l f = s.modLine l g := by
  cases l
  · exact congrArg (fun r => { s with emission := { s.emission with lineA := r } }) h
  · exact congrArg (fun r => { s with emission := { s.emission with lineB := r } }) h

/-- Outside RUN a configured line takes its operating flag and nothing else (R92). -/
theorem deriveOperating_of_setup {l : LineId} {s : State} (h : s.part.state = .setup) :
    deriveOperating l s =
      if (s.line l).configured = true then s.modLine l (fun r => { r with operating := operatingOf (s.point r.opPoint) })
      else s := by
  unfold deriveOperating
  simp only [h, reduceCtorEq, decide_false, Bool.and_false, Bool.false_eq_true, if_false]
  split
  · exact modLine_congr rfl
  · rfl

theorem modLine_point (s : State) (l : LineId) (f : LineRec → LineRec) (p : Nat) : (s.modLine l f).point p = s.point p :=
  point_of_points (State.modLine_points ..) p

/-- A line record as it stands after its WRITE in SETUP (R91). -/
theorem writeLine_of_setup {l : LineId} {r : LineRec} {s : State} (h : s.part.state = .setup) :
    writeLine l r s = s.modLine l (fun old => { r with
      operating := if r.configured = true then operatingOf (s.point r.opPoint)
        else if old.configured = true then true else r.operating
      state := if r.configured ≠ old.configured then .normal else r.state }) := by
  unfold writeLine
  rw [deriveOperating_of_setup (by rw [State.modLine_part]; exact h)]
  simp only [State.line_modLine, if_true, modLine_point]
  cases hr : r.configured <;> cases ho : (s.line l).configured <;> simp [hr]
  · have hrec : r = { r with configured := false } := by rw [← hr]
    exact modLine_congr (by simpa [ho] using hrec)
  · exact modLine_congr (by simp [ho])
  · rw [modLine_modLine]
    exact modLine_congr (by simp [ho])
  · rw [modLine_modLine]
    exact modLine_congr (by simp [ho, hr])

/-! ### The items of a WRITE -/

/-- The items of a WRITE, each setting its field in turn, with the first bad one refusing them all (R182). -/
theorem applyItems_eq {α : Type} (field : α → Item → Option α) (items : List Item) (r : α) :
    applyItems field items r = items.foldl (fun x i => x.bind (fun r => field r i)) (some r) := by
  have hnone : ∀ l : List Item, l.foldl (fun x i => x.bind (fun r => field r i)) (none : Option α) = none := by
    intro l
    induction l with
    | nil => rfl
    | cons i l ih => exact ih
  induction items generalizing r with
  | nil => rfl
  | cons i items ih =>
    rw [applyItems, List.foldl_cons, Option.bind_some]
    cases h : field r i with
    | none => exact (hnone items).symm
    | some r1 => exact ih r1

/-! ### Values of fields -/

theorem yesOrNo_map {α : Type} (v : Nat) (f : Bool → α) :
    (yesOrNo v).map f = if 0 ≤ v ∧ v ≤ 1 then some (f (decide (v = 1))) else none := by
  match v with
  | 0 => rfl
  | 1 => rfl
  | n + 2 => rw [if_neg (by omega)]; rfl

theorem inRange_map {α : Type} (lo hi v : Nat) (f : Nat → α) :
    (inRange lo hi v).map f = if lo ≤ v ∧ v ≤ hi then some (f v) else none := by
  unfold inRange
  split <;> rfl

theorem inRange_value {α : Type} (lo hi v : Nat) (f : Value → α) :
    (do let a ← inRange lo hi v; pure (a : Value)).map f = if lo ≤ v ∧ v ≤ hi then some (f v) else none := by
  unfold inRange
  split <;> rfl

theorem pointRef_map {α : Type} (v : Nat) (f : Nat → α) :
    (pointRef v).map f = if 0 ≤ v ∧ v ≤ 1023 then some (f v) else none := by
  unfold pointRef
  by_cases h : v < 1024
  · rw [if_pos h, if_pos (by omega)]; rfl
  · rw [if_neg h, if_neg (by omega)]; rfl

theorem optPointRef_map {α : Type} (v : Nat) (f : Option Nat → α) :
    (optPointRef v).map f =
      if v = 65535 then some (f none) else if v ≤ 1023 then some (f (some v)) else none := by
  unfold optPointRef
  split
  · rfl
  · by_cases h : v < 1024
    · rw [if_pos h, if_pos (by omega)]; rfl
    · rw [if_neg h, if_neg (by omega)]; rfl

theorem codeIn_two {α β : Type} (a b : α) (v : Nat) (f : α → β) :
    (codeIn [a, b] v).map f = if 0 ≤ v ∧ v ≤ 1 then some (f (if v = 0 then a else b)) else none := by
  match v with
  | 0 => rfl
  | 1 => rfl
  | n + 2 => rw [if_neg (by omega)]; rfl

theorem codeIn_three {α β : Type} (a b c : α) (v : Nat) (f : α → β) :
    (codeIn [a, b, c] v).map f =
      if 0 ≤ v ∧ v ≤ 2 then some (f (if v = 0 then a else if v = 1 then b else c)) else none := by
  match v with
  | 0 => rfl
  | 1 => rfl
  | 2 => rfl
  | n + 3 => rw [if_neg (by omega)]; rfl

theorem limit_map {α : Type} (v : Nat) (f : Nat → α) :
    (if v = 0 then some 0 else inRange 100 600000 v).map f =
      if v = 0 ∨ 100 ≤ v ∧ v ≤ 600000 then some (f v) else none := by
  by_cases h : v = 0
  · subst h; rfl
  · rw [if_neg h, inRange_map]; simp only [h, false_or]

/-- The place of a term's field in the two term groups of a guard record (R210). -/
theorem setGuardTerm_eq {k off : Nat} (hk : k < 4) (ho : off < 13) (g : GuardRec) (v : Nat) :
    setGuardTerm g (1 + k / 2) (13 * (k % 2) + off) v =
      (setTermField (g.terms.getD k .blank) off v).map (fun t => { g with terms := g.terms.set k t }) := by
  have hplace : 2 * (1 + k / 2 - 1) + (13 * (k % 2) + off) / 13 = k := by omega
  have hoff : (13 * (k % 2) + off) % 13 = off := by omega
  simp only [setGuardTerm, hplace, hoff, GuardRec.term]
  rw [if_pos (by omega)]

/-- Settles O45. -/
theorem writeStartsRecordsAfresh : Obligations.WriteStartsRecordsAfresh := by
  refine ⟨fun p r w s hp => ⟨fun h => ?_, fun h => ?_⟩, fun i g s hi => ⟨?_, fun h => ?_, fun j hj =>
    writeGuard_guardRec_other hj g s, ?_, writeGuard_beyondAttention i g s⟩, fun c cfg s _ => writeChannel_eq c cfg s,
    fun l r s h => ?_, ?_, ?_⟩
  · rw [writePoint_of_change h, point_modPoint_same hp]
    exact ⟨rfl, rfl⟩
  · intro written
    refine ⟨fun hn => ?_, fun hc hw => ?_⟩
    · have : ¬(r.configured && w) = true := by rcases hn with hn | hn <;> simp [hn]
      rw [writePoint_of_same h, if_neg this]
    · have key := writePoint_retimed h hc hw hp
      refine ⟨fun hl => key.trans (if_pos hl), fun hl => ?_⟩
      rw [if_neg hl] at key
      refine ⟨fun hf => key.trans (if_pos hf), fun hf hlt => ?_, fun hf hle => ?_⟩
      · rw [key, if_neg (not_not_intro hf), if_neg (by omega)]
      · rw [if_neg (not_not_intro hf), if_pos hle] at key
        refine ⟨key, ?_⟩
        rw [key, settle_beyondWake, expireFreshness_beyondWake, modPoint_modPoint]
        rfl
  · rw [writeGuard_guardRec hi]
    split
    · exact plan_startAfresh g
    · rfl
  · rw [writeGuard_guardRec hi, if_pos h]
    rfl
  · have hnames : (fun e : QueueEntry => !e.names g.point) = (fun e => match e with
        | .order _ p _ _ _ _ => decide (p ≠ g.point)
        | .pass _ _ => true) := by
      funext e
      cases e <;> simp [QueueEntry.names]
    rw [writeGuard_fwd, hnames] <;> rfl
  · rw [writeLine_of_setup h]
    simp only [operatingOf_eq, decide_not]
  · intro written s items
    have happly {α : Type} (field : α → Item → Option α) (r : α) : applyItems field items r = written field items r :=
      applyItems_eq field items r
    refine ⟨fun p => ?_, fun i => congrArg (Option.map (fun g => writeGuard i g s)) (happly _ _),
      fun l => ?_, fun c =>
      congrArg (Option.map (fun r => writeChannel c r s)) (happly _ _)⟩
    · have hoff : items.any (fun i => decide (i.offset = 3)) = decide (∃ i ∈ items, i.offset = 3) := by
        rw [Bool.eq_iff_iff]; simp
      show (applyItems _ items _).bind _ = _
      rw [happly, hoff]
      cases written (fun r i => setPointField r i.offset i.value) items (s.point p) <;> rfl
    · cases l
      · exact congrArg (Option.map (fun r => writeLine .a r s)) (happly _ _)
      · exact congrArg (Option.map (fun r => writeLine .b r s)) (happly _ _)
  · intro off v put on absent
    refine ⟨rfl, fun r => ?_, fun g => ?_, fun g k hk ho => ?_, fun g k ho => if_neg (by omega), fun r => ?_, fun c => ?_⟩
    · simp only [setPointField, yesOrNo_map, inRange_map, codeIn_two, limit_map]
      rfl
    · simp only [setGuardField, yesOrNo_map, inRange_map, pointRef_map, codeIn_two, codeIn_three]
      rfl
    · rw [setGuardTerm_eq hk ho]
      simp only [setTermField, yesOrNo_map, inRange_value, pointRef_map, codeIn_three]
      rfl
    · simp only [setLineField, yesOrNo_map, pointRef_map, optPointRef_map]
      rfl
    · simp only [setChannelField, yesOrNo_map, inRange_map, pointRef_map, optPointRef_map, codeIn_two]
      rfl

end Sys2Proof.Machine
end

section
namespace Sys2Proof.Machine
open Sys2Proof

/-! ### The derivation of a line's emission state -/

/-- A line with the emission state that its enforcing channels give stored (R93). -/
def stateStored (l : LineId) (s : State) : State := s.modLine l (fun r => { r with state := emissionStateOf s l })

/-- A line that has taken its emission state: recorder and guard have an entry into RESTRICT, and the conditions follow
(R93, R155). -/
def stateTaken (l : LineId) (s : State) : State :=
  followEmission
    (if emissionStateOf s l = .restrict ∧ (s.line l).state ≠ .restrict then
      restrictEntry l (markerTrigger none (some (lineNumber l)) .lineRestrict (stateStored l s))
    else stateStored l s)

/-- A configured line takes its emission state, and its state point is written where that is due (R93). -/
theorem deriveEmission_eq (always : Bool) (l : LineId) (s : State) :
    deriveEmission always l s =
      if (s.line l).configured = true then
        if (always || decide (emissionStateOf s l ≠ (s.line l).state)) = true then
          settle (publish (s.line l).statePoint (emissionStateOf s l).number (stateTaken l s))
        else stateTaken l s
      else s := rfl

/-! ### Closes keep the attention flags -/

section
variable {s t : State}

theorem publish_flagsKept (p : Option Nat) (v : Value) (h : FlagsKept s t) : FlagsKept s (publish p v t) := by
  unfold publish
  split
  · exact h
  · exact writeSelf_flagsKept _ v h

theorem followEmission_flagsKept (h : FlagsKept s t) : FlagsKept s (followEmission t) := by
  unfold followEmission
  simp only
  exact setCondition_flagsKept _ (by decide) (setCondition_flagsKept _ (by decide) h)

theorem stateTaken_flagsKept (l : LineId) (h : FlagsKept s t) : FlagsKept s (stateTaken l t) := by
  have hstored : FlagsKept s (stateStored l t) := h.then_flags (by rw [stateStored, State.modLine_attention])
  refine followEmission_flagsKept ?_
  split
  · exact restrictEntry_flagsKept l (markerTrigger_flagsKept _ _ _ hstored)
  · exact hstored

theorem deriveEmission_flagsKept (always : Bool) (l : LineId) (h : FlagsKept s t) :
    FlagsKept s (deriveEmission always l t) := by
  have htaken := stateTaken_flagsKept l h
  rw [deriveEmission_eq]
  split
  · split
    · exact settle_flagsKept (publish_flagsKept _ _ htaken)
    · exact htaken
  · exact h

theorem closeHalf_flagsKept (cut : Bool) (c : Nat) (h : FlagsKept s t) : FlagsKept s (closeHalf cut c t) := by
  have hmod (f : Channel → Channel) : FlagsKept s (t.modChannel c f) := h.then_flags (by rw [State.modChannel_attention])
  unfold closeHalf
  simp only
  split
  · exact hmod _
  · exact settle_flagsKept (publish_flagsKept _ _ (hmod _))

theorem deriveClosed_flagsKept (l : List Nat) (h : FlagsKept s t) : FlagsKept s (deriveClosed l t) := by
  refine foldl_flagsKept (fun t m ht => ?_) _ h
  split
  · exact deriveEmission_flagsKept true m ht
  · exact ht

theorem closeHalves_flagsKept (cut : Bool) (l : List Nat) (h : FlagsKept s t) :
    FlagsKept s (l.foldl (fun t c => closeHalf cut c t) t) :=
  foldl_flagsKept (fun _ c => closeHalf_flagsKept cut c) l h

end

theorem closeDays_attention (cut : Bool) (l : List Nat) (s : State) :
    (l.foldl (fun t c => closeDay cut c t) s).attention = s.attention :=
  foldl_keeps State.attention (fun t c => closeDay cut c t)
    (fun t c => (rfl : (closeDay cut c t).attention = t.attention)) l s

theorem openPeriods_attention (l : List Nat) (s : State) :
    (l.foldl (fun t c => openPeriod c t) s).attention = s.attention :=
  foldl_keeps State.attention (fun t c => openPeriod c t)
    (fun t c => (rfl : (openPeriod c t).attention = t.attention)) l s

/-! ### A plant whose operating points the part does not write

The channels and lines then change through a close alone: no write that a close makes, and no cycle that it brings, wakes a
line. -/

/-- The part itself writes no operating point of a line. -/
def Quiet (s : State) : Prop := ∀ l, publishes s.emission.plan s.dispatch.cfg (s.line l).opPoint = false

theorem publishes_plan (e : Emission) (c : DispatchCfg) (p : Nat) : publishes e.plan c p = publishes e c p := by
  simp [publishes, Emission.plan, LineRec.plan, Channel.plan, List.any_map, Function.comp_def]
  rfl

theorem opPoint_of_plan {s t : State} (h : t.emission.plan = s.emission.plan) (l : LineId) :
    (t.line l).opPoint = (s.line l).opPoint := by
  cases l
  · exact (congrArg (fun e => e.lineA.opPoint) h :)
  · exact (congrArg (fun e => e.lineB.opPoint) h :)

theorem plan_of_beyondWake {s t : State} (h : beyondWake t = beyondWake s) : t.emission.plan = s.emission.plan :=
  (congrArg State.emission h :)

theorem cfg_of_beyondWake {s t : State} (h : beyondWake t = beyondWake s) : t.dispatch.cfg = s.dispatch.cfg :=
  (congrArg (fun t => t.dispatch.cfg) h :)

theorem clock_of_beyondWake {s t : State} (h : beyondWake t = beyondWake s) : t.clock = s.clock :=
  (congrArg State.clock h :)

/-- What shows nothing beyond a wake leaves a quiet plant quiet. -/
theorem Quiet.of_beyondWake {s t : State} (hq : Quiet s) (h : beyondWake t = beyondWake s) : Quiet t := by
  intro l
  rw [opPoint_of_plan (plan_of_beyondWake h), plan_of_beyondWake h, cfg_of_beyondWake h]
  exact hq l

theorem line_of_emission {s t : State} (h : t.emission = s.emission) (l : LineId) : t.line l = s.line l := by
  cases l <;> simp only [State.line, h]

theorem channel_of_emission {s t : State} (h : t.emission = s.emission) (c : Nat) : t.channel c = s.channel c := by
  simp only [State.channel, h]

theorem emission_of_beyondGuard {s t : State} (h : beyondGuard t = beyondGuard s) : t.emission = s.emission :=
  (congrArg State.emission h :)

theorem emission_of_beyondRecorder {s t : State} (h : beyondRecorder t = beyondRecorder s) : t.emission = s.emission :=
  (congrArg State.emission h :)

theorem emission_of_beyondAttention {s t : State} (h : beyondAttention t = beyondAttention s) :
    t.emission = s.emission := (congrArg State.emission h :)

theorem serve_emission (s : State) : (serve s).emission = s.emission := (congrArg State.emission (serve_standing s) :)

theorem wakeGuard_emission (p : Nat) (s : State) : (wakeGuard p s).emission = s.emission :=
  emission_of_beyondGuard (wakeGuard_beyondGuard p s)

theorem wakeDispatch_emission (p : Nat) (s : State) : (wakeDispatch p s).emission = s.emission :=
  (congrArg State.emission (wakeDispatch_beyondInputs p s) :)

theorem handUpstream_emission (e : UpEntry) (s : State) : (handUpstream e s).emission = s.emission :=
  (congrArg State.emission (handUpstream_beyondUpstream e s) :)

theorem reportSelf_emission (p : Nat) (a b : Value × Quality) (s : State) : (reportSelf p a b s).emission = s.emission := by
  unfold reportSelf
  split
  · exact handUpstream_emission _ _
  · rfl

/-- A point that is no line's operating point wakes no line. -/
theorem wakeLines_of_unread {p : Nat} {s : State} (h : ∀ l, (s.line l).opPoint ≠ p) : wakeLines p s = s := by
  simp only [wakeLines, List.foldl_cons, List.foldl_nil, if_neg (h .a), if_neg (h .b)]

/-- A write of a point reaches the emission unit through the lines' wake alone (R12, R92). -/
theorem writeSelf_emission (p : Nat) (v : Value) (s : State) :
    (writeSelf p v s).emission = (wakeLines p (wakeGuard p (storeUpdate p v .good s))).emission := by
  unfold writeSelf pointEvent wakeConsumers
  rw [serve_emission, reportSelf_emission, wakeDispatch_emission]

theorem storeUpdate_emission (p : Nat) (v : Value) (q : Quality) (s : State) :
    (storeUpdate p v q s).emission = s.emission := rfl

theorem writeSelf_emission_of_quiet {p : Nat} {s : State} (hq : Quiet s)
    (hp : publishes s.emission.plan s.dispatch.cfg p = true) (v : Value) : (writeSelf p v s).emission = s.emission := by
  have he : (wakeGuard p (storeUpdate p v .good s)).emission = s.emission := by
    rw [wakeGuard_emission, storeUpdate_emission]
  have hunread (l : LineId) : ((wakeGuard p (storeUpdate p v .good s)).line l).opPoint ≠ p := by
    rw [line_of_emission he]
    rintro rfl
    rw [hq l] at hp
    exact Bool.false_ne_true hp
  rw [writeSelf_emission, wakeLines_of_unread hunread, he]

theorem followDispatch_emission (s : State) : (followDispatch s).emission = s.emission :=
  emission_of_beyondAttention (followDispatch_beyondAttention s)

/-- Runtime fields of the dispatch unit lie within a wake's reach. -/
theorem dispatch_beyondWake {s : State} {d : DispatchUnit} (h : d.plan = s.dispatch.plan) :
    beyondWake { s with dispatch := d } = beyondWake s := by
  have hcfg : d.cfg = s.dispatch.cfg := (congrArg (fun u => u.cfg) h :)
  simp only [beyondWake, standing, h, hcfg]

/-- The cycle occasions of a quiet plant leave the emission unit as it is. -/
theorem cycleFrame_emission :
    CycleFrame (fun s t => beyondWake t = beyondWake s ∧ (Quiet s → t.emission = s.emission)) where
  refl := fun _ => ⟨rfl, fun _ => rfl⟩
  trans := fun h1 h2 => ⟨h2.1.trans h1.1, fun hq => (h2.2 (hq.of_beyondWake h1.1)).trans (h1.2 hq)⟩
  serve := fun s => ⟨serve_beyondWake s, fun _ => serve_emission s⟩
  handed := fun r s => ⟨handAll_beyondWake r s, fun _ => emission_of_beyondGuard (handAll_beyondGuard r s)⟩
  unit := fun _ _ hd => ⟨dispatch_beyondWake hd, fun _ => rfl⟩
  conditions := fun s => ⟨followDispatch_beyondWake s, fun _ => followDispatch_emission s⟩
  written := fun p v s hp => ⟨writeSelf_published p v s hp, fun hq => writeSelf_emission_of_quiet hq hp v⟩

theorem settle_emission {s : State} (hq : Quiet s) : (settle s).emission = s.emission := (cycleFrame_emission.settle s).2 hq

theorem publish_emission {s : State} (hq : Quiet s) {p : Option Nat}
    (hp : ∀ q, p = some q → publishes s.emission.plan s.dispatch.cfg q = true) (v : Value) :
    (publish p v s).emission = s.emission := (cycleFrame_emission.publish p v s hp).2 hq

/-! ### What a close does to its channel, and the lines with closed channels -/

/-- A channel that has closed its half-hour (R106, R107). -/
def Channel.closedHalf (cut : Bool) (ch : Channel) : Channel :=
  { ch with half := (halfRecord cut ch :: ch.half).take Config.halfRingCap, run := afterHalf ch (halfRecord cut ch) }

/-- A channel that has closed its day (R111). -/
def Channel.closedDay (cut : Bool) (signature : Nat) (ch : Channel) : Channel :=
  { ch with days := (dayRecord cut signature ch :: ch.days).take Config.dayRingCap }

theorem closedHalf_plan (cut : Bool) (ch : Channel) : (ch.closedHalf cut).plan = ch.plan := rfl

theorem closeHalf_eq (cut : Bool) (c : Nat) (s : State) :
    closeHalf cut c s =
      match (halfRecord cut (s.channel c)).average with
      | none => s.modChannel c (·.closedHalf cut)
      | some avg => settle (publish (s.channel c).cfg.avgPoint avg (s.modChannel c (·.closedHalf cut))) := by
  have h : s.modChannel c (fun ch => { ch with
      half := (halfRecord cut (s.channel c) :: ch.half).take Config.halfRingCap,
      run := afterHalf ch (halfRecord cut (s.channel c)) }) = s.modChannel c (·.closedHalf cut) := modChannel_congr rfl
  unfold closeHalf
  simp only [h] <;> rfl

/-- The write of the average point, with the cycles that it brings, leaves the closed channel (R104, R107). -/
theorem closeHalf_emission {cut : Bool} {c : Nat} {s : State} (hq : Quiet s) :
    (closeHalf cut c s).emission = (s.modChannel c (·.closedHalf cut)).emission := by
  have hmod : beyondWake (s.modChannel c (·.closedHalf cut)) = beyondWake s :=
    modChannel_beyondWake c _ s (closedHalf_plan cut)
  have hq1 := hq.of_beyondWake hmod
  have hpub (q : Nat) (h : (s.channel c).cfg.avgPoint = some q) :
      publishes (s.modChannel c (·.closedHalf cut)).emission.plan (s.modChannel c (·.closedHalf cut)).dispatch.cfg q
        = true := by
    rw [publishes_of_beyondWake hmod]
    exact publishes_channel h
  rw [closeHalf_eq]
  split
  · rfl
  · rw [settle_emission (hq1.of_beyondWake (publish_beyondWake _ _ _ hpub)), publish_emission hq1 hpub]

theorem followEmission_emission (s : State) : (followEmission s).emission = s.emission := by
  unfold followEmission
  simp only
  rw [emission_of_beyondAttention (setCondition_beyondAttention _ _ _),
    emission_of_beyondAttention (setCondition_beyondAttention _ _ _)]

theorem stateTaken_emission (l : LineId) (s : State) : (stateTaken l s).emission = (stateStored l s).emission := by
  rw [stateTaken, followEmission_emission]
  split
  · rw [emission_of_beyondGuard (restrictEntry_beyondGuard _ _),
      emission_of_beyondRecorder (markerTrigger_beyondRecorder _ _ _ _)]
  · rfl

theorem stateTaken_beyondWake (l : LineId) (s : State) : beyondWake (stateTaken l s) = beyondWake s := by
  have hstored : beyondWake (stateStored l s) = beyondWake s := modLine_beyondWake l _ s (fun _ => rfl)
  rw [stateTaken, followEmission_beyondWake]
  split
  · rw [widen beyondWake_beyondGuard (restrictEntry_beyondGuard _ _),
      widen beyondWake_beyondRecorder (markerTrigger_beyondRecorder _ _ _ _), hstored]
  · exact hstored

/-- In a quiet plant the derivation of a line's emission state changes that state alone of the emission unit (R93). -/
theorem deriveEmission_emission {always : Bool} {l : LineId} {s : State} (hq : Quiet s) :
    (deriveEmission always l s).emission =
      if (s.line l).configured = true then (stateStored l s).emission else s.emission := by
  have hquiet : Quiet (stateTaken l s) := hq.of_beyondWake (stateTaken_beyondWake l s)
  have hpub (q : Nat) (h : (s.line l).statePoint = some q) :
      publishes (stateTaken l s).emission.plan (stateTaken l s).dispatch.cfg q = true := by
    rw [publishes_of_beyondWake (stateTaken_beyondWake l s)]
    exact publishes_line h
  rw [deriveEmission_eq]
  split
  · split
    · rw [settle_emission (hquiet.of_beyondWake (publish_beyondWake _ _ _ hpub)), publish_emission hquiet hpub,
        stateTaken_emission]
    · exact stateTaken_emission l s
  · rfl

/-- A line once the lines with closed channels have derived their state (R104 step 2). -/
def derivedLine (closed : List Nat) (s : State) (l : LineId) : LineRec :=
  if closed.any (fun c => decide ((s.channel c).cfg.line = l)) = true ∧ (s.line l).configured = true then
    { s.line l with state := emissionStateOf s l }
  else s.line l

theorem deriveClosed_emission {closed : List Nat} {s : State} (hq : Quiet s) :
    (deriveClosed closed s).emission =
      { s.emission with lineA := derivedLine closed s .a, lineB := derivedLine closed s .b } := by
  have one (l : LineId) (t : State) (ht : Quiet t) :
      (if closed.any (fun c => decide ((t.channel c).cfg.line = l)) = true then deriveEmission true l t else t).emission =
        (t.modLine l (fun _ => derivedLine closed t l)).emission := by
    have keep : (t.modLine l (fun _ => t.line l)).emission = t.emission := by cases l <;> rfl
    unfold derivedLine
    by_cases hany : closed.any (fun c => decide ((t.channel c).cfg.line = l)) = true
    · rw [if_pos hany, deriveEmission_emission ht]
      by_cases hc : (t.line l).configured = true
      · rw [if_pos hc, if_pos ⟨hany, hc⟩]
        cases l <;> rfl
      · rw [if_neg hc, if_neg (fun h => hc h.2), keep]
    · rw [if_neg hany, if_neg (fun h => hany h.1), keep]
  simp only [deriveClosed, List.foldl_cons, List.foldl_nil]
  generalize hu : (if closed.any (fun c => decide ((s.channel c).cfg.line = .a)) = true then deriveEmission true .a s
    else s) = u
  have hue : u.emission = { s.emission with lineA := derivedLine closed s .a } := hu ▸ one .a s hq
  have huw : beyondWake u = beyondWake s := by
    rw [← hu]
    split
    · exact deriveEmission_beyondWake _ _ _
    · rfl
  have hchan : ∀ c, u.channel c = s.channel c := by
    intro c
    simp only [State.channel, hue]
  have hb : derivedLine closed u .b = derivedLine closed s .b := by
    simp only [derivedLine, hchan, emissionStateOf, enforcingChannels, State.line, hue]
    rfl
  rw [one .b u (hq.of_beyondWake huw), hb]
  simp only [State.modLine, hue]

/-! ### Acting on the channels of a list -/

/-- Between two states each channel of a list is changed alike, and the lines and the other channels stand. -/
structure ChannelsActed (l : List Nat) (g : Channel → Channel) (s t : State) : Prop where
  lines : ∀ m, t.line m = s.line m
  size  : t.emission.channels.length = s.emission.channels.length
  acted : ∀ c, c < s.emission.channels.length → t.channel c = if c ∈ l then g (s.channel c) else s.channel c

/-- A step that changes one channel, taken for each channel of a list without repetition. -/
theorem foldl_channelsActed {f : State → Nat → State} {g : Channel → Channel} {I : State → Prop}
    (hI : ∀ t c, I t → I (f t c)) (hf : ∀ t c, I t → (f t c).emission = (t.modChannel c g).emission)
    {l : List Nat} {s : State} (hl : l.Nodup) (hs : I s) : ChannelsActed l g s (l.foldl f s) := by
  induction l generalizing s with
  | nil => exact ⟨fun _ => rfl, rfl, fun c _ => by simp⟩
  | cons k l ih =>
    obtain ⟨hk, hl⟩ := List.nodup_cons.mp hl
    have he := hf s k hs
    have hsize : (f s k).emission.channels.length = s.emission.channels.length := by
      rw [he]; exact List.length_modify ..
    obtain ⟨hlines, hlen, hacted⟩ := ih hl (hI s k hs)
    refine ⟨fun m => (hlines m).trans ?_, hlen.trans hsize, fun c hc => ?_⟩
    · rw [line_of_emission he]
      cases m <;> rfl
    · rw [List.foldl_cons, hacted c (by omega), channel_of_emission he, State.channel_modChannel]
      by_cases hck : k = c
      · subst hck
        simp [hk, hc]
      · simp [hck, Ne.symm hck]

theorem closeHalves_acted {cut : Bool} {l : List Nat} {s : State} (hq : Quiet s) (hl : l.Nodup) :
    ChannelsActed l (·.closedHalf cut) s (l.foldl (fun t c => closeHalf cut c t) s) :=
  foldl_channelsActed (I := Quiet) (fun t c ht => ht.of_beyondWake (closeHalf_beyondWake cut c t))
    (fun _ _ ht => closeHalf_emission ht) hl hq

theorem closeDays_acted {cut : Bool} {l : List Nat} (s : State) (hl : l.Nodup) :
    ChannelsActed l (·.closedDay cut s.part.signature) s (l.foldl (fun t c => closeDay cut c t) s) :=
  foldl_channelsActed (f := fun t c => closeDay cut c t) (I := fun t => t.part = s.part) (fun _ _ ht => ht)
    (fun t c (ht : t.part = s.part) => by
      rw [← ht]
      exact (rfl : (closeDay cut c t).emission = _)) hl rfl

/-- The runtime fields of a channel that opens a period read the period handed last and its line's operating flag. -/
theorem openedRun_congr {s t : State} (hc : t.clock.handed = s.clock.handed)
    (hl : ∀ m, (t.line m).operating = (s.line m).operating) (ch : Channel) : openedRun t ch = openedRun s ch := by
  simp only [openedRun, hc, hl]

theorem openPeriods_acted {l : List Nat} (s : State) (hl : l.Nodup) :
    ChannelsActed l (fun ch => { ch with run := openedRun s ch }) s (l.foldl (fun t c => openPeriod c t) s) := by
  refine foldl_channelsActed (f := fun t c => openPeriod c t) (I := fun t => t.clock = s.clock ∧ ∀ m, t.line m = s.line m)
    (fun t c ht => ⟨ht.1, fun m => ?_⟩) (fun t c ht => ?_) hl ⟨rfl, fun _ => rfl⟩
  · rw [← ht.2 m]
    cases m <;> rfl
  · have : openedRun t = openedRun s := funext (openedRun_congr (by rw [ht.1]) (fun m => by rw [ht.2]))
    rw [← this]
    rfl

theorem mem_openChannels {s : State} {c : Nat} : c ∈ openChannels s ↔ c < 16 ∧ (s.channel c).run.opened = true := by
  simp [openChannels]

theorem mem_configuredChannels {s : State} {c : Nat} :
    c ∈ configuredChannels s ↔ c < 16 ∧ (s.channel c).cfg.configured = true := by
  simp [configuredChannels]

theorem openChannels_nodup (s : State) : (openChannels s).Nodup := List.nodup_range.filter _

theorem configuredChannels_nodup (s : State) : (configuredChannels s).Nodup := List.nodup_range.filter _

theorem openChannels_eq_nil {s : State} : openChannels s = [] ↔ ∀ c < 16, (s.channel c).run.opened = false := by
  rw [List.eq_nil_iff_forall_not_mem]
  simp [mem_openChannels]

end Sys2Proof.Machine
end

section
namespace Sys2Proof.Machine
open Sys2Proof

/-! ### A period's passing: the open channels close it and open the next -/

namespace ChannelsActed

variable {l : List Nat} {g g' : Channel → Channel} {s t u : State}

theorem trans (h : ChannelsActed l g s t) (h' : ChannelsActed l g' t u) : ChannelsActed l (fun ch => g' (g ch)) s u where
  lines := fun m => (h'.lines m).trans (h.lines m)
  size := h'.size.trans h.size
  acted := fun c hc => by
    rw [h'.acted c (h.size ▸ hc), h.acted c hc]
    split <;> rfl

theorem refl (l : List Nat) (s : State) : ChannelsActed l (fun ch => ch) s s where
  lines := fun _ => rfl
  size := rfl
  acted := fun c _ => by split <;> rfl

theorem of_emission {s' t' : State} (h : ChannelsActed l g s t) (hs : s'.emission = s.emission)
    (ht : t'.emission = t.emission) : ChannelsActed l g s' t' where
  lines := fun m => by rw [line_of_emission hs, line_of_emission ht, h.lines m]
  size := by rw [hs, ht]; exact h.size
  acted := fun c hc => by
    rw [channel_of_emission hs, channel_of_emission ht]
    exact h.acted c (hs ▸ hc)

end ChannelsActed

/-- A channel that has closed its half-hour and, where the day closes, its day (R104, R112). -/
def Channel.closed (cut day : Bool) (signature : Nat) (ch : Channel) : Channel :=
  if day then (ch.closedHalf cut).closedDay cut signature else ch.closedHalf cut

/-- A channel that has closed its half-hour, and its day where that closes, and has opened the period handed last
(R104, R112). -/
def passed (cut day : Bool) (s : State) (ch : Channel) : Channel :=
  { ch.closed cut day s.part.signature with run := openedRun s (ch.closed cut day s.part.signature) }

section
variable (cut day : Bool) (s : State) (ch : Channel)

theorem passed_half : (passed cut day s ch).half = (halfRecord cut ch :: ch.half).take 48 := by
  cases day <;> rfl

theorem passed_days : (passed cut day s ch).days =
    if day = true then
      (dayRecord cut s.part.signature { ch with run := afterHalf ch (halfRecord cut ch) } :: ch.days).take 31
    else ch.days := by
  cases day <;> rfl

theorem passed_run :
    (passed cut day s ch).run = openedRun s { ch with run := afterHalf ch (halfRecord cut ch) } := by
  cases day <;> rfl

theorem openedRun_latch : (openedRun s ch).latch = ch.run.latch := by
  simp only [openedRun]
  split <;> rfl

theorem passed_latch : (passed cut day s ch).run.latch = (ch.closedHalf cut).run.latch := by
  rw [passed_run, openedRun_latch]
  rfl

end

theorem openChannels_lt {s : State} (hn : s.emission.channels.length = Config.channels) {c : Nat} (hc : c ∈ openChannels s) :
    c < s.emission.channels.length := by
  rw [hn]
  exact (mem_openChannels.mp hc).1

theorem derivedLine_operating (l : List Nat) (s : State) (m : LineId) :
    (derivedLine l s m).operating = (s.line m).operating := by
  unfold derivedLine
  split <;> rfl

/-- In a quiet plant the derivation of the lines' emission states leaves every channel, and each line but its state. -/
theorem deriveClosed_line {l : List Nat} {s : State} (hq : Quiet s) (m : LineId) :
    (deriveClosed l s).line m = derivedLine l s m := by
  cases m <;> simp only [State.line, deriveClosed_emission hq]

theorem deriveClosed_channels {l : List Nat} {s : State} (hq : Quiet s) :
    (deriveClosed l s).emission.channels = s.emission.channels := by rw [deriveClosed_emission hq]

theorem closeHalves_beyondWake (cut : Bool) (l : List Nat) (s : State) :
    beyondWake (l.foldl (fun t c => closeHalf cut c t) s) = beyondWake s :=
  foldl_keeps beyondWake _ (fun t c => closeHalf_beyondWake cut c t) l s

/-- The channels of a list close their half-hour, and the lines with one of them derive their emission state
(R104, R112). -/
def closesDerived (cut : Bool) (l : List Nat) (s : State) : State :=
  deriveClosed l (l.foldl (fun t c => closeHalf cut c t) s)

theorem closesDerived_beyondWake (cut : Bool) (l : List Nat) (s : State) :
    beyondWake (closesDerived cut l s) = beyondWake s := by
  rw [closesDerived, deriveClosed_beyondWake, closeHalves_beyondWake]

theorem closesDerived_length {cut : Bool} {l : List Nat} {s : State} (hq : Quiet s) (hl : l.Nodup) :
    (closesDerived cut l s).emission.channels.length = s.emission.channels.length := by
  rw [closesDerived, deriveClosed_channels (hq.of_beyondWake (closeHalves_beyondWake cut l s))]
  exact (closeHalves_acted hq hl).size

theorem closesDerived_channel {cut : Bool} {l : List Nat} {s : State} (hq : Quiet s) (hl : l.Nodup) {c : Nat}
    (hc : c < s.emission.channels.length) :
    (closesDerived cut l s).channel c = if c ∈ l then (s.channel c).closedHalf cut else s.channel c := by
  rw [State.channel, closesDerived, deriveClosed_channels (hq.of_beyondWake (closeHalves_beyondWake cut l s))]
  exact (closeHalves_acted hq hl).acted c hc

theorem closesDerived_line {cut : Bool} {l : List Nat} {s : State} (hq : Quiet s) (m : LineId) :
    (closesDerived cut l s).line m = derivedLine l (l.foldl (fun t c => closeHalf cut c t) s) m :=
  deriveClosed_line (hq.of_beyondWake (closeHalves_beyondWake cut l s)) m

/-- The channels of a list close their half-hour, the lines derive their state, the day closes where it does, and the
channels open the period handed last: what `emissionBoundary` and `emissionTimeSet` share (R104, R112). -/
theorem period_passes {cut day : Bool} {l : List Nat} {s v w : State} (hq : Quiet s) (hl : l.Nodup)
    (hv : v.emission = (closesDerived cut l s).emission) (hvp : v.part = s.part)
    (hw : w.emission = (if day = true then l.foldl (fun t c => closeDay cut c t) v else v).emission)
    (hwc : w.clock = s.clock) :
    (∀ c < s.emission.channels.length, (l.foldl (fun t c => openPeriod c t) w).channel c =
      if c ∈ l then passed cut day s (s.channel c) else s.channel c) ∧
    (∀ m, (l.foldl (fun t c => openPeriod c t) w).line m = (closesDerived cut l s).line m) := by
  have days : ChannelsActed l (fun ch => if day = true then ch.closedDay cut s.part.signature else ch) v w := by
    cases day
    · exact (ChannelsActed.refl l v).of_emission rfl hw
    · rw [← hvp]
      exact (closeDays_acted v hl).of_emission rfl hw
  have hopen : openedRun w = openedRun s := by
    refine funext (openedRun_congr (by rw [hwc]) fun m => ?_)
    rw [days.lines m, line_of_emission hv, closesDerived_line hq, derivedLine_operating,
      (closeHalves_acted hq hl).lines m]
  have opens := days.trans (openPeriods_acted w hl)
  refine ⟨fun c hc => ?_, fun m => (opens.lines m).trans (line_of_emission hv m)⟩
  rw [opens.acted c (by rw [hv, closesDerived_length hq hl]; exact hc), channel_of_emission hv,
    closesDerived_channel hq hl hc, hopen]
  split <;> rfl

/-! ### The emission state that closed channels give -/

theorem mem_enforcingChannels {s : State} {l : LineId} {ch : Channel} (hn : s.emission.channels.length = 16) :
    ch ∈ enforcingChannels s l ↔ ∃ c < 16, s.channel c = ch ∧ (s.channel c).cfg.configured = true ∧
      (s.channel c).cfg.line = l ∧ (s.channel c).cfg.enforcing = true := by
  rw [enforcingChannels, List.mem_filter, List.mem_iff_getElem]
  simp only [Bool.and_eq_true, decide_eq_true_eq, hn]
  constructor
  · rintro ⟨⟨c, hc, rfl⟩, ⟨h1, h2⟩, h3⟩
    have : s.channel c = s.emission.channels[c] := by simp [State.channel, hn, hc]
    exact ⟨c, hc, this, this ▸ h1, this ▸ h2, this ▸ h3⟩
  · rintro ⟨c, hc, rfl, h1, h2, h3⟩
    exact ⟨⟨c, hc, by simp [State.channel, hn, hc]⟩, ⟨h1, h2⟩, h3⟩

/-- One latched enforcing channel restricts its line; without one, and with no warn flag, the line is NORMAL (R93). -/
theorem emissionStateOf_of_calm {s : State} {l : LineId} (hn : s.emission.channels.length = 16)
    (hcalm : ∀ c < 16, (s.channel c).run.warn = false) :
    ((∃ c < 16, (s.channel c).cfg.configured = true ∧ (s.channel c).cfg.line = l ∧ (s.channel c).cfg.enforcing = true ∧
        (s.channel c).run.latch = true) → emissionStateOf s l = .restrict) ∧
    (¬(∃ c < 16, (s.channel c).cfg.configured = true ∧ (s.channel c).cfg.line = l ∧
        (s.channel c).cfg.enforcing = true ∧ (s.channel c).run.latch = true) → emissionStateOf s l = .normal) := by
  have hlatch : (enforcingChannels s l).any (fun c => c.run.latch) = true ↔
      ∃ c < 16, (s.channel c).cfg.configured = true ∧ (s.channel c).cfg.line = l ∧
        (s.channel c).cfg.enforcing = true ∧ (s.channel c).run.latch = true := by
    simp only [List.any_eq_true, mem_enforcingChannels hn]
    constructor
    · rintro ⟨_, ⟨c, hc, rfl, h1, h2, h3⟩, h4⟩
      exact ⟨c, hc, h1, h2, h3, h4⟩
    · rintro ⟨c, hc, h1, h2, h3, h4⟩
      exact ⟨_, ⟨c, hc, rfl, h1, h2, h3⟩, h4⟩
  have hwarn : ¬(enforcingChannels s l).any (fun c => c.run.warn) = true := by
    simp only [List.any_eq_true, mem_enforcingChannels hn]
    rintro ⟨_, ⟨c, hc, rfl, -⟩, h⟩
    rw [hcalm c hc] at h
    exact Bool.false_ne_true h
  rw [← hlatch]
  exact ⟨fun h => by rw [emissionStateOf, if_pos h], fun h => by rw [emissionStateOf, if_neg h, if_neg hwarn]⟩

/-! ### PERIOD-CLOSED, PERIOD-CUT and DAY-CLOSED -/

/-- A close gives cause for PERIOD-CLOSED by the notice mode, or by an INVALID, CUT or exceeded record (R109). -/
theorem givesCause_of_half {ch : Channel} {r : HalfRec} {l : List HalfRec} (h : ch.half = r :: l) :
    givesCause ch = true ↔
      ch.cfg.exceptions = false ∨ r.status = .invalid ∨ r.status = .cut ∨ r.exceeded = true := by
  simp only [givesCause, h, Bool.or_eq_true, Bool.not_eq_true', decide_eq_true_eq, or_assoc]

theorem halfStatus_ne_cut (ch : Channel) : halfStatus ch ≠ .cut := by
  unfold halfStatus
  (repeat' split) <;> decide

theorem raisePeriodClosed_isSet {l : List Nat} {s : State} (hl : s.attention.flags.length = flagCount) (j : Nat) :
    ((raisePeriodClosed l s).flag j).isSet =
      ((s.flag j).isSet || (l.any (fun c => givesCause (s.channel c)) && decide (22 = j))) := by
  unfold raisePeriodClosed
  split
  · next h => rw [raiseFlag_isSet _ hl, h]; rfl
  · next h => simp [h]

theorem raisePeriodClosed_emission (l : List Nat) (s : State) : (raisePeriodClosed l s).emission = s.emission := by
  unfold raisePeriodClosed
  split
  · exact emission_of_beyondAttention (raiseFlag_beyondAttention _ _)
  · rfl

/-- The half-hours close and the lines derive their state without touching flags 22 to 24. -/
theorem closesDerived_periodFlags (cut : Bool) (l : List Nat) (s : State) :
    periodFlags (closesDerived cut l s).attention = periodFlags s.attention := by
  rw [closesDerived, deriveClosed_periodFlags, foldl_keeps (fun t => periodFlags t.attention) _
    (fun t c => closeHalf_periodFlags cut c t)]

theorem closesDerived_flagsKept (cut : Bool) (l : List Nat) (s : State) : FlagsKept s (closesDerived cut l s) :=
  deriveClosed_flagsKept l (closeHalves_flagsKept cut l (.refl s))

theorem raisePeriodClosed_flagsKept (l : List Nat) (s : State) : FlagsKept s (raisePeriodClosed l s) := by
  unfold raisePeriodClosed
  split
  · exact raiseFlag_flagsKept _ (.refl s)
  · exact .refl s

end Sys2Proof.Machine
end

section
namespace Sys2Proof.Machine
open Sys2Proof

/-! ### A period boundary -/

theorem emissionBoundary_of_idle {day : Bool} {s : State} (h : openChannels s = []) : emissionBoundary day s = s :=
  if_pos h

/-- The emission unit at a boundary when the open channels have closed: PERIOD-CLOSED, and at midnight the days with
DAY-CLOSED (R104, R109). -/
def boundaryClosed (day : Bool) (l : List Nat) (s : State) : State :=
  if day then
    raiseFlag .dayClosed (l.foldl (fun t c => closeDay false c t) (raisePeriodClosed l (closesDerived false l s)))
  else raisePeriodClosed l (closesDerived false l s)

theorem emissionBoundary_of_open {day : Bool} {s : State} (h : openChannels s ≠ []) :
    emissionBoundary day s =
      (openChannels s).foldl (fun t c => openPeriod c t) (boundaryClosed day (openChannels s) s) :=
  if_neg h

theorem boundaryClosed_beyondWake (day : Bool) (l : List Nat) (s : State) :
    beyondWake (boundaryClosed day l s) = beyondWake s := by
  unfold boundaryClosed
  split
  · rw [raiseFlag_beyondWake, foldl_keeps beyondWake _ (fun t c => closeDay_beyondWake false c t),
      raisePeriodClosed_beyondWake, closesDerived_beyondWake]
  · rw [raisePeriodClosed_beyondWake, closesDerived_beyondWake]

/-- What a boundary does to each channel, and which line states it leaves (R104). -/
theorem emissionBoundary_passes {day : Bool} {s : State} (hq : Quiet s) (h : openChannels s ≠ []) :
    (∀ c < s.emission.channels.length, (emissionBoundary day s).channel c =
      if c ∈ openChannels s then passed false day s (s.channel c) else s.channel c) ∧
    (∀ m, (emissionBoundary day s).line m = (closesDerived false (openChannels s) s).line m) := by
  rw [emissionBoundary_of_open h]
  refine period_passes hq (openChannels_nodup s) (raisePeriodClosed_emission (openChannels s) _) ?_ ?_
    (clock_of_beyondWake (boundaryClosed_beyondWake day _ s))
  · exact part_of_beyondWake ((raisePeriodClosed_beyondWake _ _).trans (closesDerived_beyondWake false _ s))
  · cases day
    · rfl
    · exact emission_of_beyondAttention (raiseFlag_beyondAttention _ _)

/-- A boundary sets PERIOD-CLOSED where a closed channel gives cause, DAY-CLOSED at midnight, and no other of flags 22
to 24 (R109). -/
theorem emissionBoundary_isSet {day : Bool} {s : State} (hl : s.attention.flags.length = flagCount)
    (h : openChannels s ≠ []) {j : Nat} (h1 : 22 ≤ j) (h2 : j ≤ 24) :
    ((emissionBoundary day s).flag j).isSet =
      ((s.flag j).isSet ||
        ((openChannels s).any (fun c => givesCause ((closesDerived false (openChannels s) s).channel c)) && decide (22 = j)) ||
        (day && decide (24 = j))) := by
  have hkept := closesDerived_flagsKept false (openChannels s) s
  have hsame : ((closesDerived false (openChannels s) s).flag j).isSet = (s.flag j).isSet :=
    isSet_of_periodFlags (closesDerived_periodFlags _ _ _) h1 h2
  have hclosed := raisePeriodClosed_isSet (l := openChannels s) (hkept.length.trans hl) j
  have hlen := (hkept.trans (raisePeriodClosed_flagsKept (openChannels s) _)).length.trans hl
  rw [emissionBoundary_of_open h, flag_of_flags (congrArg Attention.flags (openPeriods_attention _ _)), ← hsame, ← hclosed]
  cases day
  · simp [boundaryClosed]
  · have hdays := congrArg Attention.flags (closeDays_attention false (openChannels s)
      (raisePeriodClosed (openChannels s) (closesDerived false (openChannels s) s)))
    simp only [boundaryClosed, if_true, Bool.true_and]
    rw [raiseFlag_isSet _ (by rw [hdays]; exact hlen), flag_of_flags hdays]
    rfl

/-- In a quiet plant the channels that give cause do so by their notice mode or by their own record (R105, R109). -/
theorem givesCause_closed {s : State} (hq : Quiet s) (hn : s.emission.channels.length = Config.channels) :
    (openChannels s).any (fun c => givesCause ((closesDerived false (openChannels s) s).channel c)) = true ↔
      ∃ c < 16, (s.channel c).run.opened = true ∧
        ((s.channel c).cfg.exceptions = false ∨ (halfRecord false (s.channel c)).status = .invalid ∨
          (halfRecord false (s.channel c)).exceeded = true) := by
  have hgives {c : Nat} (hc : c ∈ openChannels s) :
      givesCause ((closesDerived false (openChannels s) s).channel c) = true ↔
        (s.channel c).cfg.exceptions = false ∨ (halfRecord false (s.channel c)).status = .invalid ∨
          (halfRecord false (s.channel c)).exceeded = true := by
    rw [closesDerived_channel hq (openChannels_nodup s) (openChannels_lt hn hc), if_pos hc]
    refine (givesCause_of_half (ch := (s.channel c).closedHalf false) rfl).trans ?_
    have hnot : (halfRecord false (s.channel c)).status ≠ .cut := halfStatus_ne_cut _
    simp only [hnot, false_or]
    rfl
  simp only [List.any_eq_true]
  constructor
  · rintro ⟨c, hc, h⟩
    obtain ⟨hc16, ho⟩ := mem_openChannels.mp hc
    exact ⟨c, hc16, ho, (hgives hc).mp h⟩
  · rintro ⟨c, hc16, ho, h⟩
    have hc := mem_openChannels.mpr ⟨hc16, ho⟩
    exact ⟨c, hc, (hgives hc).mpr h⟩

/-- The state that a line with a closed channel has taken is the one that the latches of its enforcing channels give,
where no channel warns (R93, R104). -/
theorem closesDerived_line_state {cut : Bool} {s : State} {l : LineId} (hq : Quiet s)
    (hn : s.emission.channels.length = Config.channels) (hconf : (s.line l).configured = true)
    (hopen : ∃ c < 16, (s.channel c).run.opened = true ∧ (s.channel c).cfg.line = l)
    (hcalm : ∀ c < 16, (s.channel c).run.opened = false → (s.channel c).run.warn = false) :
    let t := closesDerived cut (openChannels s) s
    let restricts := ∃ c < 16, (t.channel c).cfg.configured = true ∧ (t.channel c).cfg.line = l ∧
      (t.channel c).cfg.enforcing = true ∧ (t.channel c).run.latch = true
    (restricts → (t.line l).state = .restrict) ∧ (¬restricts → (t.line l).state = .normal) := by
  intro t
  generalize hu : (openChannels s).foldl (fun t c => closeHalf cut c t) s = u
  have acted : ChannelsActed (openChannels s) (·.closedHalf cut) s u :=
    hu ▸ closeHalves_acted hq (openChannels_nodup s)
  have hchan (c : Nat) : t.channel c = u.channel c := by
    simp only [t, closesDerived, State.channel, hu,
      deriveClosed_channels (hq.of_beyondWake (hu ▸ closeHalves_beyondWake cut (openChannels s) s))]
  have hu_channel {c : Nat} (hc : c < 16) :
      u.channel c = if c ∈ openChannels s then (s.channel c).closedHalf cut else s.channel c :=
    acted.acted c (hn ▸ hc)
  have hwarn : ∀ c < 16, (u.channel c).run.warn = false := by
    intro c hc
    rw [hu_channel hc]
    split
    · rfl
    · next h =>
      exact hcalm c hc (Bool.eq_false_iff.mpr fun ho => h (mem_openChannels.mpr ⟨hc, ho⟩))
  have hany : (openChannels s).any (fun c => decide ((u.channel c).cfg.line = l)) = true := by
    obtain ⟨c, hc, ho, hline⟩ := hopen
    have hmem := mem_openChannels.mpr ⟨hc, ho⟩
    refine List.any_eq_true.mpr ⟨c, hmem, decide_eq_true ?_⟩
    rw [hu_channel hc, if_pos hmem]
    exact hline
  have hstate : (t.line l).state = emissionStateOf u l := by
    have hline : t.line l = derivedLine (openChannels s) u l := hu ▸ closesDerived_line hq l
    rw [hline, derivedLine, if_pos ⟨hany, by rw [acted.lines l]; exact hconf⟩]
  simp only [hchan, hstate]
  exact emissionStateOf_of_calm (acted.size.trans hn) hwarn

/-- The clock's boundary event, as a command of an awake part that the clock has reached. -/
theorem exec_periodBoundary {s : State} (hawake : s.held = false)
    (hdue : (s.clock.day, s.clock.ms / 1800000) ≠ s.clock.handed) :
    exec .periodBoundary s = .next (serve (periodBoundaryEvent s)) := by
  have hd : boundaryDue s = true := decide_eq_true hdue
  have hact : execPeriodBoundary s = .next (serve (periodBoundaryEvent s)) := by
    rw [execPeriodBoundary, if_pos hd, whileAwake_of_awake hawake]
  exact hact

/-- Settles O40. -/
theorem periodBoundaryClosesHalfHours : Obligations.PeriodBoundaryClosesHalfHours := by
  intro s hawake hn hflags hdue hown entered moved
  have hexec : exec .periodBoundary s = .next (serve (emissionBoundary (decide (entered.2 = 0)) moved)) :=
    exec_periodBoundary hawake hdue
  have hq : Quiet moved := fun l => (publishes_plan ..).trans (hown l)
  refine ⟨fun hidle => ?_, fun k hk hopen => ?_⟩
  · rw [hexec, emissionBoundary_of_idle (s := moved) (openChannels_eq_nil.mpr hidle)]
  have hne : openChannels moved ≠ [] := List.ne_nil_of_mem (mem_openChannels.mpr ⟨hk, hopen⟩)
  obtain ⟨hchannel, hline⟩ := emissionBoundary_passes (day := decide (entered.2 = 0)) hq hne
  have hopened {c : Nat} (hc : c < 16) (ho : (s.channel c).run.opened = true) :
      (emissionBoundary (decide (entered.2 = 0)) moved).channel c =
        passed false (decide (entered.2 = 0)) moved (s.channel c) :=
    (hchannel c (hn ▸ hc)).trans (if_pos (mem_openChannels.mpr ⟨hc, ho⟩))
  have hclosed {c : Nat} (hc : c < 16) (ho : (s.channel c).run.opened = false) :
      (emissionBoundary (decide (entered.2 = 0)) moved).channel c = s.channel c :=
    (hchannel c (hn ▸ hc)).trans (if_neg fun h => Bool.false_ne_true (ho.symm.trans (mem_openChannels.mp h).2))
  have hset {j : Nat} := emissionBoundary_isSet (day := decide (entered.2 = 0)) (s := moved) hflags hne (j := j)
  refine ⟨_, hexec, emissionBoundary_beyondWake _ _, ?_, fun c hc => hclosed hc, ?_, ?_, ?_, ?_⟩
  · intro c hc ho
    rw [hopened hc ho]
    refine ⟨passed_half .., (passed_days ..).trans ?_, passed_run ..⟩
    simp only [decide_eq_true_eq, moved]
  · intro l hconf hof hcalm
    have hstate := closesDerived_line_state (cut := false) hq hn hconf hof hcalm
    have hsame {c : Nat} (hc : c < 16) :
        ((closesDerived false (openChannels moved) moved).channel c).cfg = (s.channel c).cfg ∧
        ((closesDerived false (openChannels moved) moved).channel c).run.latch =
          ((emissionBoundary (decide (entered.2 = 0)) moved).channel c).run.latch := by
      rw [closesDerived_channel hq (openChannels_nodup moved) (hn ▸ hc), hchannel c (hn ▸ hc)]
      split
      · exact ⟨rfl, (passed_latch ..).symm⟩
      · exact ⟨rfl, rfl⟩
    have hiff : (∃ c < 16, (s.channel c).cfg.configured = true ∧ (s.channel c).cfg.line = l ∧
          (s.channel c).cfg.enforcing = true ∧
          ((emissionBoundary (decide (entered.2 = 0)) moved).channel c).run.latch = true) ↔
        ∃ c < 16, ((closesDerived false (openChannels moved) moved).channel c).cfg.configured = true ∧
          ((closesDerived false (openChannels moved) moved).channel c).cfg.line = l ∧
          ((closesDerived false (openChannels moved) moved).channel c).cfg.enforcing = true ∧
          ((closesDerived false (openChannels moved) moved).channel c).run.latch = true := by
      refine exists_congr fun c => and_congr_right fun hc => ?_
      obtain ⟨hcfg, hlatch⟩ := hsame hc
      rw [hcfg, hlatch]
    rw [hiff, hline l]
    exact hstate
  · rw [hset (by decide) (by decide)]
    simp only [Bool.or_eq_true, Bool.and_eq_true, givesCause_closed hq hn]
    simp
    rfl
  · rw [hset (by decide) (by decide)]
    simp
    rfl
  · rw [hset (by decide) (by decide)]
    simp
    rfl

end Sys2Proof.Machine
end

section
namespace Sys2Proof.Machine
open Sys2Proof

/-! ### What taking a frame leaves of the flags and the dispatch table -/

theorem offerFrame_periodFlags (p : Port) (f : Frame) (s : State) :
    periodFlags (offerFrame p f s).attention = periodFlags s.attention := by
  unfold offerFrame
  simp only
  split
  · exact enterTrigger_periodFlags _ _
  · split
    · exact enterRecord_periodFlags _ _
    · rfl

theorem offerFrame_flagsKept (p : Port) (f : Frame) (s : State) : FlagsKept s (offerFrame p f s) := by
  unfold offerFrame
  simp only
  split
  · exact enterTrigger_flagsKept _ (.refl s)
  · split
    · exact enterRecord_flagsKept _ (.refl s)
    · exact .refl s

theorem popFrame_attention (p : Port) (s : State) : (popFrame p s).attention = s.attention := by
  cases p <;> rfl

theorem taken_periodFlags (p : Port) (f : Frame) (s : State) :
    periodFlags (taken p f s).attention = periodFlags s.attention := by
  rw [taken, serve_periodFlags, offered, offerFrame_periodFlags, popFrame_attention]

theorem taken_flagsKept (p : Port) (f : Frame) (s : State) : FlagsKept s (taken p f s) :=
  serve_flagsKept ((FlagsKept.of_flags (congrArg Attention.flags (popFrame_attention p s))).trans
    (offerFrame_flagsKept p f _))

theorem taken_dispatchCfg (p : Port) (f : Frame) (s : State) : (taken p f s).dispatch.cfg = s.dispatch.cfg := by
  have h := congrArg (fun t => t.dispatch.cfg) (taken_standing p f s)
  generalize taken p f s = t at *
  cases p <;> exact h

/-! ### The end of a condition -/

/-- A condition that has ended no longer holds (R202). -/
theorem setCondition_ended (fl : Flag) (s : State) : ((setCondition fl false s).flag fl.index).cond = false := by
  have hmod : ((s.modFlag fl.index (fun r => { r with cond := false })).flag fl.index).cond = false := by
    rw [State.flag_modFlag]
    split
    · rfl
    · next h =>
      have hout : s.attention.flags.length ≤ fl.index := by simpa using h
      rw [State.flag, List.getD_eq_default _ _ hout]
  unfold setCondition
  simp only
  split
  · assumption
  · rw [if_neg Bool.false_ne_true]
    split
    · exact hmod
    · rw [State.flag_modFlag]
      split
      · exact hmod
      · exact hmod

theorem setCondition_ended_length (fl : Flag) (s : State) :
    (setCondition fl false s).attention.flags.length = s.attention.flags.length := by
  unfold setCondition
  simp only
  split
  · rfl
  · rw [if_neg Bool.false_ne_true]
    split <;> simp [State.modFlag]

/-! ### Half-hour rings

A wake may mark an open channel as operated and no more: the half-hour rings change by a close alone. -/

/-- The half-hour rings of the channels. -/
def halfRings (s : State) : List (List HalfRec) := s.emission.channels.map (·.half)

theorem half_of_halfRings {s t : State} (h : halfRings t = halfRings s) (c : Nat) :
    (t.channel c).half = (s.channel c).half := by
  have key (u : State) : (halfRings u).getD c [] = (u.channel c).half := by
    simp only [halfRings, State.channel, List.getD_eq_getElem?_getD, List.getElem?_map]
    cases u.emission.channels[c]? <;> rfl
  rw [← key, ← key, h]

theorem length_of_halfRings {s t : State} (h : halfRings t = halfRings s) :
    t.emission.channels.length = s.emission.channels.length := by
  simpa [halfRings] using congrArg List.length h

theorem halfRings_of_emission {s t : State} (h : t.emission = s.emission) : halfRings t = halfRings s := by
  rw [halfRings, h]; rfl

theorem deriveOperating_halfRings (l : LineId) (s : State) : halfRings (deriveOperating l s) = halfRings s := by
  have hline (f : LineRec → LineRec) : halfRings (s.modLine l f) = halfRings s := by cases l <;> rfl
  unfold deriveOperating
  simp only
  split
  · split
    · rw [← hline (fun r => { r with operating := operatingOf (s.point (s.line l).opPoint) })]
      simp only [halfRings, List.map_map]
      refine List.map_congr_left fun c _ => ?_
      simp only [Function.comp_apply]
      split <;> rfl
    · exact hline _
  · rfl

theorem wakeLines_halfRings (p : Nat) (s : State) : halfRings (wakeLines p s) = halfRings s := by
  refine foldl_keeps halfRings _ (fun t l => ?_) _ s
  split
  · exact deriveOperating_halfRings l t
  · rfl

theorem writeSelf_halfRings (p : Nat) (v : Value) (s : State) : halfRings (writeSelf p v s) = halfRings s := by
  rw [halfRings_of_emission (writeSelf_emission p v s), wakeLines_halfRings]
  exact halfRings_of_emission ((wakeGuard_emission _ _).trans (storeUpdate_emission _ _ _ _))

theorem cycleFrame_halfRings : CycleFrame (fun s t => halfRings t = halfRings s) where
  refl := fun _ => rfl
  trans := fun h1 h2 => h2.trans h1
  serve := fun s => halfRings_of_emission (serve_emission s)
  handed := fun r s => halfRings_of_emission (emission_of_beyondGuard (handAll_beyondGuard r s))
  unit := fun _ _ _ => rfl
  conditions := fun s => halfRings_of_emission (followDispatch_emission s)
  written := fun p v s _ => writeSelf_halfRings p v s

theorem publish_halfRings (p : Option Nat) (v : Value) (s : State) : halfRings (publish p v s) = halfRings s := by
  unfold publish
  split
  · rfl
  · exact writeSelf_halfRings _ _ _

theorem settle_halfRings (s : State) : halfRings (settle s) = halfRings s := cycleFrame_halfRings.settle s

theorem deriveEmission_halfRings (always : Bool) (l : LineId) (s : State) :
    halfRings (deriveEmission always l s) = halfRings s := by
  have htaken : halfRings (stateTaken l s) = halfRings s := by
    rw [halfRings_of_emission (stateTaken_emission l s)]
    cases l <;> rfl
  rw [deriveEmission_eq]
  split
  · split
    · rw [settle_halfRings, publish_halfRings, htaken]
    · exact htaken
  · rfl

theorem deriveClosed_halfRings (l : List Nat) (s : State) : halfRings (deriveClosed l s) = halfRings s := by
  refine foldl_keeps halfRings _ (fun t m => ?_) _ s
  split
  · exact deriveEmission_halfRings true m t
  · rfl

theorem closeHalf_halfRings (cut : Bool) (c : Nat) (s : State) :
    halfRings (closeHalf cut c s) = halfRings (s.modChannel c (·.closedHalf cut)) := by
  rw [closeHalf_eq]
  split
  · rfl
  · rw [settle_halfRings, publish_halfRings]

theorem closeDay_halfRings (cut : Bool) (c : Nat) (s : State) : halfRings (closeDay cut c s) = halfRings s :=
  map_modify_keeps (fun ch : Channel => ch.half) _ (fun _ => by rfl) s.emission.channels c

theorem openPeriod_halfRings (c : Nat) (s : State) : halfRings (openPeriod c s) = halfRings s :=
  map_modify_keeps (fun ch : Channel => ch.half) _ (fun _ => by rfl) s.emission.channels c

/-- The newest record of a channel's half-hour ring is a CUT one. -/
def CutLast (s : State) (c : Nat) : Prop := ∃ r l, (s.channel c).half = r :: l ∧ r.status = .cut

theorem CutLast.of_halfRings {s t : State} {c : Nat} (h : CutLast s c) (e : halfRings t = halfRings s) : CutLast t c := by
  obtain ⟨r, l, hr, hcut⟩ := h
  exact ⟨r, l, (half_of_halfRings e c).trans hr, hcut⟩

theorem CutLast.givesCause {s : State} {c : Nat} (h : CutLast s c) : givesCause (s.channel c) = true := by
  obtain ⟨r, l, hr, hcut⟩ := h
  exact (givesCause_of_half hr).mpr (.inr (.inr (.inl hcut)))

/-- A CUT close leaves its channel with a CUT record last, and every channel that has one. -/
theorem closeHalf_cutLast {c k : Nat} {s : State} (hc : c < s.emission.channels.length) (h : k = c ∨ CutLast s c) :
    CutLast (closeHalf true k s) c := by
  refine CutLast.of_halfRings (s := s.modChannel k (·.closedHalf true)) ?_ (closeHalf_halfRings true k s)
  rw [CutLast, State.channel_modChannel]
  by_cases hk : k = c
  · subst hk
    rw [if_pos ⟨rfl, hc⟩]
    exact ⟨halfRecord true (s.channel k), _, rfl, rfl⟩
  · rw [if_neg fun e => hk e.1]
    exact h.resolve_left hk

theorem closeHalves_cutLast {l : List Nat} {c : Nat} {s : State} (hc : c < s.emission.channels.length)
    (h : c ∈ l ∨ CutLast s c) : CutLast (l.foldl (fun t k => closeHalf true k t) s) c := by
  induction l generalizing s with
  | nil => exact h.resolve_left List.not_mem_nil
  | cons k l ih =>
    have hlen : (closeHalf true k s).emission.channels.length = s.emission.channels.length := by
      rw [length_of_halfRings (closeHalf_halfRings true k s)]
      exact List.length_modify ..
    refine ih (hlen ▸ hc) ?_
    rcases h with hmem | hcut
    · rcases List.mem_cons.mp hmem with rfl | hmem
      · exact .inr (closeHalf_cutLast hc (.inl rfl))
      · exact .inl hmem
    · exact .inr (closeHalf_cutLast hc (.inr hcut))

/-! ### A time-set event -/

/-- An open channel stands in another day than the clock. -/
def newDay (s : State) : Bool := (openChannels s).any (fun c => decide ((s.channel c).run.accDay ≠ s.clock.handed.1))

/-- The channels that a time-set event has cut, in the period that the clock has moved to (R112). -/
def periodsMoved (s : State) : State :=
  (openChannels s).foldl (fun t c => openPeriod c t)
    (if newDay s then (openChannels s).foldl (fun t c => closeDay true c t) (closesDerived true (openChannels s) s)
    else closesDerived true (openChannels s) s)

/-- The notices of a cut: PERIOD-CUT, PERIOD-CLOSED, and DAY-CLOSED for a new day (R109, R112). -/
def cutNoticed (l : List Nat) (day : Bool) (s : State) : State :=
  if day then raiseFlag .dayClosed (raisePeriodClosed l (raiseFlag .periodCut s))
  else raisePeriodClosed l (raiseFlag .periodCut s)

theorem emissionTimeSet_of_setup {s : State} (h : s.part.state = .setup) : emissionTimeSet s = s := by
  unfold emissionTimeSet
  rw [h]

theorem emissionTimeSet_of_idle {s : State} (h : s.part.state = .run) (hidle : openChannels s = []) :
    emissionTimeSet s = (configuredChannels s).foldl (fun t c => openPeriod c t) s := by
  unfold emissionTimeSet
  rw [h]
  exact if_pos hidle

theorem emissionTimeSet_of_current {s : State} (h : s.part.state = .run) (hopen : openChannels s ≠ [])
    (hcur : ∀ c ∈ openChannels s, ((s.channel c).run.day, (s.channel c).run.index) = s.clock.handed) :
    emissionTimeSet s = s := by
  unfold emissionTimeSet
  rw [h]
  refine (if_neg hopen).trans (if_pos (List.all_eq_true.mpr fun c hc => decide_eq_true (hcur c hc)))

theorem emissionTimeSet_of_cut {s : State} (h : s.part.state = .run) {c : Nat} (hc : c ∈ openChannels s)
    (hcut : ((s.channel c).run.day, (s.channel c).run.index) ≠ s.clock.handed) :
    emissionTimeSet s = cutNoticed (openChannels s) (newDay s) (periodsMoved s) := by
  unfold emissionTimeSet
  rw [h]
  exact (if_neg (List.ne_nil_of_mem hc)).trans
    (if_neg fun hall => hcut (of_decide_eq_true (List.all_eq_true.mp hall c hc)))

theorem newDay_iff {s : State} :
    newDay s = true ↔ ∃ c < 16, (s.channel c).run.opened = true ∧ (s.channel c).run.accDay ≠ s.clock.handed.1 := by
  simp only [newDay, List.any_eq_true, mem_openChannels, decide_eq_true_eq, and_assoc]

theorem cutNoticed_emission (l : List Nat) (day : Bool) (s : State) : (cutNoticed l day s).emission = s.emission := by
  have hcut : (raisePeriodClosed l (raiseFlag .periodCut s)).emission = s.emission :=
    (raisePeriodClosed_emission _ _).trans (emission_of_beyondAttention (raiseFlag_beyondAttention _ _))
  unfold cutNoticed
  split
  · exact (emission_of_beyondAttention (raiseFlag_beyondAttention _ _)).trans hcut
  · exact hcut

theorem cutNoticed_isSet {l : List Nat} {day : Bool} {s : State} (hl : s.attention.flags.length = flagCount) {c : Nat}
    (hc : c ∈ l) (hcut : CutLast s c) (j : Nat) :
    ((cutNoticed l day s).flag j).isSet =
      ((s.flag j).isSet || decide (23 = j) || decide (22 = j) || (day && decide (24 = j))) := by
  have hkept := raiseFlag_flagsKept .periodCut (.refl s)
  have hcause : l.any (fun c => givesCause ((raiseFlag .periodCut s).channel c)) = true := by
    refine List.any_eq_true.mpr ⟨c, hc, ?_⟩
    rw [channel_of_emission (emission_of_beyondAttention (raiseFlag_beyondAttention _ _))]
    exact hcut.givesCause
  have hclosed : ((raisePeriodClosed l (raiseFlag .periodCut s)).flag j).isSet =
      ((s.flag j).isSet || decide (23 = j) || decide (22 = j)) := by
    rw [raisePeriodClosed_isSet (hkept.length.trans hl), hcause, raiseFlag_isSet _ hl]
    rfl
  unfold cutNoticed
  cases day
  · simpa using hclosed
  · rw [if_pos rfl, raiseFlag_isSet _ ((hkept.trans (raisePeriodClosed_flagsKept l _)).length.trans hl), hclosed]
    rfl

theorem periodsMoved_flags (s : State) :
    (periodsMoved s).attention.flags = (closesDerived true (openChannels s) s).attention.flags := by
  rw [periodsMoved, openPeriods_attention]
  split
  · rw [closeDays_attention]
  · rfl

theorem periodsMoved_cutLast {s : State} {c : Nat} (hn : s.emission.channels.length = Config.channels)
    (hc : c ∈ openChannels s) : CutLast (periodsMoved s) c := by
  have hclosed : CutLast (closesDerived true (openChannels s) s) c :=
    (closeHalves_cutLast (openChannels_lt hn hc) (.inl hc)).of_halfRings (deriveClosed_halfRings _ _)
  refine hclosed.of_halfRings ((foldl_keeps halfRings _ (fun t c => openPeriod_halfRings c t) _ _).trans ?_)
  split
  · exact foldl_keeps halfRings _ (fun t c => closeDay_halfRings true c t) _ _
  · rfl

/-- The channels of a quiet plant after a time-set event that cuts (R112). -/
theorem periodsMoved_channel {s : State} (hq : Quiet s) {c : Nat} (hc : c < s.emission.channels.length)
    (hmem : c ∈ openChannels s) : (periodsMoved s).channel c = passed true (newDay s) s (s.channel c) := by
  have hw := closesDerived_beyondWake true (openChannels s) s
  refine ((period_passes (cut := true) (day := newDay s) hq (openChannels_nodup s) rfl (part_of_beyondWake hw) rfl ?_).1
    c hc).trans (if_pos hmem)
  split
  · exact clock_of_beyondWake
      ((foldl_keeps beyondWake _ (fun t c => closeDay_beyondWake true c t) _ _).trans hw)
  · exact clock_of_beyondWake hw

theorem emissionTimeSet_flagsKept (s : State) : FlagsKept s (emissionTimeSet s) := by
  have hmoved : FlagsKept s (periodsMoved s) :=
    (closesDerived_flagsKept true (openChannels s) s).trans (.of_flags (periodsMoved_flags s))
  cases h : s.part.state
  · rw [emissionTimeSet_of_setup h]
    exact .refl s
  · by_cases hidle : openChannels s = []
    · rw [emissionTimeSet_of_idle h hidle]
      exact .of_flags (congrArg Attention.flags (openPeriods_attention _ _))
    by_cases hcur : ∀ c ∈ openChannels s, ((s.channel c).run.day, (s.channel c).run.index) = s.clock.handed
    · rw [emissionTimeSet_of_current h hidle hcur]
      exact .refl s
    · push Not at hcur
      obtain ⟨c, hc, hcut⟩ := hcur
      rw [emissionTimeSet_of_cut h hc hcut, cutNoticed]
      have hnoticed := (hmoved.trans (raiseFlag_flagsKept .periodCut (.refl _))).trans
        (raisePeriodClosed_flagsKept (openChannels s) _)
      split
      · exact raiseFlag_flagsKept _ hnoticed
      · exact hnoticed

end Sys2Proof.Machine
end

section
namespace Sys2Proof.Machine
open Sys2Proof

/-! ### TIME -/

/-- The shorter way round the circle is beyond the lock's limit where both ways are (R17, R192). -/
theorem lockLimit_lt_clockDistance (d1 m1 d2 m2 : Nat) :
    lockLimit < clockDistance d1 m1 d2 m2 ↔
      60000 < (d2 * 86400000 + m2 + circle - (d1 * 86400000 + m1)) % circle ∧
        (d2 * 86400000 + m2 + circle - (d1 * 86400000 + m1)) % circle < circle - 60000 := by
  have hcircle : circle = 5662310400000 := rfl
  have hdist : clockDistance d1 m1 d2 m2 =
      min ((d2 * 86400000 + m2 + circle - (d1 * 86400000 + m1)) % circle)
        (circle - (d2 * 86400000 + m2 + circle - (d1 * 86400000 + m1)) % circle) := rfl
  have hlimit : lockLimit = 60000 := rfl
  have hlt : (d2 * 86400000 + m2 + circle - (d1 * 86400000 + m1)) % circle < circle :=
    Nat.mod_lt _ (by rw [hcircle]; decide)
  rw [hdist, hlimit]
  generalize (d2 * 86400000 + m2 + circle - (d1 * 86400000 + m1)) % circle = fwd at *
  rw [hcircle] at *
  omega

theorem now_of_beyondWake {s t : State} (h : beyondWake t = beyondWake s) : t.now = s.now :=
  (congrArg State.now h :)

/-- TIME refuses under the lock what the clock, once set, is too far from (R192). -/
theorem takeTime_eq (f : Frame) (s : State) :
    takeTime f s =
      if f.count < 2 ∨ 86400000 ≤ natAt f.body 8 4 then replySetup f .badValue s
      else if s.part.lock = true ∧ s.clock.unset = false ∧
          lockLimit < clockDistance s.clock.day s.clock.ms (natAt f.body 6 2) (natAt f.body 8 4) then
        replySetup f .refusedLocked s
      else replyDone f (setClock (natAt f.body 6 2) (natAt f.body 8 4) s) := by
  unfold takeTime
  simp only [Bool.and_eq_true, Bool.not_eq_true', decide_eq_true_eq, and_assoc]

/-- The state in which a time-set event of TIME acts: the clock has its reading, and TIME-UNSET has ended. -/
def clockSet (day ms : Nat) (s : State) : State :=
  setCondition .timeUnset false
    { s with clock := { day := day, ms := ms, unset := false, handed := (day, ms / 1800000) } }

theorem setClock_eq (day ms : Nat) (s : State) : setClock day ms s = emissionTimeSet (clockSet day ms s) := rfl

section
variable (day ms : Nat) (s : State)

theorem clockSet_beyondAttention : beyondAttention (clockSet day ms s) =
    beyondAttention { s with clock := { day := day, ms := ms, unset := false, handed := (day, ms / 1800000) } } :=
  setCondition_beyondAttention _ _ _

theorem clockSet_emission : (clockSet day ms s).emission = s.emission :=
  (congrArg State.emission (clockSet_beyondAttention day ms s) :)

theorem clockSet_part : (clockSet day ms s).part = s.part :=
  (congrArg State.part (clockSet_beyondAttention day ms s) :)

theorem clockSet_handed : (clockSet day ms s).clock.handed = (day, ms / 1800000) :=
  (congrArg (fun t => t.clock.handed) (clockSet_beyondAttention day ms s) :)

theorem clockSet_dispatch : (clockSet day ms s).dispatch = s.dispatch :=
  (congrArg State.dispatch (clockSet_beyondAttention day ms s) :)

theorem clockSet_isSet {j : Nat} (h1 : 22 ≤ j) (h2 : j ≤ 24) :
    ((clockSet day ms s).flag j).isSet = (s.flag j).isSet :=
  isSet_of_periodFlags (setCondition_periodFlags .timeUnset false _ (.inl (by decide))) h1 h2

theorem clockSet_flags_length : (clockSet day ms s).attention.flags.length = s.attention.flags.length :=
  setCondition_ended_length _ _

theorem clockSet_openedRun : openedRun (clockSet day ms s) =
    openedRun { s with clock := { day := day, ms := ms, unset := false, handed := (day, ms / 1800000) } } :=
  funext (openedRun_congr (clockSet_handed day ms s) fun m => by
    rw [line_of_emission (clockSet_emission day ms s)]
    cases m <;> rfl)

end

theorem serve_isSet (s : State) {j : Nat} (h1 : 22 ≤ j) (h2 : j ≤ 24) : ((serve s).flag j).isSet = (s.flag j).isSet :=
  isSet_of_periodFlags (serve_periodFlags s) h1 h2

/-- The end of TIME-UNSET outlasts the time-set event and the service after it. -/
theorem setClock_unset (day ms : Nat) (s : State) : ((serve (setClock day ms s)).flag 12).cond = false := by
  rw [setClock_eq, (serve_flagsKept (emissionTimeSet_flagsKept _)).unset]
  exact setCondition_ended .timeUnset _

theorem setClock_beyondWake (day ms : Nat) (s : State) : beyondWake (serve (setClock day ms s)) =
    beyondWake { s with clock := { day := day, ms := ms, unset := false, handed := (day, ms / 1800000) } } := by
  rw [serve_beyondWake, setClock_eq, emissionTimeSet_beyondWake]
  exact setCondition_beyondWake _ _ _

section
variable {day ms : Nat} {s : State}

theorem mem_openChannels_clockSet {c : Nat} :
    c ∈ openChannels (clockSet day ms s) ↔ c < 16 ∧ (s.channel c).run.opened = true := by
  rw [mem_openChannels, channel_of_emission (clockSet_emission day ms s)]

theorem newDay_clockSet : newDay (clockSet day ms s) = true ↔
    ∃ k < 16, (s.channel k).run.opened = true ∧ (s.channel k).run.accDay ≠ day := by
  simp only [newDay_iff, channel_of_emission (clockSet_emission day ms s), clockSet_handed]

/-- The part in SETUP, or with its open channels in the clock's period, does nothing more (R112). -/
theorem setClock_of_current
    (h : s.part.state = .setup ∨ ∃ k < 16, (s.channel k).run.opened = true ∧ ∀ c < 16, (s.channel c).run.opened = true →
      ((s.channel c).run.day, (s.channel c).run.index) = (day, ms / 1800000)) :
    setClock day ms s = clockSet day ms s := by
  rw [setClock_eq]
  cases hp : s.part.state
  · exact emissionTimeSet_of_setup (by rw [clockSet_part, hp])
  · obtain ⟨k, hk, ho, hcur⟩ := h.resolve_left (by rw [hp]; decide)
    refine emissionTimeSet_of_current (by rw [clockSet_part, hp])
      (List.ne_nil_of_mem (mem_openChannels_clockSet.mpr ⟨hk, ho⟩)) fun c hc => ?_
    obtain ⟨hc16, hco⟩ := mem_openChannels_clockSet.mp hc
    rw [channel_of_emission (clockSet_emission day ms s), clockSet_handed]
    exact hcur c hc16 hco

/-- With no open channel, every configured one opens the clock's period (R112). -/
theorem setClock_of_idle (hrun : s.part.state = .run) (hidle : ∀ c < 16, (s.channel c).run.opened = false) :
    setClock day ms s =
      (configuredChannels (clockSet day ms s)).foldl (fun t c => openPeriod c t) (clockSet day ms s) := by
  rw [setClock_eq]
  refine emissionTimeSet_of_idle (by rw [clockSet_part, hrun]) (openChannels_eq_nil.mpr fun c hc => ?_)
  rw [channel_of_emission (clockSet_emission day ms s)]
  exact hidle c hc

/-- An open channel in another period makes a cut (R112). -/
theorem setClock_of_cut (hrun : s.part.state = .run)
    (hcut : ∃ c < 16, (s.channel c).run.opened = true ∧
      ((s.channel c).run.day, (s.channel c).run.index) ≠ (day, ms / 1800000)) :
    setClock day ms s = cutNoticed (openChannels (clockSet day ms s)) (newDay (clockSet day ms s))
      (periodsMoved (clockSet day ms s)) := by
  obtain ⟨c, hc, ho, hne⟩ := hcut
  rw [setClock_eq]
  refine emissionTimeSet_of_cut (by rw [clockSet_part, hrun]) (mem_openChannels_clockSet.mpr ⟨hc, ho⟩) ?_
  rw [channel_of_emission (clockSet_emission day ms s), clockSet_handed]
  exact hne

/-- The notices of a cut, once the commands it makes have been served (R109, R112). -/
theorem setClock_isSet_of_cut (hrun : s.part.state = .run) (hn : s.emission.channels.length = Config.channels)
    (hl : s.attention.flags.length = flagCount)
    (hcut : ∃ c < 16, (s.channel c).run.opened = true ∧
      ((s.channel c).run.day, (s.channel c).run.index) ≠ (day, ms / 1800000)) {j : Nat} (h1 : 22 ≤ j) (h2 : j ≤ 24) :
    ((serve (setClock day ms s)).flag j).isSet =
      ((s.flag j).isSet || decide (23 = j) || decide (22 = j) || (newDay (clockSet day ms s) && decide (24 = j))) := by
  obtain ⟨c, hc, ho, hne⟩ := hcut
  have hmem : c ∈ openChannels (clockSet day ms s) := mem_openChannels_clockSet.mpr ⟨hc, ho⟩
  have hmoved : (periodsMoved (clockSet day ms s)).attention.flags.length = flagCount := by
    rw [periodsMoved_flags, (closesDerived_flagsKept true _ _).length, clockSet_flags_length, hl]
  rw [serve_isSet _ h1 h2, setClock_of_cut hrun ⟨c, hc, ho, hne⟩,
    cutNoticed_isSet hmoved hmem (periodsMoved_cutLast (by rw [clockSet_emission, hn]) hmem),
    flag_of_flags (periodsMoved_flags _), isSet_of_periodFlags (closesDerived_periodFlags true _ _) h1 h2,
    clockSet_isSet _ _ _ h1 h2]

/-- What a cut leaves of each open channel of a quiet plant (R112). -/
theorem setClock_channel_of_cut (hrun : s.part.state = .run) (hn : s.emission.channels.length = Config.channels)
    (hq : Quiet s)
    (hcut : ∃ c < 16, (s.channel c).run.opened = true ∧
      ((s.channel c).run.day, (s.channel c).run.index) ≠ (day, ms / 1800000)) {c : Nat} (hc : c < 16)
    (ho : (s.channel c).run.opened = true) :
    (serve (setClock day ms s)).channel c =
      passed true (newDay (clockSet day ms s)) (clockSet day ms s) (s.channel c) := by
  have hqset : Quiet (clockSet day ms s) := fun l => by
    rw [clockSet_emission, clockSet_dispatch, line_of_emission (clockSet_emission day ms s)]
    exact hq l
  rw [channel_of_emission (serve_emission _), setClock_of_cut hrun hcut, channel_of_emission (cutNoticed_emission _ _ _),
    periodsMoved_channel hqset (by rw [clockSet_emission, hn]; exact hc) (mem_openChannels_clockSet.mpr ⟨hc, ho⟩),
    channel_of_emission (clockSet_emission day ms s)]

end

/-- Settles O49. -/
theorem timeSetsTheClock : Obligations.TimeSetsTheClock := by
  intro f s htakes t day ms ahead far refusedLock period set
  have hexec := exec_of_takes (act := takeTime f) rfl htakes
  have hpart : t.part = s.part := taken_part .sPort f s
  have hclock : t.clock = s.clock := taken_clock .sPort f s
  have hemission : t.emission = s.emission := taken_emission .sPort f s
  have hchannel (c : Nat) : t.channel c = s.channel c := taken_channel .sPort f s c
  have hlocked : (t.part.lock = true ∧ t.clock.unset = false ∧
      lockLimit < clockDistance t.clock.day t.clock.ms day ms) ↔ refusedLock := by
    rw [hpart, hclock, lockLimit_lt_clockDistance]
  have hset {j : Nat} (h1 : 22 ≤ j) (h2 : j ≤ 24) : (t.flag j).isSet = (s.flag j).isSet :=
    isSet_of_periodFlags (taken_periodFlags .sPort f s) h1 h2
  refine ⟨fun hbad => ?_, fun hcount hms hlock => ?_, fun hcount hms hlock => ?_⟩
  · rw [hexec, takeTime_eq, if_pos hbad]
  · rw [hexec, takeTime_eq, if_neg (by omega), if_pos (hlocked.mpr hlock)]
  have hbeyond : beyondWake (serve (setClock day ms t)) = beyondWake set := setClock_beyondWake day ms t
  refine ⟨serve (setClock day ms t), ?_, clock_of_beyondWake hbeyond, ?_, hbeyond, fun _ => setClock_unset day ms t,
    fun hcur => ?_, fun hrun hn hidle c hc hconf => ?_, fun hrun hidle j h1 h2 => ?_, fun hrun hn hl hcut => ?_,
    fun hrun hn hown hcut c hc ho => ?_⟩
  · rw [hexec, takeTime_eq, if_neg (by omega), if_neg (mt hlocked.mp hlock), replyDone]
  · exact (now_of_beyondWake hbeyond).trans (taken_now .sPort f s)
  · rw [setClock_of_current (by simpa only [hpart, hchannel] using hcur)]
    rfl
  · have hidle' : ∀ c < 16, (t.channel c).run.opened = false := by simpa only [hchannel] using hidle
    have hmem : c ∈ configuredChannels (clockSet day ms t) := by
      rw [mem_configuredChannels, channel_of_emission (clockSet_emission day ms t), hchannel]
      exact ⟨hc, hconf⟩
    have hlt : c < (clockSet day ms t).emission.channels.length := by
      rw [clockSet_emission, hemission, hn]
      exact hc
    have hu : (serve (setClock day ms t)).channel c = { s.channel c with run := openedRun set (s.channel c) } := by
      rw [channel_of_emission (serve_emission _), setClock_of_idle (hpart ▸ hrun) hidle',
        (openPeriods_acted _ (configuredChannels_nodup _)).acted c hlt, if_pos hmem,
        channel_of_emission (clockSet_emission day ms t), hchannel, clockSet_openedRun]
    rw [hu]
    exact ⟨rfl, rfl⟩
  · have hidle' : ∀ c < 16, (t.channel c).run.opened = false := by simpa only [hchannel] using hidle
    rw [serve_isSet _ h1 h2, setClock_of_idle (hpart ▸ hrun) hidle',
      flag_of_flags (congrArg Attention.flags (openPeriods_attention _ _)), clockSet_isSet _ _ _ h1 h2, hset h1 h2]
  · have hflag {j : Nat} (h1 : 22 ≤ j) (h2 : j ≤ 24) :=
      setClock_isSet_of_cut (day := day) (ms := ms) (s := t) (hpart ▸ hrun) (hemission ▸ hn)
        ((taken_flagsKept .sPort f s).length.trans hl) (by simpa only [hchannel] using hcut) h1 h2
    refine ⟨?_, ?_, ?_⟩
    · rw [hflag (by decide) (by decide)]; simp
    · rw [hflag (by decide) (by decide)]; simp
    · rw [hflag (by decide) (by decide), hset (by decide) (by decide)]
      simp only [Bool.or_eq_true, Bool.and_eq_true, newDay_clockSet, hchannel]
      simp
  · have hq : Quiet t := fun l => by
      rw [publishes_plan, hemission, taken_dispatchCfg, line_of_emission hemission]
      exact hown l
    have hu : (serve (setClock day ms t)).channel c = passed true (newDay (clockSet day ms t)) (clockSet day ms t) (s.channel c) :=
      (setClock_channel_of_cut (hpart ▸ hrun) (hemission ▸ hn) hq (by simpa only [hchannel] using hcut) hc
        (by rw [hchannel]; exact ho)).trans (by rw [hchannel])
    have hsig : (clockSet day ms t).part.signature = s.part.signature := by rw [clockSet_part, hpart]
    rw [hu]
    refine ⟨passed_half .., ?_, fun hnew => ?_, fun hsame => ?_⟩
    · rw [passed_run, clockSet_openedRun]
    · rw [passed_days, if_pos (newDay_clockSet.mpr (by simpa only [hchannel] using hnew)), hsig]
    · rw [passed_days, if_neg]
      rw [newDay_clockSet]
      simp only [hchannel]
      rintro ⟨k, hk, hko, hne⟩
      exact hne (hsame k hk hko)

end Sys2Proof.Machine
end

section
namespace Sys2Proof.Machine
open Sys2Proof

/-! ### What the transmitter-free events reach -/

namespace Closes

variable {s t u : State}

theorem refl (s : State) : Closes s s where
  kept := rfl
  orders := List.suffix_refl _
  trips := List.suffix_refl _
  steps := List.suffix_refl _
  slots := List.suffix_refl _
  upstream := List.suffix_refl _
  upPass := List.suffix_refl _
  replies := List.suffix_refl _
  notices := List.suffix_refl _
  sInUse _ := ⟨rfl, rfl, rfl⟩
  fInUse _ := ⟨rfl, rfl, rfl, rfl, rfl, rfl⟩

theorem trans (h : Closes s t) (h' : Closes t u) : Closes s u where
  kept := h'.kept.trans h.kept
  orders := h'.orders.trans h.orders
  trips := h'.trips.trans h.trips
  steps := h'.steps.trans h.steps
  slots := h'.slots.trans h.slots
  upstream := h'.upstream.trans h.upstream
  upPass := h'.upPass.trans h.upPass
  replies := h'.replies.trans h.replies
  notices := h'.notices.trans h.notices
  sInUse hs := by
    obtain ⟨port, attention, fwd⟩ := h.sInUse hs
    obtain ⟨port', attention', fwd'⟩ := h'.sInUse (port ▸ hs)
    exact ⟨port'.trans port, attention'.trans attention, by rw [fwd', fwd]⟩
  fInUse hf := by
    obtain ⟨port, arbiter, query, guard, dispatch, orders⟩ := h.fInUse hf
    obtain ⟨port', arbiter', query', guard', dispatch', orders'⟩ := h'.fInUse (port ▸ hf)
    exact ⟨port'.trans port, arbiter'.trans arbiter, query'.trans query, guard'.trans guard,
      dispatch'.trans dispatch, orders'.trans orders⟩

/-- An event of the S-port alone closes: its transmitter was idle, and what feeds the F-port stands. -/
theorem of_sPort (idle : s.sPort.tx = none) (kept : standing t = standing s)
    (upstream : t.fwd.up <:+ s.fwd.up) (upPass : t.fwd.upPass <:+ s.fwd.upPass)
    (replies : t.fwd.outbox <:+ s.fwd.outbox) (notices : t.attention.outbox <:+ s.attention.outbox)
    (field : t.fPort = s.fPort ∧ t.arbiter = s.arbiter ∧ t.query = s.query ∧ t.guard = s.guard ∧
      t.dispatch = s.dispatch ∧ t.fwd.orders = s.fwd.orders) : Closes s t := by
  have ⟨_, _, _, guard, dispatch, orders⟩ := field
  exact {
    kept, upstream, upPass, replies, notices
    orders := orders ▸ List.suffix_refl _
    trips := guard ▸ List.suffix_refl _
    steps := guard ▸ List.suffix_refl _
    slots := dispatch ▸ List.suffix_refl _
    sInUse := fun hs => by simp [idle] at hs
    fInUse := fun _ => field }

/-- An event of the F-port alone closes: its transmitter was idle, and what feeds the S-port stands. -/
theorem of_fPort (idle : s.fPort.tx = none) (kept : standing t = standing s)
    (orders : t.fwd.orders <:+ s.fwd.orders) (trips : t.guard.trips <:+ s.guard.trips)
    (steps : t.guard.steps <:+ s.guard.steps) (slots : t.dispatch.slots <:+ s.dispatch.slots)
    (supervisory : t.sPort = s.sPort ∧ t.attention = s.attention ∧ t.fwd = { s.fwd with orders := t.fwd.orders }) :
    Closes s t := by
  have ⟨_, attention, fwd⟩ := supervisory
  exact {
    kept, orders, trips, steps, slots
    upstream := by rw [fwd]
    upPass := by rw [fwd]
    replies := by rw [fwd]
    notices := attention ▸ List.suffix_refl _
    sInUse := fun _ => supervisory
    fInUse := fun hf => by simp [idle] at hf }

end Closes

theorem tx_of_mayBegin {r : PortRec} (h : r.mayBegin = true) : r.tx = none := by
  simp only [PortRec.mayBegin, Bool.and_eq_true, Option.isNone_iff_eq_none] at h
  exact h.2

theorem sendFlow_closes (p : Port) (s : State) : Closes s (sendFlow p s) := by
  have kept := sendFlow_standing p s
  unfold sendFlow at kept ⊢
  simp only at kept ⊢
  split
  · next hidle =>
    have idle : (s.port p).tx = none := by simpa using hidle.1
    rw [if_pos hidle] at kept
    split
    · exact .refl s
    all_goals
      next h =>
      simp only [h] at kept
      have refl {α : Type} (l : List α) : l <:+ l := List.suffix_refl l
      cases p
      · exact .of_sPort idle kept (refl _) (refl _) (refl _) (refl _) ⟨rfl, rfl, rfl, rfl, rfl, rfl⟩
      · exact .of_fPort idle kept (refl _) (refl _) (refl _) (refl _) ⟨rfl, rfl, rfl⟩
  · exact .refl s

/-! ### The S-port -/

/-- A flag's record once its condition has ended: one that was set clears unless it latches or was forced (R202). -/
def FlagRec.ended (r : FlagRec) : FlagRec :=
  if r.cond = false then r else { r with cond := false, isSet := r.isSet && (r.latch || r.forced) }

theorem modFlag_congr {s : State} {i : Nat} {f g : FlagRec → FlagRec} (h : f (s.flag i) = g (s.flag i)) :
    s.modFlag i f = s.modFlag i g := by
  simp only [State.modFlag, modify_congr (d := (⟨false, false, false, false, false⟩ : FlagRec)) h]

theorem modFlag_modFlag (s : State) (i : Nat) (f g : FlagRec → FlagRec) :
    (s.modFlag i f).modFlag i g = s.modFlag i (g ∘ f) := by
  simp only [State.modFlag, List.modify_modify_eq]

/-- The end of a condition reads and writes its flag's record alone: it places no notice (R202). -/
theorem setCondition_ends (fl : Flag) (s : State) :
    setCondition fl false s = s.modFlag fl.index FlagRec.ended := by
  have hmod : ((s.modFlag fl.index (fun r => { r with cond := false })).flag fl.index) =
      { s.flag fl.index with cond := false } := by
    rw [State.flag_modFlag]
    split
    · rfl
    · next h =>
      have hout : s.attention.flags.length ≤ fl.index := by simpa using h
      rw [State.flag, List.getD_eq_default _ _ hout]
  unfold setCondition
  simp only [hmod, Bool.false_eq_true, if_false]
  split
  · next h =>
    have hfixed : (s.flag fl.index).ended = s.flag fl.index := if_pos h
    simp only [State.modFlag, modify_of_fixed hfixed]
  · next h =>
    split
    · next hstays => exact modFlag_congr (by simp [FlagRec.ended, h, hstays])
    · next hclears =>
      rw [modFlag_modFlag]
      exact modFlag_congr (by simp [FlagRec.ended, h, hclears])

theorem setThinning_ends (s : State) :
    setThinning false s =
      { s with
        fwd := { s.fwd with thinning := false }
        attention := { s.attention with flags := s.attention.flags.modify Flag.thinning.index FlagRec.ended } } :=
  setCondition_ends .thinning { s with fwd := { s.fwd with thinning := false } }

/-- The upstream queue after a REPORT's removal: its head entries have gone, and at or below the low watermark THINNING
ends with its condition (R32, R34). -/
theorem removeUpstream_eq (s : State) :
    removeUpstream s =
      { s with
        fwd := { s.fwd with
          up := s.fwd.up.drop 16, upFrameNo := (s.fwd.upFrameNo + 1) % 256
          thinning := if s.fwd.up.length - 16 ≤ s.fwd.lowMark then false else s.fwd.thinning }
        attention := { s.attention with
          flags := if s.fwd.up.length - 16 ≤ s.fwd.lowMark then s.attention.flags.modify Flag.thinning.index FlagRec.ended
            else s.attention.flags } } := by
  unfold removeUpstream judgeRemoval
  simp only [List.length_drop, setThinning_ends]
  by_cases h : s.fwd.up.length - 16 ≤ s.fwd.lowMark
  · rw [if_pos h]; simp only [if_pos h]
  · rw [if_neg h]; simp only [if_neg h]

theorem beginSource_closes {s : State} (idle : s.sPort.tx = none) {src : SSource} (h : sSource s = some src)
    (kept : standing (beginSource s src) = standing s) : Closes s (beginSource s src) := by
  have refl {α : Type} (l : List α) : l <:+ l := List.suffix_refl l
  have tail {α : Type} {l m : List α} {x : α} (e : l = x :: m) : m <:+ l := e ▸ List.suffix_cons x m
  unfold sSource at h
  split at h
  · next e =>
    cases h
    exact .of_sPort idle kept (refl _) (refl _) (tail e) (refl _) ⟨rfl, rfl, rfl, rfl, rfl, rfl⟩
  · split at h
    · next e =>
      cases h
      exact .of_sPort idle kept (refl _) (refl _) (refl _) (tail e) ⟨rfl, rfl, rfl, rfl, rfl, rfl⟩
    · split at h
      · next e =>
        cases h
        exact .of_sPort idle kept (refl _) (tail e) (refl _) (refl _) ⟨rfl, rfl, rfl, rfl, rfl, rfl⟩
      · split at h
        · cases h
        · cases h
          unfold beginSource at kept ⊢
          simp only [removeUpstream_eq] at kept ⊢
          exact .of_sPort idle kept (List.drop_suffix _ _) (refl _) (refl _) (refl _) ⟨rfl, rfl, rfl, rfl, rfl, rfl⟩

theorem serveS_closes (s : State) : Closes s (serveS s) := by
  have kept := serveS_standing s
  unfold serveS at kept ⊢
  by_cases hbegin : s.sPort.mayBegin = true
  · rw [if_pos hbegin] at kept ⊢
    cases hsrc : sSource s with
    | none => exact .refl s
    | some src =>
      rw [hsrc] at kept
      exact beginSource_closes (tx_of_mayBegin hbegin) hsrc kept
  · rw [if_neg hbegin]
    exact .refl s

/-! ### The F-port -/

theorem grantTrip_closes {s : State} (idle : s.fPort.tx = none) (kept : standing (grantTrip s) = standing s) :
    Closes s (grantTrip s) := by
  have refl {α : Type} (l : List α) : l <:+ l := List.suffix_refl l
  unfold grantTrip at kept ⊢
  cases e : s.guard.trips with
  | nil => exact .refl s
  | cons t rest =>
    simp only [e] at kept ⊢
    exact .of_fPort idle kept (refl _) (e ▸ List.suffix_cons t rest) (refl _) (refl _) ⟨rfl, rfl, rfl⟩

/-- What a granted requester supplies leaves its place from the head (R62 to R65). -/
theorem grantRequester_closes {s : State} (idle : s.fPort.tx = none) (r : Requester) : Closes s (grantRequester r s) := by
  have refl {α : Type} (l : List α) : l <:+ l := List.suffix_refl l
  have tail {α : Type} {l m : List α} {x : α} (e : l = x :: m) : m <:+ l := e ▸ List.suffix_cons x m
  cases r with
  | supervisory =>
    simp only [grantRequester, grantSupervisory]
    split
    · exact .refl s
    · next e => exact .of_fPort idle rfl (tail e) (refl _) (refl _) (refl _) ⟨rfl, rfl, rfl⟩
    · exact .of_fPort idle rfl (List.drop_suffix _ _) (refl _) (refl _) (refl _) ⟨rfl, rfl, rfl⟩
  | dispatch =>
    simp only [grantRequester, grantDispatch]
    split
    · exact .refl s
    · next e => exact .of_fPort idle rfl (refl _) (refl _) (refl _) (tail e) ⟨rfl, rfl, rfl⟩
  | step =>
    simp only [grantRequester, grantStep]
    split
    · exact .refl s
    · next e => exact .of_fPort idle rfl (refl _) (refl _) (tail e) (refl _) ⟨rfl, rfl, rfl⟩
  | query =>
    have kept := grantQuery_standing s
    simp only [grantRequester, grantQuery] at kept ⊢
    cases e : eligibleEntry s with
    | none => exact .refl s
    | some i =>
      rw [e] at kept
      exact .of_fPort idle kept (refl _) (refl _) (refl _) (refl _) ⟨rfl, rfl, rfl⟩

theorem serveF_closes (s : State) : Closes s (serveF s) := by
  unfold serveF
  split
  · next hbegin =>
    have idle := tx_of_mayBegin hbegin
    split
    · exact .refl s
    · exact grantTrip_closes idle (by unfold grantTrip; split <;> rfl)
    · next l r _ =>
      have moved : Closes s { s with arbiter := s.arbiter.movePtr l r } :=
        .of_fPort idle (by cases l <;> rfl) (List.suffix_refl _) (List.suffix_refl _) (List.suffix_refl _)
          (List.suffix_refl _) ⟨rfl, rfl, rfl⟩
      exact moved.trans (grantRequester_closes (by exact idle) r)
  · exact .refl s

theorem serve_closes (s : State) : Closes s (serve s) :=
  (((sendFlow_closes .sPort s).trans (sendFlow_closes .fPort _)).trans (serveS_closes _)).trans (serveF_closes _)

/-- Settles O12: each transmitter-free event closes, and closing is transitive. -/
theorem closeReachesTransmissionAlone : Obligations.CloseReachesTransmissionAlone := serve_closes

/-! ### The sources of the S-port in their order -/

/-- Settles O13, source by source in the order of R35. -/
theorem sPortServesInOrder : Obligations.SPortServesInOrder := by
  intro s
  refine ⟨fun h => by simp [serveS, h], fun h => ?_⟩
  have begins (src : SSource) (hsrc : sSource s = some src) : serveS s = beginSource s src := by simp [serveS, h, hsrc]
  refine ⟨fun snd rest ho => begins (.reply snd rest) (by simp [sSource, ho]), fun ho =>
    ⟨fun n rest hc hn => begins (.notice n rest) (by simp [sSource, ho, hc, hn]), fun hn => ?_⟩⟩
  have last (hu : s.fwd.upPass = []) :
      sSource s = if s.part.collector = 0 ∨ s.fwd.up = [] then none else some .upstream := by
    rcases hn with hn | hn <;> simp [sSource, ho, hn, hu]
  refine ⟨fun f rest hu => begins (.upPass f rest) ?_, fun hu => ⟨fun hnone => ?_, fun hc hup => ?_⟩⟩
  · rcases hn with hn | hn <;> simp [sSource, ho, hn, hu]
  · simp [serveS, h, last hu, hnone]
  · intro f left
    have hsrc : sSource s = some .upstream := by
      rw [last hu]
      exact if_neg (not_or.mpr ⟨hc, hup⟩)
    have hf : upstreamFrame s = f := by
      simp only [upstreamFrame, reportFrame, List.length_take]
      rfl
    have key : serveS s = beginS ⟨f, .plain⟩ (removeUpstream s) := by
      rw [begins _ hsrc, ← hf]
      rfl
    rw [removeUpstream_eq] at key
    refine ⟨fun hlow => ?_, fun hlow => ?_⟩
    · have hno : ¬s.fwd.up.length - 16 ≤ s.fwd.lowMark := by omega
      rw [key]
      simp only [if_neg hno]
      rfl
    · rw [key, setCondition_ends]
      simp only [if_pos hlow]
      rfl

end Sys2Proof.Machine
end

section
namespace Sys2Proof.Machine
open Sys2Proof

/-! ### Routes -/

theorem sourceRefused_iff (s : State) (n : Nat) :
    (fieldSide s n || decide (n = broadcast)) = true ↔ fieldSide s n = true ∨ n = 255 := by
  rw [Bool.or_eq_true, decide_eq_true_eq]
  rfl

/-- The source checks of the S-port, before destination and kind (R24, R25). -/
theorem routeS_of_source {s : State} {f : Frame} (h : f.src ≠ s.part.station)
    (hs : fieldSide s f.src = true ∨ f.src = 255) : routeS s f = .sPortFrameDropped f := by
  rw [routeS, if_neg h, if_pos ((sourceRefused_iff s f.src).mpr hs)]

/-- An S-port frame that passed the source checks is routed by destination and kind (R25, R26). -/
theorem routeS_of_passed {s : State} {f : Frame} (h : f.src ≠ s.part.station) (hw : fieldSide s f.src = false)
    (hb : f.src ≠ 255) :
    routeS s f =
      if f.dest = s.part.station then
        if f.kind = .setup then routeSetup f else if f.kind = .order then .orderToPart f
        else if f.kind = .query then .queryToPart f else .sPortFrameDropped f
      else if f.dest = 255 ∨ fieldSide s f.dest = true then
        if f.kind = .order then .orderFrameAcceptance f
        else if f.kind = .query then if f.dest = 255 then .sPortFrameDropped f else .supervisoryQuery f
        else .passThroughEntry f
      else .sPortFrameDropped f := by
  have hsrc : ¬(fieldSide s f.src || decide (f.src = broadcast)) = true := by
    rw [sourceRefused_iff]
    simp [hw, hb]
  rw [routeS, if_neg h, if_neg hsrc]
  by_cases hd : f.dest = s.part.station
  · rw [if_pos hd, if_pos hd]
    cases f.kind <;> rfl
  · rw [if_neg hd, if_neg hd]
    by_cases h255 : f.dest = 255
    · rw [if_pos (show f.dest = broadcast from h255), if_pos (show f.dest = 255 ∨ _ from .inl h255), if_pos h255]
      cases f.kind <;> rfl
    · rw [if_neg (show ¬f.dest = broadcast from h255)]
      by_cases hside : fieldSide s f.dest = true
      · rw [if_pos hside, if_pos (show f.dest = 255 ∨ _ from .inr hside), if_neg h255]
        cases f.kind <;> rfl
      · rw [if_neg hside, if_neg (not_or.mpr ⟨h255, hside⟩)]

/-- An F-port frame from inside a window is routed by kind and destination (R27, R28). -/
theorem routeF_of_passed {s : State} {f : Frame} (h : f.src ≠ s.part.station) (hw : fieldSide s f.src = true) :
    routeF s f =
      if f.kind = .report then .fieldReport f
      else if f.dest = s.part.station then if f.kind = .answer then .fieldAnswer f else .fieldFrameDropped f
      else if f.dest = 0 ∨ fieldSide s f.dest = true then .fieldFrameDropped f
      else .upPassThrough f := by
  rw [routeF, if_neg h, hw]
  simp

/-- Settles O27, by the source checks and then destination and kind. -/
theorem framesAreRouted : Obligations.FramesAreRouted := by
  intro s f
  refine ⟨fun p h => by cases p <;> exact if_pos h, fun h => ⟨routeS_of_source h, fun hw hb => ?_, fun hw => ?_, fun hw => ?_⟩⟩
  · have key := routeS_of_passed h hw hb
    simp only [route]
    refine ⟨fun hd => ?_, fun hd => ⟨fun hside => ?_, fun h255 hside => ?_⟩⟩
    · rw [if_pos hd] at key
      rw [key]
      refine ⟨fun hk => ?_, fun hk => ?_, fun hk => ?_, fun h1 h2 h3 => ?_⟩
      · simp [hk]
      · simp [hk]
      · simp [hk]
      · simp [h1, h2, h3]
    · rw [if_neg hd, if_pos hside] at key
      rw [key]
      refine ⟨fun hk => ?_, fun hk => ?_, fun h1 h2 => ?_⟩
      · simp [hk]
      · simp [hk]
      · simp [h1, h2]
    · rw [key, if_neg hd, if_neg (by simp [h255, hside])]
  · simp only [route, routeF, if_neg h, hw]
    rfl
  · have key := routeF_of_passed h hw
    simp only [route]
    refine ⟨fun hk => by rw [key, if_pos hk], fun hk => ?_⟩
    rw [if_neg hk] at key
    refine ⟨fun hd => by rw [key, if_pos hd], fun hd => ⟨fun hside => ?_, fun h0 hside => ?_⟩⟩
    · rw [key, if_neg hd, if_pos hside]
    · rw [key, if_neg hd, if_neg (by simp [h0, hside])]

/-! ### What taking a frame leaves of the forwarding unit -/

theorem taken_counters (p : Port) (f : Frame) (s : State) : (taken p f s).fwd.counters = s.fwd.counters := by
  have h := congrArg (·.fwd.counters) (taken_standing p f s)
  generalize taken p f s = t at *
  cases p <;> exact h

theorem taken_acceptance (p : Port) (f : Frame) (s : State) : (taken p f s).fwd.acceptance = s.fwd.acceptance := by
  have h := congrArg (·.fwd.acceptance) (taken_standing p f s)
  generalize taken p f s = t at *
  cases p <;> exact h

/-! ### Dropped frames -/

/-- Settles O29, by the reason of the drop. -/
theorem droppedFramesAreCounted : Obligations.DroppedFramesAreCounted := by
  refine ⟨fun f s h => ?_, fun f s h => ?_⟩
  · intro t c counted
    have hexec := exec_of_takes (act := dropFromS f) rfl h
    have hc : t.fwd.counters = c := taken_counters .sPort f s
    have hside : (fieldSide t f.src || decide (f.src = broadcast)) = true ↔ fieldSide s f.src = true ∨ f.src = 255 := by
      rw [sourceRefused_iff, fieldSide_taken]
    have hpart : t.part = s.part := taken_part .sPort f s
    rw [hexec, dropFromS, hpart]
    refine ⟨fun hs => ?_, fun hw hb => ?_⟩
    · rw [if_pos (hside.mpr hs), State.countFwd, hc]
    · rw [if_neg (fun hs => (hside.mp hs).elim (by simp [hw]) hb)]
      refine ⟨fun hd => ?_, fun hd h255 => ?_, fun hd h255 => ?_⟩
      · rw [if_pos hd, State.countFwd, hc]
      · rw [if_neg hd, if_pos (show f.dest = broadcast from h255), State.countFwd, hc]
      · rw [if_neg hd, if_neg (show ¬f.dest = broadcast from h255), misrouted, State.countFwd, hc]
  · intro t c counted
    have hexec := exec_of_takes (act := dropFromF f) rfl h
    have hc : t.fwd.counters = c := taken_counters .fPort f s
    have hside : fieldSide t f.src = fieldSide s f.src := fieldSide_taken .fPort f s f.src
    have hpart : t.part = s.part := taken_part .fPort f s
    rw [hexec, dropFromF, hpart, hside]
    refine ⟨fun hw => ?_, fun hw => ?_⟩
    · rw [hw, if_pos (by rfl), State.countFwd, hc]
    · rw [hw, if_neg (by decide)]
      refine ⟨fun hd => ?_, fun hd h0 => ?_, fun hd h0 => ?_⟩
      · rw [if_pos hd, State.countFwd, hc]
      · rw [if_neg hd, if_pos h0, misrouted, State.countFwd, hc]
      · rw [if_neg hd, if_neg h0]

/-! ### Passed frames -/

/-- The one STATUS entry of a refused pass-through frame: point 0, BUSY (R41, R208). -/
theorem resultStatus_busy (s : State) (f : Frame) :
    resultStatus s f [(0, .busy)] =
      { dest := f.src, src := s.part.station, kind := .status, count := 1, tag := f.tag, body := [0, 0, 2, 0, 0, 0] } := by
  have hbody : [((0, .busy) : Nat × Status)].flatMap (fun r => pointWord 0 r.1 ++ [byteOf (statusCode r.2), 0, 0, 0]) =
      [0, 0, 2, 0, 0, 0] := by decide
  rw [resultStatus, hbody]
  rfl

theorem passThrough_placed {s : State} (h : s.fwd.orders.length < 32) (f : Frame) :
    passThrough f s = { s with fwd := { s.fwd with
      orders := s.fwd.orders ++ [.pass f s.fwd.acceptance], acceptance := s.fwd.acceptance + 1 } } := if_pos h

theorem passThrough_refused {s : State} (h : 32 ≤ s.fwd.orders.length) (f : Frame) :
    passThrough f s = countBusy (placeReply (resultStatus s f [(0, .busy)]) .plain s) :=
  if_neg (Nat.not_lt.mpr h)

/-- Settles O33, by whether the queue has a place. -/
theorem passedFramesQueueUnchanged : Obligations.PassedFramesQueueUnchanged := by
  refine ⟨fun f s h => ?_, fun f s h => ?_⟩
  · intro t
    have hexec := exec_of_takes (act := passThrough f) rfl h
    refine ⟨fun hroom => ?_, fun hfull => ?_⟩
    · rw [hexec, passThrough_placed hroom, taken_acceptance]
    · rw [hexec, passThrough_refused hfull, countBusy, State.countFwd, placeReply, resultStatus_busy, taken_part]
      simp only [taken_counters, t]
  · intro t
    have hexec := exec_of_takes (act := queueUpPass f) rfl h
    refine ⟨fun hroom => ?_, fun hfull => ?_⟩
    · rw [hexec, queueUpPass, if_pos hroom]
    · rw [hexec, queueUpPass, if_neg (Nat.not_lt.mpr hfull), State.countFwd, taken_counters]

end Sys2Proof.Machine
end

section
namespace Sys2Proof.Machine
open Sys2Proof

/-! ### Order frame acceptance -/

/-- The owner check, with the cases of the owner written out (R39 step 1). -/
theorem ownerRefused_iff (s : State) (dest p : Nat) :
    ownerRefused s dest p = true ↔ p < 1024 ∧ (s.point p).configured = true ∧
      ((s.point p).owner = .self ∨
        ∃ n, (s.point p).owner = .station n ∧ if dest = 255 then fieldSide s n = false else n ≠ dest) := by
  have hb : broadcast = 255 := rfl
  simp only [ownerRefused, Bool.and_eq_true, decide_eq_true_eq, and_assoc]
  refine and_congr Iff.rfl (and_congr Iff.rfl ?_)
  cases ho : (s.point p).owner with
  | self => simp
  | station n =>
    by_cases hd : dest = 255
    · simp [hd, hb]
    · simp [hd, hb]

/-- The lowest-indexed configured record meets the order for a point (R39, log entry 10). -/
theorem guardOf_eq_some {s : State} {p i : Nat} (hi : i < 96) (hc : (s.guardRec i).configured = true)
    (hp : (s.guardRec i).point = p)
    (hfirst : ∀ j < i, ¬((s.guardRec j).configured = true ∧ (s.guardRec j).point = p)) : guardOf s p = some i := by
  rw [guardOf, List.find?_range_eq_some]
  refine ⟨by simp [hc, hp], by simpa using hi, fun j hj => ?_⟩
  rw [Bool.not_eq_true', Bool.eq_false_iff]
  simpa using hfirst j hj

theorem guardOf_eq_none {s : State} {p : Nat}
    (h : ∀ i < 96, ¬((s.guardRec i).configured = true ∧ (s.guardRec i).point = p)) : guardOf s p = none := by
  rw [guardOf, List.find?_range_eq_none]
  intro i hi
  rw [Bool.not_eq_true', Bool.eq_false_iff]
  simpa using h i (by simpa using hi)

theorem judgeOrderEntry_mismatch {f : Frame} {p : Nat} {s : State} (h : ownerRefused s f.dest p = true) (v : Value) :
    judgeOrderEntry f (p, v) s = (some .mismatch, s.countFwd (fun c => { c with mismatch := bump c.mismatch })) := by
  simp [judgeOrderEntry, h]

theorem judgeOrderEntry_unguarded {f : Frame} {p : Nat} {s : State} (h : ¬ownerRefused s f.dest p = true)
    (hg : guardOf s p = none) (v : Value) :
    judgeOrderEntry f (p, v) s = (none, serve (queueUnguarded f (p, v) s)) := by
  simp [judgeOrderEntry, h, hg]

theorem judgeOrderEntry_guarded {f : Frame} {p i : Nat} {s : State} (h : ¬ownerRefused s f.dest p = true)
    (hg : guardOf s p = some i) (v : Value) :
    judgeOrderEntry f (p, v) s =
      (decisionStatus (guardOrder (.supervisory f.dest f.src) i v s).1,
        serve (guardOrder (.supervisory f.dest f.src) i v s).2) := by
  simp [judgeOrderEntry, h, hg]

theorem part_of_beyondGuard {s t : State} (h : beyondGuard t = beyondGuard s) : t.part = s.part :=
  (congrArg State.part h :)

theorem serve_part (s : State) : (serve s).part = s.part := (congrArg State.part (serve_standing s) :)

theorem judgeOrderEntry_part (f : Frame) (e : Nat × Value) (s : State) : (judgeOrderEntry f e s).2.part = s.part := by
  unfold judgeOrderEntry
  split
  · rfl
  · split
    · rw [serve_part, part_of_beyondGuard (guardOrder_beyondGuard _ _ _ s)]
    · rw [serve_part]
      rfl

theorem acceptOrders_refused {f : Frame} {s : State} (h : 32 < s.fwd.orders.length + f.count) :
    acceptOrders f s = recordBusy f (countBusy
      (placeReply (resultStatus s f ((orderEntries f).map (fun e => (e.1, Status.busy)))) .plain s)) := if_pos h

theorem acceptOrders_judged {f : Frame} {s : State} (h : s.fwd.orders.length + f.count ≤ 32) :
    acceptOrders f s =
      replyRefusals f (judgeEntries (judgeOrderEntry f) (orderEntries f) s).1
        (judgeEntries (judgeOrderEntry f) (orderEntries f) s).2 := if_neg (Nat.not_lt.mpr h)

theorem replyRefusals_eq {s : State} {station : Nat} (h : s.part.station = station) (f : Frame) (rs : List (Nat × Status)) :
    replyRefusals f rs s =
      if rs = [] then s else { s with fwd := { s.fwd with outbox := s.fwd.outbox ++
        [⟨{ dest := f.src, src := station, kind := .status, count := rs.length, tag := f.tag,
            body := rs.flatMap (fun r => pointWord 0 r.1 ++ [byteOf (statusCode r.2), 0, 0, 0]) }, .plain⟩] } } := by
  subst h
  rfl

/-- The BUSY outcome carries the frame's first entry (R152). -/
theorem recordBusy_order {f : Frame} (h : f.kind = .order) (s : State) :
    recordBusy f s =
      if s.recorder.cfg.kindSel.getLsbD 1 = true then
        enterRecord { number := 0, time := ⟨0, 0, false⟩, origin := .sPort, kind := some .order, src := some f.src,
                      dest := some f.dest, count := f.count, point := some (orderEntryAt f 0).1,
                      value := some (orderEntryAt f 0).2, outcome := some .busy, marks := [] } s
      else s := by
  simp only [recordBusy, outcomeSelected, frameRecord, recordedEntry, h]

/-- Settles O32, by whether the whole frame fits and then entry by entry. -/
theorem orderFrameIsAccepted : Obligations.OrderFrameIsAccepted := by
  refine ⟨fun f s h => ?_, fun f p v s => ?_, fun f s h => recordBusy_order h s⟩
  · intro t reply
    have hexec := exec_of_takes (act := acceptOrders f) rfl h
    have hpart : t.part = s.part := taken_part .sPort f s
    refine ⟨fun hfull => ?_, fun hroom => ?_⟩
    · rw [hexec, acceptOrders_refused hfull, countBusy, State.countFwd, placeReply, resultStatus, hpart]
    · have hjudged := (judgeEntries_keeps State.part (judgeOrderEntry_part f) (orderEntries f) t).trans hpart
      rw [hexec, acceptOrders_judged hroom, replyRefusals_eq (congrArg Part.station hjudged)]
  · intro r wrong
    have hwrong : wrong ↔ ownerRefused s f.dest p = true := (ownerRefused_iff s f.dest p).symm
    rw [hwrong]
    refine ⟨fun h => judgeOrderEntry_mismatch h v, fun h hg => judgeOrderEntry_unguarded h (guardOf_eq_none hg) v,
      fun i hi h hc hp hfirst => ?_⟩
    rw [judgeOrderEntry_guarded h (guardOf_eq_some hi hc hp hfirst)]
    refine ⟨rfl, ?_⟩
    cases (guardOrder (.supervisory f.dest f.src) i v s).1 <;> rfl

end Sys2Proof.Machine
end

section
namespace Sys2Proof.Machine
open Sys2Proof

/-! ### A frame taken from its buffer -/

theorem modPort_congr {s : State} {p : Port} {f g : PortRec → PortRec} (h : f (s.port p) = g (s.port p)) :
    s.modPort p f = s.modPort p g := by
  cases p
  · exact congrArg (fun r => { s with sPort := r }) h
  · exact congrArg (fun r => { s with fPort := r }) h

/-- The head frame leaves its buffer, and few enough left in HOLDING let the peer resume (R169). -/
theorem popFrame_eq {p : Port} {f : Frame} {rest : List Frame} {s : State} (h : (s.port p).rx = f :: rest) :
    popFrame p s = s.modPort p (fun r =>
      if r.holding = true ∧ rest.length ≤ Config.resumeLevel then
        { r with rx := rest, holding := false, symbol := .resume }
      else { r with rx := rest }) := by
  apply modPort_congr
  simp only [h, List.tail_cons]

/-! ### A frame offered to the recorder -/

theorem recorder_of_beyondAttention {s t : State} (h : beyondAttention t = beyondAttention s) : t.recorder = s.recorder :=
  (congrArg State.recorder h :)

theorem freezeRecorder_recorder (s : State) :
    (freezeRecorder s).recorder = { s.recorder with state := .frozen, post := 0 } :=
  recorder_of_beyondAttention (setCondition_beyondAttention _ _ _)

/-- The origin of a frame's record (R149). -/
def frameOrigin : Port → RecOrigin
  | .sPort => .sPort
  | .fPort => .fPort

/-- What an offered frame gives the recorder: a trigger where a comparator matches, else a record of a selected kind, else
nothing (R151). -/
theorem offerFrame_eq (p : Port) (f : Frame) (s : State) :
    offerFrame p f s =
      if comparatorMarks s f ≠ [] then enterTrigger (frameRecord (frameOrigin p) f (comparatorMarks s f)) s
      else if s.recorder.cfg.kindSel.getLsbD (kindCode f.kind - 1) = true then
        enterRecord (frameRecord (frameOrigin p) f []) s
      else s := by
  cases p <;> rfl

section
variable {p : Port} {f : Frame} {s : State}

theorem offerFrame_off (h : s.recorder.state = .off) : offerFrame p f s = s := by
  rw [offerFrame_eq, (enterRecord_off h _).1, (enterRecord_off h _).2, ite_self, ite_self]

theorem offerFrame_frozen (h : s.recorder.state = .frozen) :
    offerFrame p f s = { s with recorder := { s.recorder with
      missed := if comparatorMarks s f = [] then s.recorder.missed else bump s.recorder.missed } } := by
  rw [offerFrame_eq, (enterRecord_frozen h _).1, (enterRecord_frozen h _).2, ite_self, ite_not]
  split <;> rfl

theorem offerFrame_armed_unmatched (h : s.recorder.state = .armed) (hm : comparatorMarks s f = []) :
    offerFrame p f s =
      if s.recorder.cfg.kindSel.getLsbD (kindCode f.kind - 1) = true then
        pushRecord (frameRecord (frameOrigin p) f []) s
      else s := by
  rw [offerFrame_eq, if_neg (not_not_intro hm), enterRecord_armed h]

/-- A matching frame starts the post count of an ARMED recorder, or freezes it where the count is 0 (R156). -/
theorem offerFrame_armed_matched (h : s.recorder.state = .armed) (hm : comparatorMarks s f ≠ []) :
    (offerFrame p f s).recorder =
      { (pushRecord (frameRecord (frameOrigin p) f (comparatorMarks s f)) s).recorder with
        triggers := bump s.recorder.triggers
        state := if s.recorder.cfg.postCount = 0 then .frozen else .post
        post := s.recorder.cfg.postCount } := by
  rw [offerFrame_eq, if_pos hm, enterTrigger_armed h]
  by_cases hp : s.recorder.cfg.postCount = 0
  · simp only [if_pos hp, freezeRecorder_recorder]
    rw [hp]
  · simp only [if_neg hp]

/-- A frame that a POST recorder enters counts down, and the last one freezes it (R157). -/
theorem offerFrame_post (h : s.recorder.state = .post)
    (he : comparatorMarks s f ≠ [] ∨ s.recorder.cfg.kindSel.getLsbD (kindCode f.kind - 1) = true) :
    ∃ triggers, (offerFrame p f s).recorder =
      { (pushRecord (frameRecord (frameOrigin p) f (comparatorMarks s f)) s).recorder with
        triggers := triggers
        state := if s.recorder.post ≤ 1 then .frozen else .post
        post := if s.recorder.post ≤ 1 then 0 else s.recorder.post - 1 } := by
  rw [offerFrame_eq]
  by_cases hm : comparatorMarks s f = []
  · refine ⟨s.recorder.triggers, ?_⟩
    rw [if_neg (not_not_intro hm), if_pos (he.resolve_left (not_not_intro hm)), enterRecord_post h, hm]
    by_cases hp : s.recorder.post ≤ 1
    · simp only [if_pos hp, freezeRecorder_recorder]
      rfl
    · simp only [if_neg hp, ← h]
      rfl
  · refine ⟨bump s.recorder.triggers, ?_⟩
    rw [if_pos hm, enterTrigger_post h]
    by_cases hp : s.recorder.post ≤ 1
    · simp only [if_pos hp, freezeRecorder_recorder]
      rfl
    · simp only [if_neg hp, ← h]
      rfl

end

/-- Settles O11, by the recorder's state and whether a comparator matches. -/
theorem takenFrameIsOffered : Obligations.TakenFrameIsOffered := by
  intro p f rest s hrx
  have hmarks : comparatorMarks (popFrame p s) f = comparatorMarks s f := by
    rw [comparatorMarks, popFrame, State.modPort_recorder]
    rfl
  refine ⟨rfl, by rw [offered_beyondRecorder, popFrame_eq hrx], ?_⟩
  have hrec : (popFrame p s).recorder = s.recorder := State.modPort_recorder ..
  have hatt : (popFrame p s).attention = s.attention := State.modPort_attention ..
  have hclock : (popFrame p s).clock = s.clock := State.modPort_clock ..
  unfold offered
  rw [← hrec, ← hatt, ← hclock, ← hmarks]
  generalize popFrame p s = t
  refine ⟨fun h => ?_, fun h => ?_, fun h hm => ?_, fun h hm => ?_, fun h he => ?_⟩
  · rw [offerFrame_off h]
    exact ⟨rfl, rfl⟩
  · rw [offerFrame_frozen h]
    exact ⟨rfl, rfl⟩
  · rw [offerFrame_armed_unmatched h hm]
    split
    · refine ⟨rfl, ?_⟩
      cases p <;> rfl
    · exact ⟨rfl, rfl⟩
  · rw [offerFrame_armed_matched h hm]
    refine ⟨rfl, rfl, fun hp => ⟨if_neg (by omega), rfl⟩, fun hp => if_pos hp⟩
  · obtain ⟨triggers, hr⟩ := offerFrame_post (p := p) h he
    rw [hr]
    exact ⟨rfl, fun hp => ⟨if_neg (by omega), if_neg (by omega)⟩, fun hp => if_pos hp⟩

end Sys2Proof.Machine
end

section
namespace Sys2Proof.Machine
open Sys2Proof

/-! ### The count of address conflicts through a wake and its cycle occasions -/

/-- The number of address conflicts counted (R24). -/
def conflictCount (s : State) : Nat := s.fwd.counters.addressConflict

theorem conflictCount_of_beyondGuard {s t : State} (h : beyondGuard t = beyondGuard s) : conflictCount t = conflictCount s :=
  (congrArg (fun u => u.fwd.counters.addressConflict) h :)

theorem conflictCount_of_beyondAttention {s t : State} (h : beyondAttention t = beyondAttention s) :
    conflictCount t = conflictCount s := (congrArg conflictCount h :)

theorem handUpstream_conflictCount (e : UpEntry) (s : State) : conflictCount (handUpstream e s) = conflictCount s := by
  unfold handUpstream
  simp only
  split
  · rfl
  · split
    · rfl
    · split
      · rw [conflictCount_of_beyondAttention (raiseFlag_beyondAttention _ _)]
        rfl
      · split
        · rw [setThinning, conflictCount_of_beyondAttention (setCondition_beyondAttention _ _ _)]
          rfl
        · rfl

theorem reportSelf_conflictCount (p : Nat) (a b : Value × Quality) (s : State) :
    conflictCount (reportSelf p a b s) = conflictCount s := by
  unfold reportSelf
  split
  · exact handUpstream_conflictCount _ s
  · rfl

theorem wakeConsumers_conflictCount (p : Nat) (s : State) : conflictCount (wakeConsumers p s) = conflictCount s := by
  have hdispatch (t : State) : conflictCount (wakeDispatch p t) = conflictCount t :=
    (congrArg conflictCount (wakeDispatch_beyondInputs p t) :)
  have hlines (t : State) : conflictCount (wakeLines p t) = conflictCount t :=
    (congrArg conflictCount (wakeLines_beyondEmission p t) :)
  rw [wakeConsumers, hdispatch, hlines, conflictCount_of_beyondGuard (wakeGuard_beyondGuard p s)]

theorem writeSelf_conflictCount (p : Nat) (v : Value) (s : State) : conflictCount (writeSelf p v s) = conflictCount s := by
  unfold writeSelf pointEvent
  exact (conflictCount_of_beyondGuard (serve_beyondGuard _)).trans
    ((reportSelf_conflictCount _ _ _ _).trans (wakeConsumers_conflictCount p _))

/-- Nothing that a cycle occasion does counts an address conflict. -/
theorem cycleFrame_conflictCount : CycleFrame (fun s t => conflictCount t = conflictCount s) where
  refl _ := rfl
  trans h1 h2 := h2.trans h1
  serve s := conflictCount_of_beyondGuard (serve_beyondGuard s)
  handed r s := conflictCount_of_beyondGuard (handAll_beyondGuard r s)
  unit _ _ _ := rfl
  conditions s := conflictCount_of_beyondAttention (followDispatch_beyondAttention s)
  written p v s _ := writeSelf_conflictCount p v s

/-! ### The dispatch state through a wake -/

/-- The dispatch state with the cause and the count of its holds (R122, R124). -/
def holdStatus (s : State) : DispatchState × Option HoldCause × Nat :=
  (s.dispatch.state, s.dispatch.cause, s.dispatch.holds)

theorem holdStatus_of_beyondGuard {s t : State} (h : beyondGuard t = beyondGuard s) : holdStatus t = holdStatus s :=
  (congrArg holdStatus h :)

theorem holdStatus_of_beyondUpstream {s t : State} (h : beyondUpstream t = beyondUpstream s) : holdStatus t = holdStatus s :=
  (congrArg holdStatus h :)

theorem holdStatus_of_beyondAttention {s t : State} (h : beyondAttention t = beyondAttention s) :
    holdStatus t = holdStatus s := (congrArg holdStatus h :)

theorem wakeInput_holdStatus (p : Nat) (i : ReqInput) (s : State) : holdStatus (wakeInput p i s) = holdStatus s := by
  unfold wakeInput
  split
  · cases i <;> rfl
  · rfl

theorem wakeTripSeen_holdStatus (p : Nat) (s : State) : holdStatus (wakeTripSeen p s) = holdStatus s := by
  unfold wakeTripSeen
  split <;> rfl

theorem wakeDemands_holdStatus (p : Nat) (s : State) : holdStatus (wakeDemands p s) = holdStatus s := by
  unfold wakeDemands
  simp only
  split <;> rfl

/-- A wake notes a cycle occasion in the dispatch unit, and leaves its state (R12, R129). -/
theorem wakeDispatch_holdStatus (p : Nat) (s : State) : holdStatus (wakeDispatch p s) = holdStatus s := by
  unfold wakeDispatch
  split
  · rw [holdStatus_of_beyondAttention (followDispatch_beyondAttention _), wakeDemands_holdStatus, wakeTripSeen_holdStatus,
      wakeInput_holdStatus, wakeInput_holdStatus, wakeInput_holdStatus]
  · rfl

theorem wakeConsumers_holdStatus (p : Nat) (s : State) : holdStatus (wakeConsumers p s) = holdStatus s := by
  have hlines (t : State) : holdStatus (wakeLines p t) = holdStatus t :=
    (congrArg holdStatus (wakeLines_beyondEmission p t) :)
  rw [wakeConsumers, wakeDispatch_holdStatus, hlines, holdStatus_of_beyondGuard (wakeGuard_beyondGuard p s)]

theorem writeSelf_holdStatus (p : Nat) (v : Value) (s : State) : holdStatus (writeSelf p v s) = holdStatus s := by
  have hreport (a b : Value × Quality) (t : State) : holdStatus (reportSelf p a b t) = holdStatus t := by
    unfold reportSelf
    split
    · exact holdStatus_of_beyondUpstream (handUpstream_beyondUpstream _ t)
    · rfl
  unfold writeSelf pointEvent
  exact (holdStatus_of_beyondGuard (serve_beyondGuard _)).trans ((hreport _ _ _).trans (wakeConsumers_holdStatus p _))

theorem publishState_holdStatus (s : State) : holdStatus (publishState s) = holdStatus s := by
  unfold publishState publish
  split
  · rfl
  · exact writeSelf_holdStatus _ _ s

theorem enterHold_holdStatus (c : HoldCause) (s : State) :
    holdStatus (enterHold c s) = (.hold, some c, bump s.dispatch.holds) := by
  unfold enterHold
  rw [publishState_holdStatus, holdStatus_of_beyondAttention (followDispatch_beyondAttention _)]
  rfl

/-! ### Cycle occasions of a unit that does not cycle -/

/-- A unit that is STOPPED, or in HOLD with another cause than INPUT, acts on no cycle occasion (R125, R132). -/
theorem actOnOccasion_of_holding {s : State}
    (h : s.dispatch.state = .stopped ∨ s.dispatch.state = .hold ∧ s.dispatch.cause ≠ some .input) : actOnOccasion s = s := by
  unfold actOnOccasion
  rcases h with h | ⟨h, hc⟩
  · simp only [h]
  · simp only [h, hc, false_and, if_false]

theorem runOccasions_holdStatus (n : Nat) {s : State}
    (h : s.dispatch.state = .stopped ∨ s.dispatch.state = .hold ∧ s.dispatch.cause ≠ some .input) :
    holdStatus (runOccasions n s) = holdStatus s := by
  induction n generalizing s with
  | zero => rfl
  | succ n ih =>
    unfold runOccasions
    split
    · rw [actOnOccasion_of_holding (s := { s with dispatch := { s.dispatch with owed := false } }) h]
      exact ih h
    · rfl

theorem settle_holdStatus {s : State}
    (h : s.dispatch.state = .stopped ∨ s.dispatch.state = .hold ∧ s.dispatch.cause ≠ some .input) :
    holdStatus (settle s) = holdStatus s :=
  (holdStatus_of_beyondGuard (serve_beyondGuard _)).trans (runOccasions_holdStatus _ h)

/-! ### The cause CONFLICT -/

theorem holdCause_stopped (c : HoldCause) {s : State} (h : s.dispatch.state = .stopped) : holdCause c s = s := by
  simp only [holdCause, h]

theorem holdCause_run (c : HoldCause) {s : State} (h : s.dispatch.state = .run) : holdCause c s = enterHold c s := by
  simp only [holdCause, h]

theorem holdCause_conflict_hold {s : State} (h : s.dispatch.state = .hold) :
    holdCause .conflict s = { s with dispatch := { s.dispatch with cause := some .conflict } } := by
  simp only [holdCause, h]

/-- The cause CONFLICT handed to the unit leaves it STOPPED, or in HOLD for that cause (R124). -/
theorem holdCause_conflict_holding (s : State) :
    (holdCause .conflict s).dispatch.state = .stopped ∨
      (holdCause .conflict s).dispatch.state = .hold ∧ (holdCause .conflict s).dispatch.cause ≠ some .input := by
  cases h : s.dispatch.state with
  | stopped => exact .inl (by rw [holdCause_stopped _ h, h])
  | run =>
    have hs := enterHold_holdStatus .conflict s
    rw [holdCause_run _ h]
    simp only [holdStatus, Prod.mk.injEq] at hs
    obtain ⟨hstate, hcause, -⟩ := hs
    exact .inr ⟨hstate, by rw [hcause]; decide⟩
  | hold =>
    rw [holdCause_conflict_hold h]
    exact .inr ⟨h, fun hc => nomatch hc⟩

theorem publishState_flagsKept {s t : State} (h : FlagsKept s t) : FlagsKept s (publishState t) :=
  h.trans (cycleFrame_flagsKept.publishState t)

theorem holdCause_flagsKept (c : HoldCause) (s : State) : FlagsKept s (holdCause c s) := by
  unfold holdCause
  split
  · exact .refl s
  · exact publishState_flagsKept (followDispatch_flagsKept (.of_flags rfl))
  · cases c <;> exact .of_flags rfl

theorem holdCause_conflictCount (c : HoldCause) (s : State) : conflictCount (holdCause c s) = conflictCount s := by
  unfold holdCause
  split
  · rfl
  · exact (cycleFrame_conflictCount.publishState _).trans (cycleFrame_conflictCount.conditions _)
  · cases c <;> rfl

section
variable {s : State}

theorem conflict_conflictCount : conflictCount (conflict s) = bump (conflictCount s) := by
  unfold conflict
  exact (cycleFrame_conflictCount.settle _).trans
    ((holdCause_conflictCount _ _).trans (conflictCount_of_beyondAttention (raiseFlag_beyondAttention _ _)))

/-- An address conflict gives the unit the cause CONFLICT, and no cycle (R24, R124). -/
theorem conflict_holdStatus : holdStatus (conflict s) = holdStatus (holdCause .conflict
    (raiseFlag .addressConflict (s.countFwd (fun c => { c with addressConflict := bump c.addressConflict })))) :=
  settle_holdStatus (holdCause_conflict_holding _)

theorem conflict_isSet (h : s.attention.flags.length = flagCount) : ((conflict s).flag 16).isSet = true := by
  refine (settle_flagsKept (holdCause_flagsKept _ _)).events 16 (by decide) ?_
  rw [raiseFlag_isSet .addressConflict (s := s.countFwd _) h]
  simp [Flag.index]

theorem conflict_beyondWake : beyondWake (conflict s) = beyondWake s := by
  unfold conflict
  rw [settle_beyondWake, holdCause_beyondWake, raiseFlag_beyondWake]
  rfl

theorem raised_holdStatus (g : FwdCounters → FwdCounters) :
    holdStatus (raiseFlag .addressConflict (s.countFwd g)) = holdStatus s := by
  rw [holdStatus_of_beyondAttention (raiseFlag_beyondAttention _ _)]
  rfl

theorem conflict_of_run (h : s.dispatch.state = .run) :
    holdStatus (conflict s) = (.hold, some .conflict, bump s.dispatch.holds) := by
  have hr := raised_holdStatus (s := s) (fun c => { c with addressConflict := bump c.addressConflict })
  rw [conflict_holdStatus]
  generalize raiseFlag .addressConflict _ = t at hr ⊢
  simp only [holdStatus, Prod.mk.injEq] at hr
  obtain ⟨hstate, -, hholds⟩ := hr
  rw [holdCause_run _ (hstate.trans h), enterHold_holdStatus, hholds]

theorem conflict_of_hold (h : s.dispatch.state = .hold) :
    holdStatus (conflict s) = (.hold, some .conflict, s.dispatch.holds) := by
  have hr := raised_holdStatus (s := s) (fun c => { c with addressConflict := bump c.addressConflict })
  rw [conflict_holdStatus]
  generalize raiseFlag .addressConflict _ = t at hr ⊢
  simp only [holdStatus, Prod.mk.injEq] at hr
  obtain ⟨hstate, -, hholds⟩ := hr
  rw [holdCause_conflict_hold (hstate.trans h), holdStatus, hstate, h, hholds]

theorem conflict_of_stopped (h : s.dispatch.state = .stopped) : holdStatus (conflict s) = holdStatus s := by
  have hr := raised_holdStatus (s := s) (fun c => { c with addressConflict := bump c.addressConflict })
  rw [conflict_holdStatus]
  generalize raiseFlag .addressConflict _ = t at hr ⊢
  have hstate : t.dispatch.state = .stopped := (congrArg Prod.fst hr).trans h
  rw [holdCause_stopped _ hstate, hr]

end

theorem taken_holdStatus (p : Port) (f : Frame) (s : State) : holdStatus (taken p f s) = holdStatus s := by
  have h := congrArg holdStatus (taken_standing p f s)
  generalize taken p f s = t at *
  cases p <;> exact h

/-- Settles O28: no cycle occasion follows, since the cause CONFLICT leaves the unit STOPPED or in a HOLD that no cycle
ends. -/
theorem addressConflictHoldsDispatch : Obligations.AddressConflictHoldsDispatch := by
  intro p f s h hl
  refine ⟨conflict (taken p f s), exec_of_takes (act := conflict) rfl h, ?_, ?_, fun hrun => ?_, fun hhold => ?_,
    fun hstop => ?_, conflict_beyondWake⟩
  · refine conflict_conflictCount.trans (congrArg bump ?_)
    rw [conflictCount, taken_counters]
  · exact conflict_isSet ((taken_flagsKept p f s).length.trans hl)
  all_goals
    have ht := taken_holdStatus p f s
    generalize taken p f s = t at ht ⊢
    simp only [holdStatus, Prod.mk.injEq] at ht
    obtain ⟨hstate, hcause, hholds⟩ := ht
  · have hc := conflict_of_run (hstate.trans hrun)
    simp only [holdStatus, Prod.mk.injEq, hholds] at hc
    exact hc
  · have hc := conflict_of_hold (hstate.trans hhold)
    simp only [holdStatus, Prod.mk.injEq, hholds] at hc
    exact hc
  · have hc := conflict_of_stopped (hstate.trans hstop)
    simp only [holdStatus, Prod.mk.injEq] at hc
    obtain ⟨hs, hk, -⟩ := hc
    exact ⟨hs.trans (hstate.trans hstop), hk.trans hcause⟩

end Sys2Proof.Machine
end

section
namespace Sys2Proof.Machine
open Sys2Proof

/-! ### Items one after another -/

theorem applyItems_cons {α : Type} (field : α → Item → Option α) (i : Item) (rest : List Item) (r : α) :
    applyItems field (i :: rest) r = (field r i).bind (applyItems field rest) := by
  rw [applyItems]
  cases field r i <;> rfl

theorem applyItems_nil {α : Type} (field : α → Item → Option α) (r : α) : applyItems field [] r = some r := rfl

/-- A value that passes its check goes on to the next item; one that does not ends the list. -/
theorem checked_bind {α β : Type} (p : Prop) [Decidable p] (a : α) (f : α → Option β) :
    (if p then some a else none).bind f = if p then f a else none := by
  split <;> rfl

theorem checked_map {α β : Type} (p : Prop) [Decidable p] (a : α) (f : α → β) :
    (if p then some a else none).map f = if p then some (f a) else none := by
  split <;> rfl

/-! ### Windows, collector, levels and query settings -/

section
variable (s : State)

/-- An enabled window as R22 wants it, and no other enabled one. -/
theorem writeTable_window (i b l : Nat) :
    writeTable .window i [⟨0, 0, 1⟩, ⟨0, 1, b⟩, ⟨0, 2, l⟩] s =
      if 1 ≤ b ∧ b ≤ l ∧ l ≤ 254 then
        some { s with fwd := { s.fwd with windows := s.fwd.windows.set i ⟨true, b, l⟩ } }
      else none := by
  simp only [writeTable, applyItems_cons, applyItems_nil, setWindowField, yesOrNo_map, inRange_map, checked_bind,
    ← ite_and]
  by_cases h : 1 ≤ b ∧ b ≤ l ∧ l ≤ 254
  · rw [if_pos (by omega), if_pos h]
    exact if_neg fun hbad => hbad.2 h
  · rw [if_neg h]
    split
    · exact if_pos ⟨rfl, h⟩
    · rfl

theorem writeTable_collector (v : Nat) :
    writeTable .part 0 [⟨0, 8, v⟩] s =
      if v ≤ 254 then some { s with part := { s.part with collector := v } } else none := by
  simp only [writeTable, applyItems_cons, applyItems_nil, inRange, if_true, checked_bind, checked_map]
  exact if_congr (by omega) rfl rfl

theorem level_setLevel (a : Arbiter) (r q : Requester) (l : Level) :
    (a.setLevel r l).level q = if q = r then l else a.level q := by
  cases r <;> cases q <;> rfl

theorem code_eq_iff {i : Nat} (hi : i < 4) (r : Requester) : r.code = i ↔ r = requesterOf i := by
  interval_cases i <;> cases r <;> decide

theorem writeTable_level (i v : Nat) :
    writeTable .arbiterLevel i [⟨0, 0, v⟩] s =
      if v < 3 then
        some { s with
          arbiter := s.arbiter.setLevel (requesterOf i) (if v = 0 then .high else if v = 1 then .low else .masked) }
      else none := by
  simp only [writeTable, applyItems_cons, applyItems_nil, setLevelField, codeIn_three, checked_bind, checked_map]
  exact if_congr (by omega) rfl rfl

theorem setLevel_rest (a : Arbiter) (r : Requester) (l : Level) :
    (a.setLevel r l).highPtr = a.highPtr ∧ (a.setLevel r l).lowPtr = a.lowPtr ∧
      (a.setLevel r l).frameNo = a.frameNo ∧ (a.setLevel r l).grants = a.grants := by
  cases r <;> exact ⟨rfl, rfl, rfl, rfl⟩

theorem writeTable_querySettings (n t d : Nat) :
    writeTable .querySettings 0 [⟨0, 0, n⟩, ⟨0, 1, t⟩, ⟨0, 3, d⟩] s =
      if (1 ≤ n ∧ n ≤ 15) ∧ (10 ≤ t ∧ t ≤ 2000) ∧ d ≤ 1 then
        some { s with query := { s.query with attemptLimit := n, timeout := t, long := decide (d = 1) } }
      else none := by
  simp only [writeTable, applyItems_cons, applyItems_nil, setQueryField, yesOrNo_map, inRange_map, checked_bind,
    ← ite_and, checked_map]
  exact if_congr (by omega) rfl rfl

/-! ### Watermarks -/

theorem setThinning_fwd (b : Bool) : (setThinning b s).fwd = { s.fwd with thinning := b } :=
  fwd_of_beyondAttention (setCondition_beyondAttention _ _ _)

/-- The THINNING state that the marks give to the queue as it stands (R32). -/
theorem judgeWatermarks_fwd :
    (judgeWatermarks s).fwd = { s.fwd with thinning :=
      if s.fwd.highMark ≤ s.fwd.up.length then true
      else if s.fwd.up.length ≤ s.fwd.lowMark then false else s.fwd.thinning } := by
  unfold judgeWatermarks
  split
  · exact setThinning_fwd s true
  · split
    · exact setThinning_fwd s false
    · rfl

theorem judgeWatermarks_beyondAttention :
    beyondAttention (judgeWatermarks s) = beyondAttention { s with fwd := (judgeWatermarks s).fwd } := by
  rw [judgeWatermarks_fwd]
  unfold judgeWatermarks
  split
  · exact setCondition_beyondAttention _ _ _
  · split
    · exact setCondition_beyondAttention _ _ _
    · rfl

theorem writeTable_upstream (h l : Nat) :
    writeTable .upstream 0 [⟨0, 0, h⟩, ⟨0, 1, l⟩] s =
      if 16 ≤ h ∧ h ≤ 128 ∧ l < h then
        some (serve (judgeWatermarks { s with fwd := { s.fwd with highMark := h, lowMark := l } }))
      else none := by
  simp only [writeTable, applyItems_cons, applyItems_nil, setUpstreamField, inRange_map, checked_bind, ← ite_and]
  exact if_congr (by omega) rfl rfl

/-! ### Attention records -/

theorem writeTable_enable (i v : Nat) :
    writeTable .attention i [⟨0, 2, v⟩] s =
      if v ≤ 1 then some (s.modFlag i (fun r => { r with enable := decide (v = 1) })) else none := by
  simp only [writeTable, applyItems_cons, applyItems_nil, setAttentionField, yesOrNo_map, checked_bind, checked_map]
  refine if_congr (by omega) (congrArg some (modFlag_congr ?_)) rfl
  simp

/-- AUTO clears a set flag, not forced, whose condition has ended (R200). -/
theorem clearMode_eq (r : FlagRec) (b : Bool) :
    (if (r.latch && !b && r.isSet && !r.forced && !r.cond) = true then { r with latch := b, isSet := false }
      else { r with latch := b }) =
    { r with latch := b, isSet := r.isSet && !(r.latch && !b && !r.forced && !r.cond) } := by
  obtain ⟨isSet, forced, enable, latch, cond⟩ := r
  cases isSet
  · simp
  · simp only [Bool.and_true, Bool.true_and]
    cases latch && !b && !forced && !cond <;> rfl

theorem writeTable_clearMode (i v : Nat) :
    writeTable .attention i [⟨0, 4, v⟩] s =
      if i ≤ 12 ∧ v ≤ 1 then
        some (s.modFlag i (fun r => { r with
          latch := decide (v = 1), isSet := r.isSet && !(r.latch && decide (v = 0) && !r.forced && !r.cond) }))
      else none := by
  simp only [writeTable, applyItems_cons, setAttentionField, yesOrNo_map, isCondition, decide_eq_true_eq]
  by_cases h : i ≤ 12 ∧ v ≤ 1
  · obtain ⟨hi, hv⟩ := h
    have hauto : decide (v = 0) = !decide (v = 1) := by interval_cases v <;> rfl
    rw [if_pos hi, if_pos ⟨Nat.zero_le v, hv⟩, if_pos ⟨hi, hv⟩, hauto]
    exact congrArg some (modFlag_congr (clearMode_eq _ _))
  · rw [if_neg h]
    by_cases hi : i ≤ 12
    · rw [if_pos hi, if_neg (by omega)]
      rfl
    · rw [if_neg hi]
      rfl

/-! ### The recorder table -/

theorem writeTable_comparator {i : Nat} (hi : i < 4) (en pat mask kinds rel v : Nat) :
    writeTable .recorderConfig i [⟨0, 0, en⟩, ⟨0, 1, pat⟩, ⟨0, 3, mask⟩, ⟨0, 5, kinds⟩, ⟨0, 6, rel⟩, ⟨0, 7, v⟩] s =
      if en ≤ 1 ∧ pat < 1024 ∧ mask ≤ 4095 ∧ kinds ≤ 3 then
        (codeIn [CmpRelation.any, .equal, .above, .below] rel).map (fun x =>
          let written : Comparator := ⟨decide (en = 1), pat, mask, BitVec.ofNat 2 kinds, x, signed32 v⟩
          { s with recorder := { s.recorder with
            table := { s.recorder.table with comparators := s.recorder.table.comparators.set i written } } })
      else none := by
  simp only [writeTable, hi, if_true, applyItems_cons, applyItems_nil, setComparatorField, yesOrNo_map, inRange_map,
    pointRef_map, checked_bind, ← ite_and]
  cases codeIn [CmpRelation.any, .equal, .above, .below] rel with
  | none => simp
  | some x =>
    simp only [Option.map_some, Option.bind_some, applyItems_nil, checked_map]
    exact if_congr (by omega) rfl rfl

theorem writeTable_recorder (k o n fz sr : Nat) :
    writeTable .recorderConfig 4 [⟨0, 0, k⟩, ⟨0, 1, o⟩, ⟨0, 2, n⟩, ⟨0, 3, fz⟩, ⟨0, 4, sr⟩] s =
      if k ≤ 127 ∧ o ≤ 7 ∧ n ≤ 255 ∧ fz ≤ 1 ∧ sr ≤ 15 then
        some { s with recorder := { s.recorder with table := { s.recorder.table with
          kindSel := BitVec.ofNat 7 k, outcomeSel := BitVec.ofNat 3 o, postCount := n, freezeStop := decide (fz = 1),
          sources := BitVec.ofNat 4 sr } } }
      else none := by
  simp only [writeTable, Nat.lt_irrefl, if_false, applyItems_cons, applyItems_nil, setRecorderField, yesOrNo_map,
    inRange_map, checked_bind, ← ite_and, checked_map]
  exact if_congr (by omega) rfl rfl

end

/-! ### Fields of the dispatch table -/

/-- A checked value: `y` where it is allowed, else a refusal. -/
def Checks {α : Type} (r : Option α) (ok : Prop) (y : α) : Prop := (ok → r = some y) ∧ (¬ok → r = none)

namespace Checks

theorem map {α β : Type} {r : Option α} {ok : Prop} {y : α} (h : Checks r ok y) (f : α → β) :
    Checks (r.map f) ok (f y) := by
  obtain ⟨hyes, hno⟩ := h
  exact ⟨fun hk => by rw [hyes hk]; rfl, fun hk => by rw [hno hk]; rfl⟩

theorem of_iff {α : Type} {r : Option α} {ok ok' : Prop} {y : α} (h : Checks r ok' y) (e : ok ↔ ok') : Checks r ok y :=
  ⟨fun hk => h.1 (e.mp hk), fun hk => h.2 (mt e.mpr hk)⟩

theorem inRange (lo hi v : Nat) : Checks (Machine.inRange lo hi v) (lo ≤ v ∧ v ≤ hi) v := ⟨fun h => if_pos h, fun h => if_neg h⟩

theorem upTo (hi v : Nat) : Checks (Machine.inRange 0 hi v) (v ≤ hi) v :=
  (inRange 0 hi v).of_iff (by omega)

theorem pointRef (v : Nat) : Checks (Machine.pointRef v) (v < 1024) v := ⟨fun h => if_pos h, fun h => if_neg h⟩

theorem optPointRef (v : Nat) :
    Checks (Machine.optPointRef v) (v < 1024 ∨ v = 65535) (if v = 65535 then none else some v) := by
  unfold Machine.optPointRef
  by_cases h : v = 65535
  · rw [if_pos h, if_pos h]
    exact ⟨fun _ => rfl, fun hn => absurd (.inr h) hn⟩
  · rw [if_neg h, if_neg h]
    exact (show Checks _ (v < 1024) _ from ⟨fun h => if_pos h, fun h => if_neg h⟩).of_iff (by omega)

theorem yesOrNo (v : Nat) : Checks (Machine.yesOrNo v) (v ≤ 1) (decide (v = 1)) := by
  match v with
  | 0 => exact ⟨fun _ => rfl, fun h => absurd (by decide) h⟩
  | 1 => exact ⟨fun _ => rfl, fun h => absurd (by decide) h⟩
  | n + 2 => exact ⟨fun h => by omega, fun _ => rfl⟩

theorem codeIn_two {α : Type} (a b : α) (v : Nat) : Checks (codeIn [a, b] v) (v ≤ 1) (if v = 0 then a else b) := by
  match v with
  | 0 => exact ⟨fun _ => rfl, fun h => absurd (by decide) h⟩
  | 1 => exact ⟨fun _ => rfl, fun h => absurd (by decide) h⟩
  | n + 2 => exact ⟨fun h => by omega, fun _ => rfl⟩

end Checks

/-- A WRITE of one field of the dispatch table, by what the field takes and what the table's owner makes of it. -/
theorem writeTable_dispatch {s : State} {g off v : Nat} {ok : Prop} {d e : DispatchUnit}
    (h : Checks (setDispatchItem s.dispatch ⟨g, off, v⟩) ok d) (he : writeDispatch d s = { s with dispatch := e }) :
    Checks (writeTable .dispatch 0 [⟨g, off, v⟩] s) ok { s with dispatch := e } := by
  rw [← he]
  refine Checks.map (f := fun d => writeDispatch d s) ?_
  rw [applyItems_cons]
  cases hx : setDispatchItem s.dispatch ⟨g, off, v⟩ with
  | none => rw [hx] at h; exact h
  | some x => rw [hx] at h; exact h

/-! ### The dispatch table as its owner takes it -/

section
variable {s : State}

/-- A required input as a WRITE leaves it (R129, R130). -/
theorem inputAfterWrite_eq {same : Prop} {r t : InputRec}
    (h : (same → t = r) ∧ (¬same → t = { last := none, state := .expired, timer := none })) {b : Bool}
    (hb : b = true ↔ ¬same) : inputAfterWrite b r = t := by
  obtain ⟨hkept, hfresh⟩ := h
  unfold inputAfterWrite
  split
  · next h => exact (hfresh (hb.mp h)).symm
  · next h => exact (hkept (not_not.mp (mt hb.mpr h))).symm

/-- Fields that name no point of an input or demand, nor the configured flag, start nothing afresh. -/
theorem writeDispatch_kept {d : DispatchUnit} (hc : d.cfg.configured = s.dispatch.cfg.configured)
    (hfa : d.cfg.fa = s.dispatch.cfg.fa) (hfb : d.cfg.fb = s.dispatch.cfg.fb) (htrip : d.cfg.trip = s.dispatch.cfg.trip)
    (hheat : d.cfg.heat = s.dispatch.cfg.heat) (hgrid : d.cfg.grid = s.dispatch.cfg.grid) :
    writeDispatch d s = { s with dispatch := d } := by
  simp [writeDispatch, inputAfterWrite, hc, hfa, hfb, htrip, hheat, hgrid]

theorem writeDispatch_fa {v : Nat} {r : InputRec} (h : (v = s.dispatch.cfg.fa → r = s.dispatch.fa) ∧
    (¬v = s.dispatch.cfg.fa → r = { last := none, state := .expired, timer := none })) :
    writeDispatch { s.dispatch with cfg := { s.dispatch.cfg with fa := v } } s =
      { s with dispatch := { s.dispatch with cfg := { s.dispatch.cfg with fa := v }, fa := r } } := by
  simp [writeDispatch, ← inputAfterWrite_eq h (b := decide (v ≠ s.dispatch.cfg.fa)) (by simp), inputAfterWrite]

theorem writeDispatch_fb {v : Nat} {r : InputRec} (h : (v = s.dispatch.cfg.fb → r = s.dispatch.fb) ∧
    (¬v = s.dispatch.cfg.fb → r = { last := none, state := .expired, timer := none })) :
    writeDispatch { s.dispatch with cfg := { s.dispatch.cfg with fb := v } } s =
      { s with dispatch := { s.dispatch with cfg := { s.dispatch.cfg with fb := v }, fb := r } } := by
  simp [writeDispatch, ← inputAfterWrite_eq h (b := decide (v ≠ s.dispatch.cfg.fb)) (by simp), inputAfterWrite]

theorem writeDispatch_trip {v : Nat} {r : InputRec} (h : (v = s.dispatch.cfg.trip → r = s.dispatch.trip) ∧
    (¬v = s.dispatch.cfg.trip → r = { last := none, state := .expired, timer := none })) :
    writeDispatch { s.dispatch with cfg := { s.dispatch.cfg with trip := v } } s =
      { s with dispatch := { s.dispatch with
        cfg := { s.dispatch.cfg with trip := v }, trip := r,
        tripSeen := if v = s.dispatch.cfg.trip then s.dispatch.tripSeen else none } } := by
  simp [writeDispatch, ← inputAfterWrite_eq h (b := decide (v ≠ s.dispatch.cfg.trip)) (by simp), inputAfterWrite]

theorem writeDispatch_heat (v : Nat) :
    writeDispatch { s.dispatch with cfg := { s.dispatch.cfg with heat := v } } s =
      { s with dispatch := { s.dispatch with
        cfg := { s.dispatch.cfg with heat := v }, heat := if v = s.dispatch.cfg.heat then s.dispatch.heat else none } } := by
  simp [writeDispatch, inputAfterWrite]

theorem writeDispatch_grid (v : Nat) :
    writeDispatch { s.dispatch with cfg := { s.dispatch.cfg with grid := v } } s =
      { s with dispatch := { s.dispatch with
        cfg := { s.dispatch.cfg with grid := v }, grid := if v = s.dispatch.cfg.grid then s.dispatch.grid else none } } := by
  simp [writeDispatch, inputAfterWrite]

/-- All three inputs start afresh when the table becomes configured (R129, R130). -/
theorem writeDispatch_configured {v : Nat} {fa fb trip : InputRec}
    (hfa : (¬(v = 1 ∧ s.dispatch.cfg.configured = false) → fa = s.dispatch.fa) ∧
      (¬¬(v = 1 ∧ s.dispatch.cfg.configured = false) → fa = { last := none, state := .expired, timer := none }))
    (hfb : (¬(v = 1 ∧ s.dispatch.cfg.configured = false) → fb = s.dispatch.fb) ∧
      (¬¬(v = 1 ∧ s.dispatch.cfg.configured = false) → fb = { last := none, state := .expired, timer := none }))
    (htrip : (¬(v = 1 ∧ s.dispatch.cfg.configured = false) → trip = s.dispatch.trip) ∧
      (¬¬(v = 1 ∧ s.dispatch.cfg.configured = false) → trip = { last := none, state := .expired, timer := none })) :
    writeDispatch { s.dispatch with cfg := { s.dispatch.cfg with configured := decide (v = 1) } } s =
      { s with dispatch := { s.dispatch with
        cfg := { s.dispatch.cfg with configured := decide (v = 1) }, fa := fa, fb := fb, trip := trip,
        tripSeen := if v = 1 ∧ s.dispatch.cfg.configured = false then none else s.dispatch.tripSeen } } := by
  have hb : (decide (v = 1) && !s.dispatch.cfg.configured) = true ↔ ¬¬(v = 1 ∧ s.dispatch.cfg.configured = false) := by
    simp
  simp [writeDispatch, ← inputAfterWrite_eq hfa hb, ← inputAfterWrite_eq hfb hb, ← inputAfterWrite_eq htrip hb]

end

/-- Settles O44, one lemma for each table, and one check for each field of the dispatch table. -/
theorem writeStoresSettings : Obligations.WriteStoresSettings := by
  intro s
  refine ⟨fun i b l _ _ => writeTable_window s i b l, writeTable_collector s, fun i v hi => ?_, fun h l => ⟨?_, ?_⟩,
    writeTable_querySettings s, fun i v _ => ⟨writeTable_enable s i v, writeTable_clearMode s i v⟩, ⟨?_, ?_⟩, ?_⟩
  · refine ⟨_, writeTable_level s i v, fun hv => ⟨fun r => ?_, setLevel_rest _ _ _⟩⟩
    rw [level_setLevel]
    refine if_congr (code_eq_iff hi r).symm ?_ rfl
    match v with
    | 0 => rfl
    | 1 => rfl
    | 2 => rfl
  · intro hbad
    rw [writeTable_upstream, if_neg hbad]
  · intro hlow hhigh hlt
    refine ⟨_, (writeTable_upstream s h l).trans (if_pos ⟨hlow, hhigh, hlt⟩), judgeWatermarks_fwd _, ?_⟩
    exact judgeWatermarks_beyondAttention _
  · intro i en pat mask kinds rel v hi x hx
    rw [writeTable_comparator s hi]
    rw [codeIn, hx]
  · exact writeTable_recorder s
  · intro d c o writes fresh
    have oper {off v : Nat} {ok : Prop} {y : DispatchOper}
        (h : Checks (setDispatchItem d ⟨2, off, v⟩) ok { d with oper := y }) :
        writes 2 off v ok { d with oper := y } := writeTable_dispatch h (writeDispatch_kept rfl rfl rfl rfl rfl rfl)
    have cfg {g off v : Nat} {ok : Prop} {y : DispatchCfg} {e : DispatchUnit}
        (h : Checks (setDispatchField c g off v) ok y)
        (hitem : setDispatchItem d ⟨g, off, v⟩ = (setDispatchField c g off v).map (fun y => { d with cfg := y }))
        (he : writeDispatch { d with cfg := y } s = { s with dispatch := e }) : writes g off v ok e :=
      writeTable_dispatch (hitem ▸ h.map _) he
    refine ⟨fun v => ⟨oper (((Checks.codeIn_two _ _ v).map _).map _), oper (((Checks.upTo 100 v).map _).map _),
      oper (((Checks.inRange 1 10000 v).map _).map _), oper (((Checks.inRange 200 10000 v).map _).map _),
      oper (((Checks.inRange 1000 60000 v).map _).map _), fun k hk => ?_, fun k hk => ?_,
      fun r hr => cfg ((Checks.pointRef v).map _) rfl (writeDispatch_fa hr),
      fun r hr => cfg ((Checks.pointRef v).map _) rfl (writeDispatch_fb hr),
      fun r hr => cfg ((Checks.pointRef v).map _) rfl (writeDispatch_trip hr),
      cfg ((Checks.pointRef v).map _) rfl (writeDispatch_heat v),
      cfg ((Checks.pointRef v).map _) rfl (writeDispatch_grid v),
      ⟨cfg ((Checks.optPointRef v).map _) rfl (writeDispatch_kept rfl rfl rfl rfl rfl rfl),
        cfg ((Checks.optPointRef v).map _) rfl (writeDispatch_kept rfl rfl rfl rfl rfl rfl),
        cfg ((Checks.optPointRef v).map _) rfl (writeDispatch_kept rfl rfl rfl rfl rfl rfl)⟩,
      cfg ((Checks.upTo 10000000 v).map _) rfl (writeDispatch_kept rfl rfl rfl rfl rfl rfl),
      cfg ((Checks.upTo 10000000 v).map _) rfl (writeDispatch_kept rfl rfl rfl rfl rfl rfl),
      cfg ((Checks.upTo 10000000 v).map _) rfl (writeDispatch_kept rfl rfl rfl rfl rfl rfl),
      cfg ((Checks.inRange 1 2000 v).map _) rfl (writeDispatch_kept rfl rfl rfl rfl rfl rfl),
      cfg ((Checks.inRange 1 1000 v).map _) rfl (writeDispatch_kept rfl rfl rfl rfl rfl rfl),
      cfg ((Checks.inRange 1 1000 v).map _) rfl (writeDispatch_kept rfl rfl rfl rfl rfl rfl),
      fun line l g off h => ?_⟩, fun v fa fb tr hfa hfb htr =>
        cfg ((Checks.yesOrNo v).map _) rfl (writeDispatch_configured hfa hfb htr)⟩
    · interval_cases k <;> exact oper (((Checks.upTo 1000000 v).map _).map _)
    · interval_cases k <;>
        exact cfg ((Checks.pointRef v).map _) rfl (writeDispatch_kept rfl rfl rfl rfl rfl rfl)
    · obtain ⟨rfl, rfl, rfl, rfl⟩ | ⟨rfl, rfl, rfl, rfl⟩ := h
      all_goals exact
        ⟨cfg (((Checks.upTo 10000000 v).map _).map _) rfl (writeDispatch_kept rfl rfl rfl rfl rfl rfl),
          cfg (((Checks.upTo 10000000 v).map _).map _) rfl (writeDispatch_kept rfl rfl rfl rfl rfl rfl),
          cfg (((Checks.inRange 50 100 v).map _).map _) rfl (writeDispatch_kept rfl rfl rfl rfl rfl rfl),
          cfg (((Checks.upTo 10000000 v).map _).map _) rfl (writeDispatch_kept rfl rfl rfl rfl rfl rfl)⟩

end Sys2Proof.Machine
end

section
namespace Sys2Proof.Machine
open Sys2Proof

/-! ### Lists with one entry for each key -/

/-- Putting an entry in the place of the one with its key leaves the keys as they are. -/
theorem keys_replaced {α : Type} (key : α → Nat) (a : α) (l : List α) :
    (l.map (fun x => if key x = key a then a else x)).map key = l.map key := by
  rw [List.map_map]
  refine List.map_congr_left fun x _ => ?_
  simp only [Function.comp_apply]
  split
  · next h => exact h.symm
  · rfl

/-- An entry with a key that the list does not hold takes the last place. -/
theorem nodup_keys_append {α : Type} {key : α → Nat} {a : α} {l : List α} (h : (l.map key).Nodup)
    (hnew : ¬l.any (fun x => decide (key x = key a)) = true) : ((l ++ [a]).map key).Nodup := by
  simp only [List.any_eq_true, decide_eq_true_eq, not_exists, not_and] at hnew
  rw [List.map_append, List.nodup_append]
  refine ⟨h, List.nodup_singleton _, ?_⟩
  simp only [List.mem_map, List.mem_singleton, List.map_cons, List.map_nil]
  rintro _ ⟨x, hx, rfl⟩ _ rfl
  exact hnew x hx

/-! ### Bounds block by block

`Bounded` cut into the blocks of the state, with the room of the reply outbox and of the order queue as parameters: a
command that places a reply or an order needs the place for it free before it. -/

/-- The bounds of the forwarding unit, with at most `r` replies and `o` order entries. -/
structure Forwarding.Fits (r o : Nat) (f : Forwarding) : Prop where
  windows  : f.windows.length = 4
  upstream : f.up.length ≤ Config.upstreamCap
  distinct : (f.up.map (·.point)).Nodup
  upPass   : f.upPass.length ≤ Config.upPassCap
  replies  : f.outbox.length ≤ r
  orders   : f.orders.length ≤ o

/-- The bounds of the output guard. -/
structure Guard.Fits (g : Guard) : Prop where
  recs    : g.recs.length = Config.guards
  trips   : (g.trips.map (·.record)).Nodup
  steps   : (g.steps.map (·.record)).Nodup
  stepsOf : ∀ p ∈ g.steps, p.record < Config.guards

/-- The bounds of a channel: its rings, its sums and its configuration fields. -/
structure Channel.Fits (c : Channel) : Prop where
  half   : c.half.length ≤ Config.halfRingCap
  days   : c.days.length ≤ Config.dayRingCap
  summed : c.run.summed
  ranges : c.cfg.inRanges

/-- The bounds of the emission unit. -/
structure Emission.Fits (e : Emission) : Prop where
  length   : e.channels.length = Config.channels
  channels : ∀ c ∈ e.channels, c.Fits

/-- The bounds of the dispatch slots. -/
structure SlotsFit (l : List PendingOrder) : Prop where
  single  : (l.map (·.output)).Nodup
  outputs : ∀ o ∈ l, o.output < 5

/-- The bounds of the attention unit. -/
structure Attention.Fits (a : Attention) : Prop where
  flags   : a.flags.length = flagCount
  notices : a.outbox.length ≤ Config.noticeCap

/-- The bounds of every block, with at most `r` replies in the reply outbox and `o` entries in the order queue. -/
structure Fits (r o : Nat) (s : State) : Prop where
  points    : s.points.length = Config.points
  fwd       : s.fwd.Fits r o
  queries   : s.query.entries.length = 8
  guard     : s.guard.Fits
  emission  : s.emission.Fits
  slots     : SlotsFit s.dispatch.slots
  buffer    : s.recorder.buffer.length ≤ Config.recorderCap
  sBuffer   : s.sPort.rx.length ≤ Config.rxCap
  fBuffer   : s.fPort.rx.length ≤ Config.rxCap
  attention : s.attention.Fits

theorem fits_of_bounded {s : State} (h : Bounded s) : Fits Config.outboxCap Config.orderQueueCap s where
  points := h.points
  fwd := ⟨h.windows, h.upstream, h.distinct, h.upPass, h.replies, h.orders⟩
  queries := h.queries
  guard := ⟨h.guards, h.trips, h.steps, h.stepsOf⟩
  emission := ⟨h.channels, fun c hc => ⟨(h.rings c hc).1, (h.rings c hc).2, (h.sums c hc).1, (h.sums c hc).2⟩⟩
  slots := ⟨h.slots, h.slotsOf⟩
  buffer := h.buffer
  sBuffer := h.sBuffer
  fBuffer := h.fBuffer
  attention := ⟨h.flags, h.notices⟩

theorem bounded_of_fits {s : State} (h : Fits Config.outboxCap Config.orderQueueCap s) : Bounded s where
  points := h.points
  guards := h.guard.recs
  channels := h.emission.length
  flags := h.attention.flags
  queries := h.queries
  windows := h.fwd.windows
  upstream := h.fwd.upstream
  distinct := h.fwd.distinct
  upPass := h.fwd.upPass
  replies := h.fwd.replies
  orders := h.fwd.orders
  trips := h.guard.trips
  steps := h.guard.steps
  stepsOf := h.guard.stepsOf
  slots := h.slots.single
  slotsOf := h.slots.outputs
  rings c hc := ⟨(h.emission.channels c hc).half, (h.emission.channels c hc).days⟩
  sums c hc := ⟨(h.emission.channels c hc).summed, (h.emission.channels c hc).ranges⟩
  notices := h.attention.notices
  buffer := h.buffer
  sBuffer := h.sBuffer
  fBuffer := h.fBuffer

section
variable {r o : Nat} {s : State}

theorem Forwarding.Fits.mono {f : Forwarding} {r' o' : Nat} (h : f.Fits r o) (hr : r ≤ r') (ho : o ≤ o') :
    f.Fits r' o' :=
  { h with replies := h.replies.trans hr, orders := h.orders.trans ho }

theorem Fits.mono {r' o' : Nat} (h : Fits r o s) (hr : r ≤ r') (ho : o ≤ o') : Fits r' o' s :=
  { h with fwd := h.fwd.mono hr ho }

theorem powerOn_inRanges : ChannelCfg.powerOn.inRanges :=
  ⟨by decide, by decide, by decide, by decide, by decide⟩

theorem powerOn_channelFits : Channel.powerOn.Fits :=
  ⟨by decide, by decide, .inl ⟨rfl, rfl, rfl⟩, powerOn_inRanges⟩

theorem channel_fits (h : Fits r o s) (c : Nat) : (s.channel c).Fits := by
  rw [State.channel, List.getD_eq_getElem?_getD]
  cases hc : s.emission.channels[c]? with
  | none => exact powerOn_channelFits
  | some ch => exact h.emission.channels ch (List.mem_of_getElem? hc)

/-! ### Records by index, counters and time -/

theorem modPoint_fits (p : Nat) (f : Point → Point) (h : Fits r o s) : Fits r o (s.modPoint p f) :=
  { h with points := (List.length_modify ..).trans h.points }

theorem modGuard_fits (i : Nat) (f : GuardRec → GuardRec) (h : Fits r o s) : Fits r o (s.modGuard i f) :=
  { h with guard := { h.guard with recs := (List.length_modify ..).trans h.guard.recs } }

theorem modQuery_fits (i : Nat) (f : QueryEntry → QueryEntry) (h : Fits r o s) : Fits r o (s.modQuery i f) :=
  { h with queries := (List.length_modify ..).trans h.queries }

theorem modLine_fits (l : LineId) (f : LineRec → LineRec) (h : Fits r o s) : Fits r o (s.modLine l f) := by
  cases l
  · exact { h with emission := ⟨h.emission.length, h.emission.channels⟩ }
  · exact { h with emission := ⟨h.emission.length, h.emission.channels⟩ }

theorem modFlag_fits (i : Nat) (f : FlagRec → FlagRec) (h : Fits r o s) : Fits r o (s.modFlag i f) :=
  { h with attention := { h.attention with flags := (List.length_modify ..).trans h.attention.flags } }

/-- A channel may take what keeps a channel's bounds. -/
theorem modChannel_fits {c : Nat} {f : Channel → Channel} (hf : ∀ ch : Channel, ch.Fits → (f ch).Fits)
    (h : Fits r o s) : Fits r o (s.modChannel c f) := by
  refine { h with emission := ⟨(List.length_modify ..).trans h.emission.length, fun ch hch => ?_⟩ }
  obtain ⟨i, hi, rfl⟩ := List.getElem_of_mem hch
  simp only [State.modChannel, List.getElem_modify]
  split
  · exact hf _ (h.emission.channels _ (List.getElem_mem _))
  · exact h.emission.channels _ (List.getElem_mem _)

theorem mapChannels_fits {f : Channel → Channel} (hf : ∀ ch : Channel, ch.Fits → (f ch).Fits) (h : Fits r o s) :
    Fits r o { s with emission := { s.emission with channels := s.emission.channels.map f } } := by
  refine { h with emission := ⟨(List.length_map ..).trans h.emission.length, fun ch hch => ?_⟩ }
  obtain ⟨ch', hch', rfl⟩ := List.mem_map.mp hch
  exact hf ch' (h.emission.channels ch' hch')

/-- A port may take what leaves no more than 16 frames in its receive buffer. -/
theorem modPort_fits {p : Port} {f : PortRec → PortRec}
    (hf : (s.port p).rx.length ≤ Config.rxCap → (f (s.port p)).rx.length ≤ Config.rxCap) (h : Fits r o s) :
    Fits r o (s.modPort p f) := by
  cases p
  · exact { h with sBuffer := hf h.sBuffer }
  · exact { h with fBuffer := hf h.fBuffer }

theorem countFwd_fits (f : FwdCounters → FwdCounters) (h : Fits r o s) : Fits r o (s.countFwd f) :=
  { h with fwd := { h.fwd with } }

theorem countQuery_fits (f : QueryCounters → QueryCounters) (h : Fits r o s) : Fits r o (s.countQuery f) := { h with }

theorem countPort_fits (p : Port) (f : PortCounters → PortCounters) (h : Fits r o s) : Fits r o (s.countPort p f) :=
  modPort_fits id h

/-- The dispatch unit may change in all but its slots. -/
theorem dispatch_fits {d : DispatchUnit} (hd : d.slots = s.dispatch.slots) (h : Fits r o s) :
    Fits r o { s with dispatch := d } :=
  { h with slots := hd ▸ h.slots }

theorem foldl_fits {α : Type} {f : State → α → State} (hf : ∀ t a, Fits r o t → Fits r o (f t a)) (l : List α)
    (h : Fits r o s) : Fits r o (l.foldl f s) := by
  induction l generalizing s with
  | nil => exact h
  | cons a l ih => exact ih (hf s a h)

/-! ### Replies -/

/-- A reply takes one place of the reply outbox (R36). -/
theorem placeReply_fits (f : Frame) (item : SentItem) (h : Fits r o s) : Fits (r + 1) o (placeReply f item s) :=
  { h with fwd := { h.fwd with replies := (List.length_append ..).trans_le (Nat.succ_le_succ h.fwd.replies) } }

theorem replySetup_fits (f : Frame) (code : Status) (h : Fits r o s) : Fits (r + 1) o (replySetup f code s) :=
  placeReply_fits _ _ h

/-! ### Attention -/

theorem placeNotice_fits (i : Nat) (h : Fits r o s) : Fits r o (placeNotice i s) := by
  unfold placeNotice
  split
  · exact h
  · split
    · exact { h with attention := ⟨h.attention.flags, h.attention.notices⟩ }
    · next hroom =>
      refine { h with attention := ⟨h.attention.flags, ?_⟩ }
      simp only [List.length_append, List.length_singleton]
      omega

theorem riseAt_fits (i : Nat) (h : Fits r o s) : Fits r o (riseAt i s) := by
  unfold riseAt
  simp only
  split
  · exact h
  · split
    · exact placeNotice_fits i (modFlag_fits i _ h)
    · exact modFlag_fits i _ h

theorem raiseFlag_fits (fl : Flag) (h : Fits r o s) : Fits r o (raiseFlag fl s) := riseAt_fits _ h

theorem setCondition_fits (fl : Flag) (b : Bool) (h : Fits r o s) : Fits r o (setCondition fl b s) := by
  unfold setCondition
  simp only
  split
  · exact h
  · split
    · exact riseAt_fits _ (modFlag_fits _ _ h)
    · split
      · exact modFlag_fits _ _ h
      · exact modFlag_fits _ _ (modFlag_fits _ _ h)

/-! ### Recorder -/

/-- The recorder may change in all but its buffer. -/
theorem recorder_fits {rec : Recorder} (hb : rec.buffer = s.recorder.buffer) (h : Fits r o s) :
    Fits r o { s with recorder := rec } :=
  { h with buffer := hb ▸ h.buffer }

theorem freezeRecorder_fits (h : Fits r o s) : Fits r o (freezeRecorder s) := setCondition_fits _ _ (recorder_fits rfl h)

/-- The oldest of 256 records makes room for the newest (R153). -/
theorem pushRecord_fits (e : RecEntry) (h : Fits r o s) : Fits r o (pushRecord e s) :=
  { h with buffer := List.length_take_le _ _ }

theorem enterRecord_fits (e : RecEntry) (h : Fits r o s) : Fits r o (enterRecord e s) := by
  unfold enterRecord
  simp only
  split
  · exact h
  · exact h
  · exact pushRecord_fits e h
  · split
    · exact freezeRecorder_fits (pushRecord_fits e h)
    · exact recorder_fits rfl (pushRecord_fits e h)

theorem enterTrigger_fits (e : RecEntry) (h : Fits r o s) : Fits r o (enterTrigger e s) := by
  unfold enterTrigger
  simp only
  split
  · exact h
  · exact recorder_fits rfl h
  · split
    · exact freezeRecorder_fits (recorder_fits rfl (pushRecord_fits e h))
    · exact recorder_fits rfl (pushRecord_fits e h)
  · exact enterRecord_fits e (recorder_fits rfl h)

theorem offerFrame_fits (p : Port) (f : Frame) (h : Fits r o s) : Fits r o (offerFrame p f s) := by
  rw [offerFrame_eq]
  split
  · exact enterTrigger_fits _ h
  · split
    · exact enterRecord_fits _ h
    · exact h

theorem recordOutcome_fits (org : RecOrigin) (out : RecOutcome) (src dest p : Nat) (v : Value) (h : Fits r o s) :
    Fits r o (recordOutcome org out src dest p v s) := by
  unfold recordOutcome
  split
  · exact enterRecord_fits _ h
  · exact h

theorem recordBusy_fits (f : Frame) (h : Fits r o s) : Fits r o (recordBusy f s) := by
  unfold recordBusy
  split
  · exact enterRecord_fits _ h
  · exact h

theorem markerTrigger_fits (p : Option Nat) (v : Option Value) (m : TriggerMark) (h : Fits r o s) :
    Fits r o (markerTrigger p v m s) := by
  unfold markerTrigger
  split
  · exact enterTrigger_fits _ h
  · exact h

theorem recordTripSafe_fits (p : Nat) (v : Value) (h : Fits r o s) : Fits r o (recordTripSafe p v s) := by
  unfold recordTripSafe
  split
  · exact enterTrigger_fits _ h
  · exact recordOutcome_fits _ _ _ _ _ _ h

/-! ### Upstream report queue -/

theorem setThinning_fits (b : Bool) (h : Fits r o s) : Fits r o (setThinning b s) :=
  setCondition_fits _ _ { h with fwd := { h.fwd with } }

theorem handUpstream_fits (e : UpEntry) (h : Fits r o s) : Fits r o (handUpstream e s) := by
  unfold handUpstream
  simp only
  split
  · exact { h with fwd := { h.fwd with
      upstream := (List.length_map ..).trans_le h.fwd.upstream
      distinct := (keys_replaced UpEntry.point e _).symm ▸ h.fwd.distinct } }
  · next hnew =>
    split
    · exact countFwd_fits _ h
    · split
      · exact raiseFlag_fits _ (countFwd_fits _ h)
      · next hroom =>
        have hplaced : Fits r o { s with fwd := { s.fwd with up := s.fwd.up ++ [e] } } := by
          refine { h with fwd := { h.fwd with upstream := ?_, distinct := nodup_keys_append h.fwd.distinct hnew } }
          simp only [List.length_append, List.length_singleton]
          omega
        split
        · exact setThinning_fits true hplaced
        · exact hplaced

theorem judgeWatermarks_fits (h : Fits r o s) : Fits r o (judgeWatermarks s) := by
  unfold judgeWatermarks
  split
  · exact setThinning_fits _ h
  · split
    · exact setThinning_fits _ h
    · exact h

/-! ### Query table -/

theorem answerExpires_fits (i : Nat) (h : Fits r o s) : Fits r o (answerExpires i s) := by
  unfold answerExpires
  simp only
  split
  · exact countQuery_fits _ (modQuery_fits _ _ h)
  · exact raiseFlag_fits _ (countQuery_fits _ (modQuery_fits _ _ h))

theorem discardExpires_fits (i : Nat) (h : Fits r o s) : Fits r o (discardExpires i s) :=
  raiseFlag_fits _ (countQuery_fits _ (modQuery_fits _ _ h))

theorem queryCompletes_fits (i gen : Nat) (h : Fits r o s) : Fits r o (queryCompletes i gen s) := by
  unfold queryCompletes
  split
  · exact modQuery_fits _ _ h
  · exact h

theorem queryAborted_fits (i gen : Nat) (h : Fits r o s) : Fits r o (queryAborted i gen s) := by
  unfold queryAborted
  split
  · exact modQuery_fits _ _ h
  · exact h

theorem takeAnswer_fits (f : Frame) (h : Fits r o s) : Fits r o (takeAnswer f s) := by
  unfold takeAnswer
  simp only
  split
  · split
    · exact modQuery_fits _ _ h
    · exact modQuery_fits _ _ h
    · exact countQuery_fits _ h
  · exact countQuery_fits _ h

theorem replyQuery_fits (f : Frame) (code : Status) (h : Fits r o s) : Fits (r + 1) o (replyQuery f code s) :=
  placeReply_fits _ _ h

/-- A QUERY brings one reply in every case (R45). -/
theorem takeQuery_fits (f : Frame) (h : Fits r o s) : Fits (r + 1) o (takeQuery f s) := by
  unfold takeQuery
  split
  · simp only
    split
    · exact replyQuery_fits _ _ h
    · exact replyQuery_fits _ _ h
    · exact modQuery_fits _ _ (placeReply_fits _ _ h)
  · split
    · exact replyQuery_fits _ _ { modQuery_fits _ _ h with fwd := { h.fwd with } }
    · exact replyQuery_fits _ _ (countQuery_fits _ h)

/-! ### The transmitter-free events -/

/-- The transmitter-free events take from queues and outboxes and add nothing (R35, R59). -/
theorem fits_of_closes {t : State} (hc : Closes s t) (h : Fits r o s) : Fits r o t where
  points := (congrArg (·.points.length) hc.kept : _).trans h.points
  fwd := {
    windows := (congrArg (·.fwd.windows.length) hc.kept : _).trans h.fwd.windows
    upstream := hc.upstream.length_le.trans h.fwd.upstream
    distinct := h.fwd.distinct.sublist (hc.upstream.sublist.map _)
    upPass := hc.upPass.length_le.trans h.fwd.upPass
    replies := hc.replies.length_le.trans h.fwd.replies
    orders := hc.orders.length_le.trans h.fwd.orders }
  queries := by
    have hq := congrArg (·.query.entries.length) hc.kept
    simp only [standing, List.length_map] at hq
    exact hq.trans h.queries
  guard := {
    recs := (congrArg (·.guard.recs.length) hc.kept : _).trans h.guard.recs
    trips := h.guard.trips.sublist (hc.trips.sublist.map _)
    steps := h.guard.steps.sublist (hc.steps.sublist.map _)
    stepsOf := fun p hp => h.guard.stepsOf p (hc.steps.subset hp) }
  emission := by
    have he := congrArg State.emission hc.kept
    exact (he : t.emission = s.emission) ▸ h.emission
  slots := ⟨h.slots.single.sublist (hc.slots.sublist.map _), fun x hx => h.slots.outputs x (hc.slots.subset hx)⟩
  buffer := (congrArg (·.recorder.buffer.length) hc.kept : _).trans_le h.buffer
  sBuffer := (congrArg (·.sPort.rx.length) hc.kept : _).trans_le h.sBuffer
  fBuffer := (congrArg (·.fPort.rx.length) hc.kept : _).trans_le h.fBuffer
  attention := {
    flags := by
      have hf := congrArg (·.attention.flags.length) hc.kept
      simp only [standing, List.length_set] at hf
      exact hf.trans h.attention.flags
    notices := hc.notices.length_le.trans h.attention.notices }

theorem serve_fits (h : Fits r o s) : Fits r o (serve s) := fits_of_closes (serve_closes s) h

theorem sendFlow_fits (p : Port) (h : Fits r o s) : Fits r o (sendFlow p s) := fits_of_closes (sendFlow_closes p s) h

end

end Sys2Proof.Machine
end

section
namespace Sys2Proof.Machine
open Sys2Proof

section
variable {r o : Nat} {s : State}

/-! ### Withdrawals -/

theorem followLatched_fits (h : Fits r o s) : Fits r o (followLatched s) := setCondition_fits _ _ h

theorem withdrawStep_fits (i : Nat) (h : Fits r o s) : Fits r o (withdrawStep i s) := by
  unfold withdrawStep
  split
  · exact h
  · exact { h with guard := { h.guard with
      recs := (List.length_modify ..).trans h.guard.recs
      steps := h.guard.steps.sublist (List.filter_sublist.map _)
      stepsOf := fun p hp => h.guard.stepsOf p (List.mem_of_mem_filter hp) } }

theorem withdrawSlot_fits (k : Nat) (h : Fits r o s) : Fits r o (withdrawSlot k s) := by
  unfold withdrawSlot
  split
  · exact { h with slots := ⟨h.slots.single.sublist (List.filter_sublist.map _),
      fun x hx => h.slots.outputs x (List.mem_of_mem_filter hx)⟩ }
  · exact h

theorem filterOrders_fits (p : QueueEntry → Bool) (h : Fits r o s) :
    Fits r o { s with fwd := { s.fwd with orders := s.fwd.orders.filter p } } :=
  { h with fwd := { h.fwd with orders := (List.length_filter_le ..).trans h.fwd.orders } }

theorem withdrawOrders_fits (i : Nat) (h : Fits r o s) : Fits r o (withdrawOrders i s) :=
  modGuard_fits _ _ (withdrawStep_fits _
    (foldl_fits (fun _ k => withdrawSlot_fits k) _ (filterOrders_fits _ h)))

/-! ### Issues -/

theorem issue_fits (i : Nat) (v : Value) (h : Fits r o s) : Fits r o (issue i v s) := modGuard_fits _ _ h

/-- One step waits for each record, and only for records that there are (R64, R81). -/
theorem writeStep_fits {p : PendingStep} (hp : p.record < Config.guards) (h : Fits r o s) :
    Fits r o (writeStep p s) := by
  unfold writeStep
  split
  · refine { h with guard := { h.guard with
      steps := (keys_replaced PendingStep.record p _).symm ▸ h.guard.steps
      stepsOf := fun q hq => ?_ } }
    obtain ⟨q', hq', rfl⟩ := List.mem_map.mp hq
    split
    · exact hp
    · exact h.guard.stepsOf q' hq'
  · next hnew =>
    refine { h with guard := { h.guard with
      steps := nodup_keys_append h.guard.steps hnew
      stepsOf := fun q hq => ?_ } }
    obtain hq | hq := List.mem_append.mp hq
    · exact h.guard.stepsOf q hq
    · exact List.mem_singleton.mp hq ▸ hp

/-- One order waits for each of the five outputs (R63, R143). -/
theorem writeSlot_fits {x : PendingOrder} (hx : x.output < 5) (h : Fits r o s) : Fits r o (writeSlot x s) := by
  unfold writeSlot
  split
  · refine { h with slots := ⟨(keys_replaced PendingOrder.output x _).symm ▸ h.slots.single, fun q hq => ?_⟩ }
    obtain ⟨q', hq', rfl⟩ := List.mem_map.mp hq
    split
    · exact hx
    · exact h.slots.outputs q' hq'
  · next hnew =>
    refine { h with slots := ⟨nodup_keys_append h.slots.single hnew, fun q hq => ?_⟩ }
    obtain hq | hq := List.mem_append.mp hq
    · exact h.slots.outputs q hq
    · exact List.mem_singleton.mp hq ▸ hx

/-! ### Trips -/

/-- The trip queue holds one order for each record (R76). -/
theorem addTrip_fits {t : TripOrder} (hnew : ¬s.guard.trips.any (fun u => decide (u.record = t.record)) = true)
    (h : Fits r o s) : Fits r o { s with guard := { s.guard with trips := s.guard.trips ++ [t] } } :=
  { h with guard := { h.guard with trips := nodup_keys_append h.guard.trips hnew } }

theorem enterTripOrder_fits (i : Nat) (h : Fits r o s) : Fits r o (enterTripOrder i s) := by
  unfold enterTripOrder
  split
  · exact h
  · next hnew => exact addTrip_fits (t := ⟨i, _, _⟩) hnew h

theorem reenterTrip_fits (t : TripOrder) (h : Fits r o s) : Fits r o (reenterTrip t s) := by
  unfold reenterTrip
  simp only
  split
  · next hin => exact addTrip_fits (by rw [hin.2.2]; decide) h
  · exact h

theorem tripOutput_fits (i : Nat) (h : Fits r o s) : Fits r o (tripOutput i s) := by
  have hserved := serve_fits (withdrawOrders_fits i h)
  unfold tripOutput
  simp only
  generalize serve (withdrawOrders i s) = u at hserved ⊢
  apply serve_fits
  split
  · exact recordTripSafe_fits _ _ (raiseFlag_fits _ (followLatched_fits (modGuard_fits _ _
      (issue_fits _ _ (modGuard_fits _ _ (enterTripOrder_fits i hserved))))))
  · exact markerTrigger_fits _ _ _ (raiseFlag_fits _ (followLatched_fits (modGuard_fits _ _
      (modGuard_fits _ _ hserved))))

theorem interlockEnds_fits (i : Nat) (h : Fits r o s) : Fits r o (interlockEnds i s) :=
  followLatched_fits (modGuard_fits _ _ h)

theorem wakeOutput_fits (p i : Nat) (h : Fits r o s) : Fits r o (wakeOutput p i s) := by
  unfold wakeOutput
  simp only
  split
  · split
    · exact tripOutput_fits i (modGuard_fits _ _ h)
    · split
      · exact interlockEnds_fits i (modGuard_fits _ _ h)
      · exact modGuard_fits _ _ h
  · exact h

theorem wakeGuard_fits (p : Nat) (h : Fits r o s) : Fits r o (wakeGuard p s) := by
  unfold wakeGuard
  split
  · exact h
  · exact foldl_fits (fun _ i => wakeOutput_fits p i) _ h

/-! ### Orders for a guarded output -/

/-- How many places of the order queue an order may take: a supervisory one takes one, a dispatch one has its slot
(R83). -/
def OrderOrigin.places : OrderOrigin → Nat
  | .supervisory _ _ => 1
  | .dispatch _ _ => 0

/-- An order from a dispatch output comes from one of the five. -/
def OrderOrigin.outputFits : OrderOrigin → Prop
  | .supervisory _ _ => True
  | .dispatch k _ => k < 5

theorem recordDecision_fits (org : OrderOrigin) (out : RecOutcome) (p : Nat) (v : Value) (h : Fits r o s) :
    Fits r o (recordDecision org out p v s) := by
  unfold recordDecision
  split <;> exact recordOutcome_fits _ _ _ _ _ _ h

theorem placeOrder_fits {org : OrderOrigin} (horg : org.outputFits) (p : Nat) (v : Value) (h : Fits r o s) :
    Fits r (o + org.places) (placeOrder org p v s) := by
  cases org with
  | supervisory dest src =>
    exact { h with fwd := { h.fwd with
      orders := (List.length_append ..).trans_le (Nat.succ_le_succ h.fwd.orders) } }
  | dispatch k urgent => exact writeSlot_fits horg h

theorem judgeOrder_fits {org : OrderOrigin} (horg : org.outputFits) (i : Nat) (v : Value) (h : Fits r o s) :
    Fits r (o + org.places) (judgeOrder org i v s) := by
  unfold judgeOrder
  simp only
  split
  · exact recordDecision_fits _ _ _ _ (issue_fits _ _ (placeOrder_fits horg _ _ (modGuard_fits _ _ h)))
  · split
    · exact recordDecision_fits _ _ _ _ (issue_fits _ _ (placeOrder_fits horg _ _ (modGuard_fits _ _ h)))
    · exact recordDecision_fits _ _ _ _ (modGuard_fits _ _ (modGuard_fits _ _ (h.mono le_rfl (Nat.le_add_right ..))))

theorem guardOrder_fits {org : OrderOrigin} (horg : org.outputFits) (i : Nat) (v : Value) (h : Fits r o s) :
    Fits r (o + org.places) (guardOrder org i v s).2 := by
  have hstep := withdrawStep_fits i h
  have hroom := hstep.mono le_rfl (Nat.le_add_right o org.places)
  unfold guardOrder
  simp only
  generalize withdrawStep i s = u at hstep hroom ⊢
  split
  · exact judgeOrder_fits horg i v hstep
  · exact recordDecision_fits _ _ _ _ (modGuard_fits _ _ hroom)
  · apply recordDecision_fits
    split
    · exact raiseFlag_fits _ (modGuard_fits _ _ hroom)
    · exact modGuard_fits _ _ hroom
  · exact recordDecision_fits _ _ _ _ (modGuard_fits _ _ hroom)

/-! ### Ramp timer and RESTRICT entry -/

/-- A configured record is one of the 96. -/
theorem guard_lt_of_configured (h : Fits r o s) {i : Nat} (hc : (s.guardRec i).configured = true) : i < Config.guards :=
  (lt_guards_of_configured hc).trans_eq h.guard.recs

theorem rampExpires_fits (i : Nat) (h : Fits r o s) : Fits r o (rampExpires i s) := by
  unfold rampExpires
  simp only
  split
  · split
    · next hc =>
      have hi := guard_lt_of_configured h hc.1
      exact recordOutcome_fits _ _ _ _ _ _ (issue_fits _ _ (writeStep_fits hi (modGuard_fits _ _ h)))
    · exact modGuard_fits _ _ h
  · exact modGuard_fits _ _ h

/-- What waits for an output changes its value in its place (R85). -/
theorem restrictWaiting_fits (i : Nat) (h : Fits r o s) : Fits r o (restrictWaiting i s) := by
  have hslot (outs : List Nat) (rh : Value) : ∀ x : PendingOrder,
      (if x.output ∈ outs ∧ rh < x.value then { x with value := rh } else x).output = x.output := by
    intro x; split <;> rfl
  have hstep (rh : Value) : ∀ p : PendingStep,
      (if p.record = i ∧ rh < p.value then { p with value := rh } else p).record = p.record := by
    intro p; split <;> rfl
  unfold restrictWaiting
  refine { h with
    fwd := { h.fwd with orders := (List.length_map ..).trans_le h.fwd.orders }
    guard := { h.guard with
      recs := (List.length_modify ..).trans h.guard.recs
      steps := ?_
      stepsOf := fun p hp => ?_ }
    slots := ⟨?_, fun x hx => ?_⟩ }
  · simp only [List.map_map, Function.comp_def, hstep]
    exact h.guard.steps
  · obtain ⟨q, hq, rfl⟩ := List.mem_map.mp hp
    rw [hstep]
    exact h.guard.stepsOf q hq
  · simp only [List.map_map, Function.comp_def, hslot]
    exact h.slots.single
  · obtain ⟨q, hq, rfl⟩ := List.mem_map.mp hx
    rw [hslot]
    exact h.slots.outputs q hq

theorem restrictOutput_fits (l : LineId) (i : Nat) (h : Fits r o s) : Fits r o (restrictOutput l i s) := by
  unfold restrictOutput
  simp only
  split
  · next hc =>
    split
    · exact restrictWaiting_fits i h
    · split
      · have hi := guard_lt_of_configured h hc.1
        exact serve_fits (recordOutcome_fits _ _ _ _ _ _ (issue_fits _ _
          (writeStep_fits hi (restrictWaiting_fits i h))))
      · exact restrictWaiting_fits i h
  · exact h

theorem restrictEntry_fits (l : LineId) (h : Fits r o s) : Fits r o (restrictEntry l s) :=
  foldl_fits (fun _ i => restrictOutput_fits l i) _ h

/-! ### RELEASE, STOP and START -/

theorem releaseOutput_fits (i : Nat) (h : Fits r o s) : Fits r o (releaseOutput i s) := by
  unfold releaseOutput
  split
  · exact followLatched_fits (modGuard_fits _ _ h)
  · exact h

theorem mapGuards_fits (f : GuardRec → GuardRec) (h : Fits r o s) :
    Fits r o { s with guard := { s.guard with recs := s.guard.recs.map f } } :=
  { h with guard := { h.guard with recs := (List.length_map ..).trans h.guard.recs } }

theorem guardStop_fits (h : Fits r o s) : Fits r o (guardStop s) := by
  have hcleared : Fits r o { s with
      guard := { s.guard with trips := [] }
      fwd := { s.fwd with orders := s.fwd.orders.filter (fun e => !e.isGuarded) } } :=
    { filterOrders_fits _ h with guard := { h.guard with trips := List.nodup_nil } }
  exact mapGuards_fits _ (foldl_fits (fun _ k => withdrawSlot_fits k) _
    (foldl_fits (fun _ i => withdrawStep_fits i) _ hcleared))

theorem guardStart_fits (h : Fits r o s) : Fits r o (guardStart s) := by
  have hderived : Fits r o { s with guard := { s.guard with recs := s.guard.recs.map (startRecord s), steps := [] } } :=
    { mapGuards_fits (startRecord s) h with guard := {
        recs := (List.length_map ..).trans h.guard.recs
        trips := h.guard.trips
        steps := List.nodup_nil
        stepsOf := fun _ hp => nomatch hp } }
  refine foldl_fits (fun t i ht => ?_) _ (followLatched_fits hderived)
  split
  · exact tripOutput_fits i ht
  · exact ht

/-! ### Points, lines and dispatch inputs -/

theorem deriveOperating_fits (l : LineId) (h : Fits r o s) : Fits r o (deriveOperating l s) := by
  unfold deriveOperating
  simp only
  split
  · split
    · refine mapChannels_fits (fun c hc => ?_) (modLine_fits l _ h)
      split
      · exact { hc with }
      · exact hc
    · exact modLine_fits l _ h
  · exact h

theorem wakeLines_fits (p : Nat) (h : Fits r o s) : Fits r o (wakeLines p s) := by
  refine foldl_fits (fun t l ht => ?_) _ h
  split
  · exact deriveOperating_fits l ht
  · exact ht

theorem followDispatch_fits (h : Fits r o s) : Fits r o (followDispatch s) :=
  setCondition_fits _ _ (setCondition_fits _ _ (setCondition_fits _ _ h))

theorem setInput_slots (d : DispatchUnit) (i : ReqInput) (x : InputRec) : (d.setInput i x).slots = d.slots := by
  cases i <;> rfl

theorem wakeInput_fits (p : Nat) (i : ReqInput) (h : Fits r o s) : Fits r o (wakeInput p i s) := by
  unfold wakeInput
  split
  · exact dispatch_fits (setInput_slots _ i _) h
  · exact h

theorem wakeTripSeen_fits (p : Nat) (h : Fits r o s) : Fits r o (wakeTripSeen p s) := by
  unfold wakeTripSeen
  split
  · exact dispatch_fits rfl h
  · exact h

theorem wakeDemands_fits (p : Nat) (h : Fits r o s) : Fits r o (wakeDemands p s) := by
  unfold wakeDemands
  simp only
  split
  · exact dispatch_fits rfl h
  · exact h

theorem wakeDispatch_fits (p : Nat) (h : Fits r o s) : Fits r o (wakeDispatch p s) := by
  unfold wakeDispatch
  split
  · exact followDispatch_fits (wakeDemands_fits p (wakeTripSeen_fits p (wakeInput_fits p _ (wakeInput_fits p _
      (wakeInput_fits p _ h)))))
  · exact h

theorem wakeConsumers_fits (p : Nat) (h : Fits r o s) : Fits r o (wakeConsumers p s) :=
  wakeDispatch_fits p (wakeLines_fits p (wakeGuard_fits p h))

theorem reportSelf_fits (p : Nat) (a b : Value × Quality) (h : Fits r o s) : Fits r o (reportSelf p a b s) := by
  unfold reportSelf
  split
  · exact handUpstream_fits _ h
  · exact h

/-- An event on a point fits where the change of its record does. -/
theorem pointEvent_fits (p : Nat) {change : State → State} (h : Fits r o (change s)) :
    Fits r o (pointEvent p change s) :=
  serve_fits (reportSelf_fits _ _ _ (wakeConsumers_fits p h))

theorem storeUpdate_fits (p : Nat) (v : Value) (q : Quality) (h : Fits r o s) : Fits r o (storeUpdate p v q s) :=
  modPoint_fits _ _ h

theorem writeSelf_fits (p : Nat) (v : Value) (h : Fits r o s) : Fits r o (writeSelf p v s) :=
  pointEvent_fits p (storeUpdate_fits p v .good h)

theorem expireFreshness_fits (p : Nat) (h : Fits r o s) : Fits r o (expireFreshness p s) := by
  have hwoken := wakeConsumers_fits p (modPoint_fits p (fun x => { x with fresh := .expired, timer := none }) h)
  unfold expireFreshness
  simp only
  apply serve_fits
  apply reportSelf_fits
  split
  · exact raiseFlag_fits _ hwoken
  · exact hwoken

theorem substitutePoint_fits (p : Nat) (v : Value) (h : Fits r o s) : Fits r o (substitutePoint p v s) :=
  pointEvent_fits p (modPoint_fits _ _ h)

theorem unsubstitutePoint_fits (p : Nat) (h : Fits r o s) : Fits r o (unsubstitutePoint p s) :=
  pointEvent_fits p (modPoint_fits _ _ h)

end

end Sys2Proof.Machine
end

section
namespace Sys2Proof.Machine
open Sys2Proof

section
variable {r o : Nat} {s : State}

/-! ### The dispatch unit's states -/

theorem publish_fits (p : Option Nat) (v : Value) (h : Fits r o s) : Fits r o (publish p v s) := by
  unfold publish
  split
  · exact h
  · exact writeSelf_fits _ v h

theorem publishState_fits (h : Fits r o s) : Fits r o (publishState s) := publish_fits _ _ h

theorem enterHold_fits (c : HoldCause) (h : Fits r o s) : Fits r o (enterHold c s) :=
  publishState_fits (followDispatch_fits (dispatch_fits rfl h))

theorem holdCause_fits (c : HoldCause) (h : Fits r o s) : Fits r o (holdCause c s) := by
  unfold holdCause
  split
  · exact h
  · exact enterHold_fits c h
  · cases c
    · exact h
    · exact dispatch_fits rfl h
    · exact dispatch_fits rfl h

theorem leaveHold_fits (h : Fits r o s) : Fits r o (leaveHold s) :=
  publishState_fits (followDispatch_fits (dispatch_fits rfl h))

theorem assessInput_fits (i : ReqInput) (h : Fits r o s) : Fits r o (assessInput i s) :=
  dispatch_fits (setInput_slots _ i _) h

theorem startCycleTimer_fits (h : Fits r o s) : Fits r o (startCycleTimer s) := dispatch_fits rfl h

theorem enterFromStopped_fits (h : Fits r o s) : Fits r o (enterFromStopped s) := by
  have hassessed := startCycleTimer_fits (assessInput_fits .trip (assessInput_fits .fb (assessInput_fits .fa h)))
  unfold enterFromStopped
  simp only
  split
  · exact enterHold_fits _ hassessed
  · exact publishState_fits (followDispatch_fits (dispatch_fits rfl hassessed))

theorem enterStopped_fits (h : Fits r o s) : Fits r o (enterStopped s) := by
  unfold enterStopped
  split
  · exact h
  · exact publishState_fits (followDispatch_fits (dispatch_fits rfl h))

/-! ### A cycle -/

theorem handOutput_fits (x : CycleRecord) {k : Nat} (hk : k < 5) (v : Value) (h : Fits r o s) :
    Fits r o (handOutput x k v s).2 := by
  unfold handOutput
  split
  · split
    · exact h
    · next i _ =>
      exact dispatch_fits rfl (guardOrder_fits (org := .dispatch k (decide (x.outcome = .trip))) hk i v h)
  · exact h

/-- The five outputs handed in turn are the five that have slots (R141, R143). -/
theorem handAll_fits (x : CycleRecord) (h : Fits r o s) : Fits r o (handAll x s).2 := by
  have hfive : ∀ kv ∈ (List.range 5).zip x.values, kv.1 < 5 := fun kv hkv =>
    List.mem_range.mp (List.of_mem_zip hkv).1
  unfold handAll
  generalize (List.range 5).zip x.values = l at hfive ⊢
  suffices hl : ∀ (l : List (Nat × Value)), (∀ kv ∈ l, kv.1 < 5) → ∀ acc : List Handed × State, Fits r o acc.2 →
      Fits r o (l.foldl (fun (acc : List Handed × State) kv =>
        let a := handOutput x kv.1 kv.2 acc.2
        (acc.1 ++ [a.1], serve a.2)) acc).2 from hl l hfive ([], s) h
  intro l
  induction l with
  | nil => exact fun _ _ hacc => hacc
  | cons kv l ih =>
    intro hall acc hacc
    exact ih (fun kv' hkv' => hall kv' (.tail _ hkv')) _
      (serve_fits (handOutput_fits x (hall kv (.head _)) kv.2 hacc))

theorem runCycle_fits (h : Fits r o s) : Fits r o (runCycle s) := by
  have hhanded := handAll_fits (computeCycle s) (startCycleTimer_fits (dispatch_fits
    (d := { s.dispatch with cycleNo := (computeCycle s).number, cycles := bump s.dispatch.cycles }) rfl h))
  exact publish_fits _ _ (publish_fits _ _ (publish_fits _ _ (dispatch_fits rfl hhanded)))

theorem actOnOccasion_fits (h : Fits r o s) : Fits r o (actOnOccasion s) := by
  unfold actOnOccasion
  split
  · exact h
  · exact runCycle_fits h
  · split
    · exact runCycle_fits (leaveHold_fits h)
    · exact h

theorem runOccasions_fits (n : Nat) (h : Fits r o s) : Fits r o (runOccasions n s) := by
  induction n generalizing s with
  | zero => exact h
  | succ n ih =>
    unfold runOccasions
    split
    · exact ih (actOnOccasion_fits (dispatch_fits rfl h))
    · exact h

theorem settle_fits (h : Fits r o s) : Fits r o (settle s) := serve_fits (runOccasions_fits _ h)

theorem cycleTimerExpires_fits (h : Fits r o s) : Fits r o (cycleTimerExpires s) :=
  settle_fits (actOnOccasion_fits (startCycleTimer_fits h))

theorem inputHoldExpires_fits (i : ReqInput) (h : Fits r o s) : Fits r o (inputHoldExpires i s) :=
  settle_fits (holdCause_fits _ (dispatch_fits (setInput_slots _ i _) h))

theorem runCommanded_fits (h : Fits r o s) : Fits r o (runCommanded s) := by
  unfold runCommanded
  split
  · exact dispatch_fits rfl h
  · exact runCycle_fits (startCycleTimer_fits (leaveHold_fits h))

/-! ### The emission state of a line -/

theorem followEmission_fits (h : Fits r o s) : Fits r o (followEmission s) :=
  setCondition_fits _ _ (setCondition_fits _ _ h)

theorem deriveEmission_fits (always : Bool) (l : LineId) (h : Fits r o s) : Fits r o (deriveEmission always l s) := by
  have htaken (e : EmissionState) : Fits r o (s.modLine l (fun x => { x with state := e })) := modLine_fits l _ h
  unfold deriveEmission
  simp only
  split
  · split
    · apply settle_fits
      apply publish_fits
      apply followEmission_fits
      split
      · exact restrictEntry_fits l (markerTrigger_fits _ _ _ (htaken _))
      · exact htaken _
    · apply followEmission_fits
      split
      · exact restrictEntry_fits l (markerTrigger_fits _ _ _ (htaken _))
      · exact htaken _
  · exact h

/-! ### Samples -/

theorem clampTo_mem {lo hi : Int} (h : lo ≤ hi) (v : Int) : lo ≤ clampTo lo hi v ∧ clampTo lo hi v ≤ hi := by
  unfold clampTo
  split
  · omega
  · split <;> omega

/-- The range of a normalised value: 0 to 360,000,000 (R101). -/
theorem normalise_mem {conc o2c h2oc : Int} {o2Ref : Nat} (hconc : 0 ≤ conc ∧ conc ≤ 10000000)
    (ho2 : 0 ≤ o2c ∧ o2c ≤ 2000) (hh2o : 0 ≤ h2oc ∧ h2oc ≤ 5000) (href : 300 ≤ o2Ref ∧ o2Ref ≤ 1500) :
    0 ≤ normalise conc o2c h2oc o2Ref ∧ normalise conc o2c h2oc o2Ref ≤ 360000000 := by
  unfold normalise roundHalfUp
  have hn0 : 0 ≤ conc * 10000 * (2100 - o2Ref) := by
    apply mul_nonneg <;> omega
  have hn : conc * 10000 * (2100 - o2Ref) ≤ 100000000000 * 1800 := by
    apply mul_le_mul <;> omega
  have hd : (5000 : Int) * 100 ≤ (10000 - h2oc) * (2100 - o2c) := by
    apply mul_le_mul <;> omega
  generalize conc * 10000 * (2100 - o2Ref) = n at hn0 hn ⊢
  generalize (10000 - h2oc) * (2100 - o2c) = d at hd ⊢
  constructor
  · apply Int.ediv_nonneg <;> omega
  · apply Int.le_of_lt_add_one
    apply Int.ediv_lt_of_lt_mul <;> omega

theorem normalisedSample_mem {c : ChannelCfg} (hc : c.inRanges) (s : State) (v : Value) :
    0 ≤ normalisedSample s c v ∧ normalisedSample s c v ≤ 360000000 := by
  obtain ⟨hlow, hhigh, hcap, hcap', -⟩ := hc
  have ho2 := clampTo_mem (show (0 : Int) ≤ c.o2Cap by omega) (s.point c.o2).effValue
  refine normalise_mem (clampTo_mem (by decide) v) ⟨ho2.1, by omega⟩ ?_ ⟨hlow, hhigh⟩
  split
  · decide
  · exact clampTo_mem (by decide) _

/-- A value of the range accumulated leaves the sum between count times minimum and count times maximum (R102). -/
theorem accumulate_summed {x : ChannelRun} {cn : Int} (hx : x.summed) (hcn : 0 ≤ cn ∧ cn ≤ 360000000) :
    (x.accumulate cn).summed := by
  obtain ⟨hcn0, hcn1⟩ := hcn
  obtain ⟨hm, hv, hs⟩ | ⟨lo, hi, hm, hv, hlo, hhi, hlow, hhigh⟩ := hx
  · refine .inr ⟨cn, cn, ?_, ?_, hcn0, hcn1, ?_, ?_⟩
    · simp only [ChannelRun.accumulate, hm]
    · exact Nat.le_add_left ..
    · simp [ChannelRun.accumulate, hv, hs]
    · simp [ChannelRun.accumulate, hv, hs]
  · refine .inr ⟨min lo cn, max hi cn, ?_, Nat.le_add_left .., le_min hlo hcn0, max_le hhi hcn1, ?_, ?_⟩
    · simp only [ChannelRun.accumulate, hm]
    · have hcount : min lo cn * x.valid ≤ lo * x.valid :=
        mul_le_mul_of_nonneg_right (min_le_left ..) (Int.natCast_nonneg _)
      have hone : min lo cn ≤ cn := min_le_right ..
      simp only [ChannelRun.accumulate, Nat.cast_add, Nat.cast_one, mul_add, mul_one]
      linarith
    · have hcount : hi * x.valid ≤ max hi cn * x.valid :=
        mul_le_mul_of_nonneg_right (le_max_left ..) (Int.natCast_nonneg _)
      have hone : cn ≤ max hi cn := le_max_right ..
      simp only [ChannelRun.accumulate, Nat.cast_add, Nat.cast_one, mul_add, mul_one]
      linarith

theorem takeValid_fits (c : Nat) {cn : Int} (hcn : 0 ≤ cn ∧ cn ≤ 360000000) (h : Fits r o s) :
    Fits r o (takeValid c cn s) := by
  have hsummed : Fits r o (s.modChannel c (fun ch => { ch with run := ch.run.accumulate cn })) :=
    modChannel_fits (fun _ hch => { hch with summed := accumulate_summed hch.summed hcn }) h
  unfold takeValid
  simp only
  split
  · exact modChannel_fits (fun _ hch => { hch with }) h
  · split
    · have hwarned := modChannel_fits (c := c) (f := fun ch => { ch with run := { ch.run with warn := true } })
        (fun _ hch => { hch with }) hsummed
      split
      · exact deriveEmission_fits _ _ hwarned
      · exact hwarned
    · exact hsummed

theorem takeSample_fits (c : Nat) (v : Value) (q : Quality) (h : Fits r o s) : Fits r o (takeSample c v q s) := by
  unfold takeSample
  simp only
  split
  · exact h
  · exact modChannel_fits (fun _ hch => { hch with }) h
  · exact takeValid_fits c (normalisedSample_mem (channel_fits h c).ranges s v)
      (modChannel_fits (fun _ hch => { hch with }) h)

theorem wakeChannels_fits (p : Nat) (v : Value) (q : Quality) (h : Fits r o s) : Fits r o (wakeChannels p v q s) := by
  refine foldl_fits (fun t c ht => ?_) _ h
  simp only
  split
  · exact takeSample_fits c v q ht
  · exact ht

theorem acceptReport_fits (p : Nat) (v : Value) (q : Quality) (h : Fits r o s) : Fits r o (acceptReport p v q s) :=
  settle_fits (wakeDispatch_fits p (wakeLines_fits p (wakeChannels_fits p v q (wakeGuard_fits p
    (storeUpdate_fits p v q h)))))

/-! ### Closes -/

theorem closeHalf_fits (cut : Bool) (c : Nat) (h : Fits r o s) : Fits r o (closeHalf cut c s) := by
  have hclosed (x : HalfRec) : Fits r o (s.modChannel c (fun ch => { ch with
      half := (x :: ch.half).take Config.halfRingCap, run := afterHalf ch x })) :=
    modChannel_fits (fun _ hch => { hch with half := List.length_take_le _ _ }) h
  unfold closeHalf
  simp only
  split
  · exact hclosed _
  · exact settle_fits (publish_fits _ _ (hclosed _))

theorem closeDay_fits (cut : Bool) (c : Nat) (h : Fits r o s) : Fits r o (closeDay cut c s) :=
  modChannel_fits (fun _ hch => { hch with days := List.length_take_le _ _ }) h

/-- A channel that opens a period has an empty sum (R98). -/
theorem openedRun_summed (t : State) (ch : Channel) : (openedRun t ch).summed := by
  unfold openedRun
  simp only
  split <;> exact .inl ⟨rfl, rfl, rfl⟩

theorem openPeriod_fits (c : Nat) (h : Fits r o s) : Fits r o (openPeriod c s) :=
  modChannel_fits (fun ch hch => { hch with summed := openedRun_summed s ch }) h

theorem raisePeriodClosed_fits (l : List Nat) (h : Fits r o s) : Fits r o (raisePeriodClosed l s) := by
  unfold raisePeriodClosed
  split
  · exact raiseFlag_fits _ h
  · exact h

theorem deriveClosed_fits (l : List Nat) (h : Fits r o s) : Fits r o (deriveClosed l s) := by
  refine foldl_fits (fun t x ht => ?_) _ h
  split
  · exact deriveEmission_fits _ _ ht
  · exact ht

theorem closeHalves_fits (cut : Bool) (l : List Nat) (h : Fits r o s) :
    Fits r o (l.foldl (fun t c => closeHalf cut c t) s) := foldl_fits (fun _ c => closeHalf_fits cut c) l h

theorem closeDays_fits (cut : Bool) (l : List Nat) (h : Fits r o s) :
    Fits r o (l.foldl (fun t c => closeDay cut c t) s) := foldl_fits (fun _ c => closeDay_fits cut c) l h

theorem openPeriods_fits (l : List Nat) (h : Fits r o s) : Fits r o (l.foldl (fun t c => openPeriod c t) s) :=
  foldl_fits (fun _ c => openPeriod_fits c) l h

theorem emissionBoundary_fits (day : Bool) (h : Fits r o s) : Fits r o (emissionBoundary day s) := by
  unfold emissionBoundary
  simp only
  split
  · exact h
  · have hclosed := raisePeriodClosed_fits (openChannels s) (deriveClosed_fits (openChannels s)
      (closeHalves_fits false (openChannels s) h))
    apply openPeriods_fits
    split
    · exact raiseFlag_fits _ (closeDays_fits _ _ hclosed)
    · exact hclosed

theorem periodBoundaryEvent_fits (h : Fits r o s) : Fits r o (periodBoundaryEvent s) :=
  emissionBoundary_fits _ { h with }

theorem emissionTimeSet_fits (h : Fits r o s) : Fits r o (emissionTimeSet s) := by
  unfold emissionTimeSet
  simp only
  split
  · exact h
  · split
    · exact openPeriods_fits _ h
    · split
      · exact h
      · have hclosed := deriveClosed_fits (openChannels s) (closeHalves_fits true (openChannels s) h)
        split
        · exact raiseFlag_fits _ (raisePeriodClosed_fits _ (raiseFlag_fits _ (openPeriods_fits _
            (closeDays_fits _ _ hclosed))))
        · exact raisePeriodClosed_fits _ (raiseFlag_fits _ (openPeriods_fits _ hclosed))

theorem cutAll_fits (h : Fits r o s) : Fits r o (cutAll s) :=
  foldl_fits (fun _ c ht => closeDay_fits true c (closeHalf_fits true c ht)) _ h

theorem idleAll_fits (h : Fits r o s) : Fits r o (idleAll s) :=
  mapChannels_fits (fun _ hch => { hch with summed := .inl ⟨rfl, rfl, rfl⟩ }) h

theorem emissionStop_fits (h : Fits r o s) : Fits r o (emissionStop s) := by
  have hidle := deriveEmission_fits true .b (deriveEmission_fits true .a (idleAll_fits (cutAll_fits h)))
  unfold emissionStop
  simp only
  split
  · exact hidle
  · split
    · exact raiseFlag_fits _ (raiseFlag_fits _ (raiseFlag_fits _ hidle))
    · exact raiseFlag_fits _ (raiseFlag_fits _ hidle)

theorem startWarnLevel_fits (ch : Channel) (h : ch.Fits) : (startWarnLevel ch).Fits := by
  unfold startWarnLevel
  split
  · exact { h with }
  · exact h

theorem emissionStart_fits (h : Fits r o s) : Fits r o (emissionStart s) := by
  have hderived := deriveEmission_fits true .b (deriveOperating_fits .b (deriveEmission_fits true .a
    (deriveOperating_fits .a (mapChannels_fits startWarnLevel_fits h))))
  unfold emissionStart
  simp only
  split
  · exact hderived
  · exact openPeriods_fits _ hderived

end

end Sys2Proof.Machine
end

section
namespace Sys2Proof.Machine
open Sys2Proof

section
variable {r o : Nat} {s : State}

/-! ### Resets -/

theorem powerOn_fits (station strap : Nat) (l : List Instr) : Fits r o (State.powerOn station strap l) where
  points := List.length_replicate ..
  fwd := ⟨rfl, Nat.zero_le _, List.nodup_nil, Nat.zero_le _, Nat.zero_le _, Nat.zero_le _⟩
  queries := rfl
  guard := ⟨List.length_replicate .., List.nodup_nil, List.nodup_nil, fun _ hp => nomatch hp⟩
  emission := by
    refine ⟨List.length_replicate .., fun c hc => ?_⟩
    rw [List.eq_of_mem_replicate hc]
    exact powerOn_channelFits
  slots := ⟨List.nodup_nil, fun _ hx => nomatch hx⟩
  buffer := Nat.zero_le _
  sBuffer := Nat.zero_le _
  fBuffer := Nat.zero_le _
  attention := ⟨rfl, Nat.zero_le _⟩

theorem holdInReset_fits : Fits r o (holdInReset s) :=
  { powerOn_fits s.part.station s.part.strap s.pending with
    sBuffer := Nat.zero_le _
    fBuffer := Nat.zero_le _ }

/-- A reset keeps a channel's rings, and its ranges where it keeps its configuration (R115). -/
theorem resetChannel_fits (lock : Bool) (c : Channel) (h : c.Fits) : (resetChannel lock c).Fits := by
  refine { h with summed := .inl ⟨rfl, rfl, rfl⟩, ranges := ?_ }
  cases lock
  · exact powerOn_inRanges
  · exact h.ranges

theorem resetTakesEffect_fits (h : Fits r o s) : Fits r o (resetTakesEffect s) := by
  have hcut := (cutAll_fits h).emission
  refine { powerOn_fits s.part.station s.part.strap s.pending with
    emission := ⟨(List.length_map ..).trans hcut.length, fun c hc => ?_⟩
    sBuffer := Nat.zero_le _
    fBuffer := Nat.zero_le _
    attention := ⟨rfl, Nat.zero_le _⟩ }
  obtain ⟨c', hc', rfl⟩ := List.mem_map.mp hc
  exact resetChannel_fits _ c' (hcut.channels c' hc')

/-! ### Ports -/

theorem setPortState_fits (p : Port) (st : PortState) (h : Fits r o s) : Fits r o (setPortState p st s) :=
  setCondition_fits _ _ (modPort_fits id h)

theorem popFrame_fits (p : Port) (h : Fits r o s) : Fits r o (popFrame p s) := by
  refine modPort_fits (fun hlen => ?_) h
  have htail : (s.port p).rx.tail.length ≤ Config.rxCap := by
    rw [List.length_tail]
    omega
  split <;> exact htail

theorem frameError_fits (p : Port) (f : PortCounters → PortCounters) (h : Fits r o s) : Fits r o (frameError p f s) :=
  raiseFlag_fits _ (countPort_fits p f h)

theorem endReception_fits (p : Port) (h : Fits r o s) : Fits r o (endReception p s) := modPort_fits id h

theorem cutOffReception_fits (p : Port) (h : Fits r o s) : Fits r o (cutOffReception p s) := by
  unfold cutOffReception
  split
  · exact h
  · exact frameError_fits p _ (endReception_fits p h)
  · exact endReception_fits p h

theorem overrunFrame_fits (p : Port) (h : Fits r o s) : Fits r o (overrunFrame p s) := by
  unfold overrunFrame
  simp only
  split
  · exact countPort_fits p _ h
  · exact markerTrigger_fits _ _ _ (setCondition_fits _ _ (modPort_fits id (countPort_fits p _ h)))

/-- A checked frame is stored where fewer than 16 stand (R167). -/
theorem storeFrame_fits (p : Port) (f : Frame) (h : Fits r o s) : Fits r o (storeFrame p f s) := by
  unfold storeFrame
  split
  · next hroom =>
    refine modPort_fits (fun _ => ?_) h
    have hplaced : ((s.port p).rx ++ [f]).length ≤ Config.rxCap := by
      simp only [List.length_append, List.length_singleton]
      omega
    simp only
    split <;> exact hplaced
  · exact overrunFrame_fits p h

theorem judgeFrame_fits (p : Port) (cutOff : Bool) (bytes : List Byte) (h : Fits r o s) :
    Fits r o (judgeFrame p cutOff bytes s) := by
  unfold judgeFrame
  split
  · exact frameError_fits p _ h
  · exact frameError_fits p _ h
  · exact frameError_fits p _ h
  · exact storeFrame_fits p _ h

theorem receiveFrame_fits (p : Port) (cutOff : Bool) (bytes : List Byte) (h : Fits r o s) :
    Fits r o (receiveFrame p cutOff bytes s) := by
  unfold receiveFrame
  split
  · exact judgeFrame_fits p cutOff bytes h
  · exact judgeFrame_fits p cutOff bytes (endReception_fits p h)
  · exact endReception_fits p h

theorem restartLinkTimer_fits (p : Port) (h : Fits r o s) : Fits r o (restartLinkTimer p s) := modPort_fits id h

theorem symbolArrives_fits (p : Port) (h : Fits r o s) : Fits r o (symbolArrives p s) :=
  setPortState_fits p _ (restartLinkTimer_fits p h)

theorem delimit_fits (p : Port) (y : LineSymbol) (h : Fits r o s) : Fits r o (delimit p y s) := by
  cases y with
  | idle => exact cutOffReception_fits p h
  | startDelimiter =>
    unfold delimit
    exact modPort_fits id (cutOffReception_fits p h)
  | frameByte => exact h

theorem pauseArrives_fits (p : Port) (h : Fits r o s) : Fits r o (pauseArrives p s) :=
  setPortState_fits p _ (modPort_fits id (restartLinkTimer_fits p h))

theorem endPause_fits (p : Port) (h : Fits r o s) : Fits r o (endPause p s) := by
  unfold endPause
  split
  · exact setPortState_fits p _ (modPort_fits id h)
  · exact h

theorem linkDown_fits (p : Port) (h : Fits r o s) : Fits r o (linkDown p s) :=
  setPortState_fits p _ (modPort_fits id (serve_fits (cutOffReception_fits p h)))

theorem abortFrame_fits (p : Port) (h : Fits r o s) : Fits r o (abortFrame p s) := by
  have hidle : Fits r o (s.modPort p (fun x => { x with tx := none })) := modPort_fits id h
  unfold abortFrame
  split
  · exact h
  · simp only
    split
    · exact reenterTrip_fits _ hidle
    · exact queryAborted_fits _ _ hidle
    · exact hidle
    · exact hidle
    · exact hidle

theorem restartPort_fits (p : Port) (rate : Option Rate) (h : Fits r o s) : Fits r o (restartPort p rate s) :=
  restartLinkTimer_fits p (setPortState_fits p _ (setCondition_fits _ _
    (modPort_fits (fun _ => Nat.zero_le _) (abortFrame_fits p h))))

theorem pendingRestart_fits (h : Fits r o s) : Fits r o (pendingRestart s) := by
  unfold pendingRestart
  split
  · exact h
  · exact restartPort_fits _ _ { h with }

theorem completeFrame_fits (p : Port) (snd : Sending) (h : Fits r o s) : Fits r o (completeFrame p snd s) := by
  have hidle : Fits r o (sendFlow p (s.modPort p (fun x => { x with
      tx := none, counters := { x.counters with framesSent := bump x.counters.framesSent } }))) :=
    sendFlow_fits p (modPort_fits id h)
  unfold completeFrame completedItem
  split
  · exact hidle
  · exact hidle
  · exact queryCompletes_fits _ _ hidle
  · exact resetTakesEffect_fits hidle
  · exact pendingRestart_fits hidle

/-! ### The form of every command -/

theorem whileAwake_fits {act : State → State} (hact : Fits r o s → Fits r o (act s)) (h : Fits r o s) :
    Fits r o (whileAwake act s) := by
  unfold whileAwake
  split
  · exact h
  · exact serve_fits (hact h)

theorem atExpiry_fits (timer : Option Nat) {act : State → State} (hact : Fits r o s → Fits r o (act s))
    (h : Fits r o s) : Fits r o (atExpiry timer act s) := by
  unfold atExpiry
  split
  · exact whileAwake_fits hact h
  · exact h

theorem taken_fits (p : Port) (f : Frame) (h : Fits r o s) : Fits r o (taken p f s) :=
  serve_fits (offerFrame_fits p f (popFrame_fits p h))

theorem takeFrame_fits {p : Port} {f : Frame} {c : Instr} {act : State → State}
    (hact : ∀ t, Fits r o t → Fits r o (act t)) (h : Fits r o s) : Fits r o (takeFrame p f c act s) := by
  unfold takeFrame
  split
  · exact whileAwake_fits (fun h => hact _ (taken_fits p f h)) h
  · exact h

/-- A reply-bearing frame is taken with a place of the reply outbox free, which its reply may fill (R23, R36). -/
theorem takeReplied_fits {p : Port} {f : Frame} {c : Instr} {act : State → State} (hc : replyBearing p c = true)
    (hact : ∀ t, Fits 15 o t → Fits 16 o (act t)) (h : Fits 16 o s) : Fits 16 o (takeFrame p f c act s) := by
  unfold takeFrame
  split
  · next ht =>
    simp only [takesFrame, hc, Bool.not_true, Bool.false_or, Bool.and_eq_true, decide_eq_true_eq] at ht
    obtain ⟨-, hroom⟩ := ht
    have hfree : Fits 15 o s := { h with fwd := { h.fwd with replies := Nat.le_of_lt_succ hroom } }
    exact whileAwake_fits (fun _ => hact _ (taken_fits p f hfree)) h
  · exact h

/-! ### Orders and queries to the part -/

theorem replyRefusals_fits (f : Frame) (l : List (Nat × Status)) (h : Fits r o s) :
    Fits (r + 1) o (replyRefusals f l s) := by
  unfold replyRefusals
  split
  · exact h.mono (Nat.le_succ r) le_rfl
  · exact placeReply_fits _ _ h

/-- Entries judged one after another take at most `n` places each. -/
theorem judgeEntries_fits {judge : Nat × Value → State → Option Status × State} {n : Nat}
    (hj : ∀ e o t, Fits r o t → Fits r (o + n) (judge e t).2) (l : List (Nat × Value)) (h : Fits r o s) :
    Fits r (o + l.length * n) (judgeEntries judge l s).2 := by
  induction l generalizing o s with
  | nil =>
    rw [List.length_nil, Nat.zero_mul]
    exact h
  | cons e l ih =>
    have hplaces : o + (e :: l).length * n = o + n + l.length * n := by
      rw [List.length_cons, Nat.succ_mul]
      omega
    rw [hplaces]
    exact ih (hj e o s h)

theorem takeSelfEntry_fits (e : Nat × Value) (h : Fits r o s) : Fits r o (takeSelfEntry e s).2 := by
  unfold takeSelfEntry
  simp only
  split
  · split
    · dsimp only
      exact settle_fits (writeSelf_fits _ _ h)
    · exact h
  · exact h

theorem takeSelfOrder_fits (f : Frame) (h : Fits r o s) : Fits (r + 1) o (takeSelfOrder f s) :=
  replyRefusals_fits _ _ (judgeEntries_fits (n := 0) (fun e _ _ ht => takeSelfEntry_fits e ht) _ h)

theorem takeSelfQuery_fits (f : Frame) (h : Fits r o s) : Fits (r + 1) o (takeSelfQuery f s) := placeReply_fits _ _ h

/-! ### Order frame acceptance -/

theorem judgeOrderEntry_fits (f : Frame) (e : Nat × Value) (h : Fits r o s) :
    Fits r (o + 1) (judgeOrderEntry f e s).2 := by
  unfold judgeOrderEntry
  split
  · dsimp only
    exact countFwd_fits _ (h.mono le_rfl (Nat.le_succ o))
  · split
    · exact serve_fits (guardOrder_fits (org := .supervisory f.dest f.src) trivial _ _ h)
    · exact serve_fits { h with fwd := { h.fwd with
        orders := (List.length_append ..).trans_le (Nat.succ_le_succ h.fwd.orders) } }

/-- A frame is judged only where its entries find places (R38). -/
theorem acceptOrders_fits (f : Frame) (h : Fits r Config.orderQueueCap s) :
    Fits (r + 1) Config.orderQueueCap (acceptOrders f s) := by
  unfold acceptOrders
  split
  · exact recordBusy_fits f (countFwd_fits _ (placeReply_fits _ _ h))
  · next hroom =>
    have hexact : Fits r s.fwd.orders.length s := { h with fwd := { h.fwd with orders := le_rfl } }
    have hjudged := judgeEntries_fits (n := 1) (fun e _ _ ht => judgeOrderEntry_fits f e ht) (orderEntries f) hexact
    refine replyRefusals_fits _ _ (hjudged.mono le_rfl ?_)
    have hlen : (orderEntries f).length = f.count := by simp [orderEntries]
    omega

theorem passThrough_fits (f : Frame) (h : Fits r Config.orderQueueCap s) :
    Fits (r + 1) Config.orderQueueCap (passThrough f s) := by
  unfold passThrough
  split
  · next hroom =>
    have hplaced := h.mono (Nat.le_succ r) le_rfl
    exact { hplaced with fwd := { hplaced.fwd with orders := (List.length_append ..).trans_le hroom } }
  · exact countFwd_fits _ (placeReply_fits _ _ h)

/-! ### Field frames and dropped frames -/

theorem takeReportEntry_fits (src : Nat) (e : ReportEntry) (h : Fits r o s) : Fits r o (takeReportEntry src e s) := by
  unfold takeReportEntry
  simp only
  split
  · split
    · exact acceptReport_fits _ _ _ h
    · exact modPoint_fits _ _ h
  · exact h

theorem takeReport_fits (f : Frame) (h : Fits r o s) : Fits r o (takeReport f s) := by
  refine foldl_fits (fun t e ht => ?_) _ h
  have hentry := takeReportEntry_fits f.src e ht
  apply serve_fits
  split
  · exact handUpstream_fits _ hentry
  · exact hentry

theorem queueUpPass_fits (f : Frame) (h : Fits r o s) : Fits r o (queueUpPass f s) := by
  unfold queueUpPass
  split
  · next hroom =>
    exact { h with fwd := { h.fwd with upPass := (List.length_append ..).trans_le hroom } }
  · exact countFwd_fits _ h

theorem misrouted_fits (h : Fits r o s) : Fits r o (misrouted s) := raiseFlag_fits _ (countFwd_fits _ h)

theorem dropFromS_fits (f : Frame) (h : Fits r o s) : Fits r o (dropFromS f s) := by
  unfold dropFromS
  split
  · exact countFwd_fits _ h
  · split
    · exact countFwd_fits _ h
    · split
      · exact countFwd_fits _ h
      · exact misrouted_fits h

theorem dropFromF_fits (f : Frame) (h : Fits r o s) : Fits r o (dropFromF f s) := by
  unfold dropFromF
  split
  · exact countFwd_fits _ h
  · split
    · exact countFwd_fits _ h
    · split
      · exact misrouted_fits h
      · exact h

theorem conflict_fits (h : Fits r o s) : Fits r o (conflict s) :=
  settle_fits (holdCause_fits _ (raiseFlag_fits _ (countFwd_fits _ h)))

end

end Sys2Proof.Machine
end

section
namespace Sys2Proof.Machine
open Sys2Proof

/-! ### What the fields of a WRITE keep -/

/-- A property that each item's field keeps, the items keep. -/
theorem applyItems_keeps {α : Type} {field : α → Item → Option α} {P : α → Prop}
    (hstep : ∀ x i y, field x i = some y → P x → P y) {l : List Item} {x y : α} (h : applyItems field l x = some y)
    (hx : P x) : P y := by
  induction l generalizing x with
  | nil => exact Option.some.inj h ▸ hx
  | cons i l ih =>
    rw [applyItems_cons, Option.bind_eq_some_iff] at h
    obtain ⟨z, hz, hrest⟩ := h
    exact ih hrest (hstep x i z hz hx)

theorem inRange_eq_some {lo hi v x : Nat} (h : inRange lo hi v = some x) : lo ≤ x ∧ x ≤ hi := by
  unfold inRange at h
  split at h
  · next hin => exact Option.some.inj h ▸ hin
  · exact nomatch h

theorem setUpstreamField_fits {r o off v : Nat} {f g : Forwarding} (h : setUpstreamField f off v = some g)
    (hf : f.Fits r o) : g.Fits r o := by
  unfold setUpstreamField at h
  split at h
  · obtain ⟨x, -, rfl⟩ := Option.map_eq_some_iff.mp h
    exact { hf with }
  · obtain ⟨x, -, rfl⟩ := Option.map_eq_some_iff.mp h
    exact { hf with }
  · exact nomatch h

theorem setQueryField_entries {q q' : QueryTable} {off v : Nat} (h : setQueryField q off v = some q') :
    q'.entries = q.entries := by
  unfold setQueryField at h
  split at h
  · obtain ⟨x, -, rfl⟩ := Option.map_eq_some_iff.mp h
    rfl
  · obtain ⟨x, -, rfl⟩ := Option.map_eq_some_iff.mp h
    rfl
  · obtain ⟨x, -, rfl⟩ := Option.map_eq_some_iff.mp h
    rfl
  · exact nomatch h

theorem setDispatchItem_slots {d e : DispatchUnit} {i : Item} (h : setDispatchItem d i = some e) : e.slots = d.slots := by
  unfold setDispatchItem at h
  split at h
  · obtain ⟨x, -, rfl⟩ := Option.map_eq_some_iff.mp h
    rfl
  · obtain ⟨x, -, rfl⟩ := Option.map_eq_some_iff.mp h
    rfl

/-- A field of a channel keeps the ranges of R94: the three that they bound are checked, the others do not touch them. -/
theorem setChannelField_inRanges {c d : ChannelCfg} {off v : Nat} (h : setChannelField c off v = some d)
    (hc : c.inRanges) : d.inRanges := by
  have ⟨hlow, hhigh, hcap, hcap', hmin⟩ := hc
  unfold setChannelField at h
  split at h
  case h_6 =>
    obtain ⟨x, hx, rfl⟩ := Option.map_eq_some_iff.mp h
    exact ⟨(inRange_eq_some hx).1, (inRange_eq_some hx).2, hcap, hcap', hmin⟩
  case h_7 =>
    obtain ⟨x, hx, rfl⟩ := Option.map_eq_some_iff.mp h
    exact ⟨hlow, hhigh, (inRange_eq_some hx).1, (inRange_eq_some hx).2, hmin⟩
  case h_8 =>
    obtain ⟨x, hx, rfl⟩ := Option.map_eq_some_iff.mp h
    exact ⟨hlow, hhigh, hcap, hcap', (inRange_eq_some hx).1⟩
  case h_17 => exact nomatch h
  all_goals
    obtain ⟨x, -, rfl⟩ := Option.map_eq_some_iff.mp h
    exact hc

section
variable {r o : Nat} {s : State}

/-! ### What the owners do after a WRITE -/

theorem retimePoint_fits (p : Nat) (h : Fits r o s) : Fits r o (retimePoint p s) := by
  unfold retimePoint
  simp only
  split
  · exact modPoint_fits _ _ h
  · split
    · exact h
    · split
      · exact settle_fits (expireFreshness_fits p h)
      · exact modPoint_fits _ _ h

theorem writePoint_fits (p : Nat) (x : Point) (w : Bool) (h : Fits r o s) : Fits r o (writePoint p x w s) := by
  unfold writePoint
  simp only
  split
  · exact modPoint_fits _ _ h
  · split
    · exact retimePoint_fits p (modPoint_fits _ _ h)
    · exact modPoint_fits _ _ h

theorem writeGuard_fits (i : Nat) (g : GuardRec) (h : Fits r o s) : Fits r o (writeGuard i g s) := by
  unfold writeGuard
  simp only
  split
  · exact filterOrders_fits _ (followLatched_fits (modGuard_fits _ _ h))
  · exact followLatched_fits (modGuard_fits _ _ h)

theorem writeLine_fits (l : LineId) (x : LineRec) (h : Fits r o s) : Fits r o (writeLine l x s) :=
  deriveOperating_fits l (modLine_fits _ _ h)

theorem writeChannel_fits (c : Nat) {cfg : ChannelCfg} (hcfg : cfg.inRanges) (h : Fits r o s) :
    Fits r o (writeChannel c cfg s) := by
  refine modChannel_fits (fun ch hch => ?_) h
  split
  · exact { hch with summed := .inl ⟨rfl, rfl, rfl⟩, ranges := hcfg }
  · exact { hch with ranges := hcfg }

theorem writeTable_fits {t : Table} {index : Nat} {items : List Item} {u : State}
    (hw : writeTable t index items s = some u) (h : Fits r o s) : Fits r o u := by
  cases t with
  | part =>
    obtain ⟨x, -, rfl⟩ := Option.map_eq_some_iff.mp hw
    exact { h with }
  | point =>
    obtain ⟨x, -, hx⟩ := Option.bind_eq_some_iff.mp hw
    split at hx
    · exact Option.some.inj hx ▸ writePoint_fits _ _ _ h
    · exact nomatch hx
  | window =>
    obtain ⟨x, -, hx⟩ := Option.bind_eq_some_iff.mp hw
    split at hx
    · exact nomatch hx
    · exact Option.some.inj hx ▸ { h with fwd := { h.fwd with windows := (List.length_set ..).trans h.fwd.windows } }
  | upstream =>
    obtain ⟨x, hitems, hx⟩ := Option.bind_eq_some_iff.mp hw
    have hmarks : x.Fits r o := applyItems_keeps (fun _ _ _ => setUpstreamField_fits) hitems h.fwd
    split at hx
    · exact Option.some.inj hx ▸ serve_fits (judgeWatermarks_fits { h with fwd := hmarks })
    · exact nomatch hx
  | querySettings =>
    obtain ⟨x, hitems, rfl⟩ := Option.map_eq_some_iff.mp hw
    have hlen : x.entries.length = 8 := applyItems_keeps (P := fun q : QueryTable => q.entries.length = 8)
      (fun _ _ _ hf hq => setQueryField_entries hf ▸ hq) hitems h.queries
    exact { h with queries := hlen }
  | guard =>
    obtain ⟨x, -, rfl⟩ := Option.map_eq_some_iff.mp hw
    exact writeGuard_fits _ _ h
  | line =>
    obtain ⟨x, -, rfl⟩ := Option.map_eq_some_iff.mp hw
    exact writeLine_fits _ _ h
  | channel =>
    obtain ⟨x, hitems, rfl⟩ := Option.map_eq_some_iff.mp hw
    exact writeChannel_fits _
      (applyItems_keeps (fun _ _ _ => setChannelField_inRanges) hitems (channel_fits h index).ranges) h
  | dispatch =>
    obtain ⟨x, hitems, rfl⟩ := Option.map_eq_some_iff.mp hw
    have hslots : x.slots = s.dispatch.slots :=
      applyItems_keeps (P := fun d : DispatchUnit => d.slots = s.dispatch.slots)
        (fun _ _ _ hf hd => (setDispatchItem_slots hf).trans hd) hitems rfl
    exact dispatch_fits hslots h
  | arbiterLevel =>
    obtain ⟨x, -, rfl⟩ := Option.map_eq_some_iff.mp hw
    exact { h with }
  | attention =>
    obtain ⟨x, -, rfl⟩ := Option.map_eq_some_iff.mp hw
    exact modFlag_fits _ _ h
  | recorderConfig =>
    simp only [writeTable] at hw
    split at hw
    · obtain ⟨x, -, rfl⟩ := Option.map_eq_some_iff.mp hw
      exact recorder_fits rfl h
    · obtain ⟨x, -, rfl⟩ := Option.map_eq_some_iff.mp hw
      exact recorder_fits rfl h
  | _ => exact nomatch hw

theorem takeWrite_fits (f : Frame) (h : Fits r o s) : Fits (r + 1) o (takeWrite f s) := by
  unfold takeWrite
  split
  · exact replySetup_fits _ _ h
  · split
    · exact replySetup_fits _ _ h
    · simp only
      split
      · exact replySetup_fits _ _ h
      · split
        · exact replySetup_fits _ _ h
        · split
          · exact replySetup_fits _ _ h
          · split
            · exact replySetup_fits _ _ h
            · next hw => exact replySetup_fits _ _ (writeTable_fits hw h)

theorem takeRead_fits (f : Frame) (h : Fits r o s) : Fits (r + 1) o (takeRead f s) := by
  unfold takeRead
  split
  · exact replySetup_fits _ _ h
  · simp only
    split
    · exact replySetup_fits _ _ h
    · split
      · exact replySetup_fits _ _ h
      · split
        · exact replySetup_fits _ _ h
        · exact placeReply_fits _ _ h

/-! ### START and STOP -/

theorem replyDone_fits (f : Frame) (h : Fits r o s) : Fits (r + 1) o (replyDone f s) :=
  replySetup_fits _ _ (serve_fits h)

theorem dispatchStart_fits (h : Fits r o s) : Fits r o (dispatchStart s) := by
  unfold dispatchStart
  split
  · exact settle_fits (enterFromStopped_fits h)
  · exact h

theorem startActions_fits (h : Fits r o s) : Fits r o (startActions s) :=
  dispatchStart_fits (emissionStart_fits (guardStart_fits { h with }))

theorem takeStart_fits (f : Frame) (h : Fits r o s) : Fits (r + 1) o (takeStart f s) := by
  unfold takeStart
  split
  · exact replySetup_fits _ _ h
  · split
    · exact placeReply_fits _ _ h
    · exact placeReply_fits _ _ (serve_fits (startActions_fits h))

theorem recorderStop_fits (h : Fits r o s) : Fits r o (recorderStop s) := by
  unfold recorderStop
  split
  · exact freezeRecorder_fits h
  · exact h

theorem stopActions_fits (h : Fits r o s) : Fits r o (stopActions s) :=
  recorderStop_fits (settle_fits (enterStopped_fits (emissionStop_fits (guardStop_fits { h with }))))

theorem takeStop_fits (f : Frame) (h : Fits r o s) : Fits (r + 1) o (takeStop f s) := by
  unfold takeStop
  split
  · exact replySetup_fits _ _ h
  · exact replyDone_fits f (stopActions_fits h)

/-! ### The other SETUP operations -/

theorem setClock_fits (day ms : Nat) (h : Fits r o s) : Fits r o (setClock day ms s) :=
  emissionTimeSet_fits (setCondition_fits _ _ { h with })

theorem takeTime_fits (f : Frame) (h : Fits r o s) : Fits (r + 1) o (takeTime f s) := by
  unfold takeTime
  simp only
  split
  · exact replySetup_fits _ _ h
  · split
    · exact replySetup_fits _ _ h
    · exact replyDone_fits f (setClock_fits _ _ h)

theorem takeLock_fits (f : Frame) (h : Fits r o s) : Fits (r + 1) o (takeLock f s) := replySetup_fits _ _ { h with }

theorem takeSubstitute_fits (f : Frame) (h : Fits r o s) : Fits (r + 1) o (takeSubstitute f s) := by
  unfold takeSubstitute
  simp only
  split
  · exact replySetup_fits _ _ h
  · split
    · exact replyDone_fits f (settle_fits (substitutePoint_fits _ _ h))
    · exact replySetup_fits _ _ h

theorem takeUnsubstitute_fits (f : Frame) (h : Fits r o s) : Fits (r + 1) o (takeUnsubstitute f s) := by
  unfold takeUnsubstitute
  simp only
  split
  · apply replyDone_fits
    split
    · exact settle_fits (unsubstitutePoint_fits _ h)
    · exact h
  · exact replySetup_fits _ _ h

theorem takeReset_fits (f : Frame) (h : Fits r o s) : Fits (r + 1) o (takeReset f s) := placeReply_fits _ _ { h with }

theorem takeRelease_fits (f : Frame) (h : Fits r o s) : Fits (r + 1) o (takeRelease f s) := by
  unfold takeRelease
  simp only
  split
  · split
    · exact replySetup_fits _ _ h
    · exact replySetup_fits _ _ (releaseOutput_fits _ h)
  · exact replySetup_fits _ _ h

theorem takeClear_fits (f : Frame) (h : Fits r o s) : Fits (r + 1) o (takeClear f s) := by
  unfold takeClear
  simp only
  split
  · exact replySetup_fits _ _ h
  · exact placeReply_fits _ _ (foldl_fits (fun _ i => modFlag_fits i _) _ h)

theorem forceFlag_fits (i : Nat) (h : Fits r o s) : Fits r o (forceFlag i s) := by
  have hforced := placeNotice_fits i (modFlag_fits i (fun x => { x with isSet := true, forced := true }) h)
  unfold forceFlag
  simp only
  split
  · exact markerTrigger_fits _ _ _ hforced
  · exact hforced

theorem takeForce_fits (f : Frame) (h : Fits r o s) : Fits (r + 1) o (takeForce f s) := by
  unfold takeForce
  simp only
  split
  · exact replySetup_fits _ _ h
  · exact replyDone_fits f (forceFlag_fits _ h)

theorem commandRestart_fits (f : Frame) (p : Port) (rate : Option Rate) (h : Fits r o s) :
    Fits (r + 1) o (commandRestart f p rate s) := by
  cases p
  · exact placeReply_fits _ _ { h with }
  · exact replySetup_fits _ _ (restartPort_fits _ _ h)

theorem takePortRestart_fits (f : Frame) (h : Fits r o s) : Fits (r + 1) o (takePortRestart f s) := by
  unfold takePortRestart
  split
  · exact replySetup_fits _ _ h
  · exact commandRestart_fits _ _ _ h

theorem takePortRate_fits (f : Frame) (h : Fits r o s) : Fits (r + 1) o (takePortRate f s) := by
  unfold takePortRate
  split
  · exact commandRestart_fits _ _ _ h
  · exact replySetup_fits _ _ h

theorem takeRearm_fits (f : Frame) (h : Fits r o s) : Fits (r + 1) o (takeRearm f s) :=
  replySetup_fits _ _ (setCondition_fits _ _ { h with buffer := Nat.zero_le _ })

theorem takeEnable_fits (f : Frame) (h : Fits r o s) : Fits (r + 1) o (takeEnable f s) := by
  have henabled : Fits r o { s with dispatch := { s.dispatch with enable := true } } := dispatch_fits rfl h
  unfold takeEnable
  split
  · exact replySetup_fits _ _ h
  · split
    · apply replyDone_fits
      split
      · exact settle_fits (enterFromStopped_fits henabled)
      · exact henabled
    · exact replySetup_fits _ _ h

theorem takeDisable_fits (f : Frame) (h : Fits r o s) : Fits (r + 1) o (takeDisable f s) :=
  replyDone_fits f (settle_fits (enterStopped_fits (dispatch_fits rfl h)))

theorem takeDispatchRun_fits (f : Frame) (h : Fits r o s) : Fits (r + 1) o (takeDispatchRun f s) := by
  unfold takeDispatchRun
  split
  · exact replySetup_fits _ _ h
  · exact replySetup_fits _ _ h
  · exact replyDone_fits f (settle_fits (runCommanded_fits h))

theorem takeDispatchHold_fits (f : Frame) (h : Fits r o s) : Fits (r + 1) o (takeDispatchHold f s) := by
  unfold takeDispatchHold
  split
  · exact replySetup_fits _ _ h
  · exact replyDone_fits f (settle_fits (holdCause_fits _ h))

theorem clearGroup_fits (g : CounterGroup) (h : Fits r o s) : Fits r o (clearGroup s g) := by
  cases g with
  | portS => exact { h with }
  | portF => exact { h with }
  | forwarding => exact countFwd_fits (fun _ => .zero) h
  | points => exact { h with points := (List.length_map ..).trans h.points }
  | query => exact { h with }
  | arbiter => exact { h with }
  | guard => exact mapGuards_fits _ h
  | channels => exact mapChannels_fits (fun _ hc => { hc with }) h
  | dispatch => exact dispatch_fits rfl h
  | recorder => exact recorder_fits rfl h

theorem takeCounterClear_fits (f : Frame) (h : Fits r o s) : Fits (r + 1) o (takeCounterClear f s) := by
  unfold takeCounterClear
  split
  · exact replySetup_fits _ _ h
  · exact replySetup_fits _ _ (foldl_fits (fun _ g => clearGroup_fits g) _ h)

/-! ### A step -/

theorem fits_of_next {t u : State} (he : (.next u : Host.Outcome State Fault Refusal) = .next t) (h : Fits r o u) :
    Fits r o t := by
  cases he
  exact h

end

/-- A command of the interface keeps the bounds, reply-bearing ones with the place that the taking found free (R23). -/
theorem exec_fits {c : Instr} {s t : State} (he : exec c s = .next t) (h : Fits 16 32 s) : Fits 16 32 t := by
  cases c with
  | powerOn straps => exact fits_of_next he (powerOn_fits _ _ _)
  | powerOnReset => exact fits_of_next he holdInReset_fits
  | frameReceived p cutOff bytes =>
    exact fits_of_next he (whileAwake_fits (fun h => receiveFrame_fits p cutOff bytes
      (serve_fits (symbolArrives_fits p h))) h)
  | symbolReceived p y => exact fits_of_next he (whileAwake_fits (fun h => symbolArrives_fits p (delimit_fits p y h)) h)
  | pauseReceived p =>
    exact fits_of_next he (whileAwake_fits (fun h => pauseArrives_fits p (serve_fits (cutOffReception_fits p h))) h)
  | resumeReceived p =>
    exact fits_of_next he (whileAwake_fits (fun h => symbolArrives_fits p (endPause_fits p (cutOffReception_fits p h))) h)
  | pauseTimerExpiry p => exact fits_of_next he (atExpiry_fits _ (endPause_fits p) h)
  | linkDownExpiry p => exact fits_of_next he (atExpiry_fits _ (linkDown_fits p) h)
  | frameCompletes p =>
    refine fits_of_next he ?_
    split
    · exact h
    · exact whileAwake_fits (completeFrame_fits p _) h
  | addressConflict p f => exact fits_of_next he (takeFrame_fits (fun _ => conflict_fits) h)
  | sPortFrameDropped f => exact fits_of_next he (takeFrame_fits (fun _ => dropFromS_fits f) h)
  | orderToPart f => exact fits_of_next he (takeReplied_fits rfl (fun _ => takeSelfOrder_fits f) h)
  | queryToPart f => exact fits_of_next he (takeReplied_fits rfl (fun _ => takeSelfQuery_fits f) h)
  | orderFrameAcceptance f => exact fits_of_next he (takeReplied_fits rfl (fun _ => acceptOrders_fits f) h)
  | passThroughEntry f => exact fits_of_next he (takeReplied_fits rfl (fun _ => passThrough_fits f) h)
  | supervisoryQuery f => exact fits_of_next he (takeReplied_fits rfl (fun _ => takeQuery_fits f) h)
  | fieldReport f => exact fits_of_next he (takeFrame_fits (fun _ => takeReport_fits f) h)
  | fieldAnswer f => exact fits_of_next he (takeFrame_fits (fun _ => takeAnswer_fits f) h)
  | upPassThrough f => exact fits_of_next he (takeFrame_fits (fun _ => queueUpPass_fits f) h)
  | fieldFrameDropped f => exact fits_of_next he (takeFrame_fits (fun _ => dropFromF_fits f) h)
  | freshnessExpiry p => exact fits_of_next he (atExpiry_fits _ (fun h => settle_fits (expireFreshness_fits p h)) h)
  | answerTimerExpiry i => exact fits_of_next he (atExpiry_fits _ (answerExpires_fits i) h)
  | discardTimerExpiry i => exact fits_of_next he (atExpiry_fits _ (discardExpires_fits i) h)
  | rampTimerExpiry i => exact fits_of_next he (atExpiry_fits _ (rampExpires_fits i) h)
  | periodBoundary =>
    refine fits_of_next he ?_
    split
    · exact whileAwake_fits periodBoundaryEvent_fits h
    · exact h
  | inputHoldExpiry i => exact fits_of_next he (atExpiry_fits _ (inputHoldExpires_fits i) h)
  | cycleTimerExpiry => exact fits_of_next he (atExpiry_fits _ cycleTimerExpires_fits h)
  | write f => exact fits_of_next he (takeReplied_fits rfl (fun _ => takeWrite_fits f) h)
  | read f => exact fits_of_next he (takeReplied_fits rfl (fun _ => takeRead_fits f) h)
  | start f => exact fits_of_next he (takeReplied_fits rfl (fun _ => takeStart_fits f) h)
  | stop f => exact fits_of_next he (takeReplied_fits rfl (fun _ => takeStop_fits f) h)
  | time f => exact fits_of_next he (takeReplied_fits rfl (fun _ => takeTime_fits f) h)
  | substitute f => exact fits_of_next he (takeReplied_fits rfl (fun _ => takeSubstitute_fits f) h)
  | unsubstitute f => exact fits_of_next he (takeReplied_fits rfl (fun _ => takeUnsubstitute_fits f) h)
  | lock f => exact fits_of_next he (takeReplied_fits rfl (fun _ => takeLock_fits f) h)
  | reset f => exact fits_of_next he (takeReplied_fits rfl (fun _ => takeReset_fits f) h)
  | release f => exact fits_of_next he (takeReplied_fits rfl (fun _ => takeRelease_fits f) h)
  | clear f => exact fits_of_next he (takeReplied_fits rfl (fun _ => takeClear_fits f) h)
  | force f => exact fits_of_next he (takeReplied_fits rfl (fun _ => takeForce_fits f) h)
  | portRestart f => exact fits_of_next he (takeReplied_fits rfl (fun _ => takePortRestart_fits f) h)
  | portRate f => exact fits_of_next he (takeReplied_fits rfl (fun _ => takePortRate_fits f) h)
  | rearm f => exact fits_of_next he (takeReplied_fits rfl (fun _ => takeRearm_fits f) h)
  | dispatchEnable f => exact fits_of_next he (takeReplied_fits rfl (fun _ => takeEnable_fits f) h)
  | dispatchDisable f => exact fits_of_next he (takeReplied_fits rfl (fun _ => takeDisable_fits f) h)
  | dispatchRun f => exact fits_of_next he (takeReplied_fits rfl (fun _ => takeDispatchRun_fits f) h)
  | dispatchHold f => exact fits_of_next he (takeReplied_fits rfl (fun _ => takeDispatchHold_fits f) h)
  | counterClear f => exact fits_of_next he (takeReplied_fits rfl (fun _ => takeCounterClear_fits f) h)

/-- What the part does by itself changes the pending queue and the time, or acts on an owed occasion. -/
theorem idle_fits {r o : Nat} {s : State} (h : Fits r o s) : Fits r o (idle s) := by
  unfold idle
  split
  · exact h
  · split
    · exact { h with }
    · split
      · exact settle_fits h
      · exact { h with }

/-- Settles O5: each operation keeps the bounds of every block; a reply has its place free when its frame is taken, and
orders are placed only where they fit. -/
theorem stepKeepsBounds : Obligations.StepKeepsBounds := by
  intro s t hb hstep
  have h := fits_of_bounded hb
  unfold step at hstep
  split at hstep
  · exact bounded_of_fits (fits_of_next hstep (idle_fits h))
  · exact bounded_of_fits (exec_fits hstep { h with })

end Sys2Proof.Machine
end

section
namespace Sys2Proof.Machine
open Sys2Proof

/-! ### Query timers -/

/-- Under the attempt limit an answer timer's expiry sends the query again (R51). -/
theorem answerExpires_resends {i : Nat} {s : State} (h : (s.queryEntry i).attempts < s.query.attemptLimit) :
    answerExpires i s =
      (s.modQuery i (fun e => { e with state := .waitingSend, answerTimer := none })).countQuery
        (fun c => { c with resend := bump c.resend }) := if_pos h

/-- At the attempt limit an answer timer's expiry fails the query with NO-ANSWER (R51). -/
theorem answerExpires_fails {i : Nat} {s : State} (h : s.query.attemptLimit ≤ (s.queryEntry i).attempts) :
    answerExpires i s =
      raiseFlag .queryNoAnswer
        ((s.modQuery i (fun e => e.completed .failed ⟨e.point, 2, 0, 2⟩ (s.now + discardTime s))).countQuery
          (fun c => { c with noAnswer := bump c.noAnswer })) := if_neg (Nat.not_lt.mpr h)

/-- Settles O38: a due timer's expiry acts, and the attempt limit decides between sending again and failing. -/
theorem queryTimersExpire : Obligations.QueryTimersExpire := by
  refine ⟨fun i s m hawake ht hm => ?_, fun i s m hawake ht hm => ?_⟩
  · have hexec : exec (.answerTimerExpiry i) s = .next (serve (answerExpires i s)) :=
      congrArg Host.Outcome.next (atExpiry_of_due hawake ht hm _)
    refine ⟨fun hunder => ?_, fun hlimit => ?_⟩
    · rw [hexec, answerExpires_resends hunder]
      rfl
    · rw [hexec, answerExpires_fails hlimit]
      rfl
  · have hexec : exec (.discardTimerExpiry i) s = .next (serve (discardExpires i s)) :=
      congrArg Host.Outcome.next (atExpiry_of_due hawake ht hm _)
    exact hexec

/-! ### What taking a frame leaves of the query table -/

/-- An entry without its in-flight mark, which is all of it that the transmitter-free events reach. -/
def QueryEntry.unmarked (e : QueryEntry) : QueryEntry := { e with inFlight := false }

@[simp] theorem QueryEntry.unmarked_state (e : QueryEntry) : e.unmarked.state = e.state := rfl
@[simp] theorem QueryEntry.unmarked_answer (e : QueryEntry) : e.unmarked.answer = e.answer := rfl
@[simp] theorem QueryEntry.unmarked_hasKey (e : QueryEntry) (f : Frame) : e.unmarked.hasKey f = e.hasKey f := rfl

theorem taken_query (p : Port) (f : Frame) (s : State) :
    { (taken p f s).query with entries := (taken p f s).query.entries.map QueryEntry.unmarked } =
      { s.query with entries := s.query.entries.map QueryEntry.unmarked } := by
  have h := congrArg State.query (taken_standing p f s)
  generalize taken p f s = t at *
  cases p <;> exact h

theorem taken_queryCounters (p : Port) (f : Frame) (s : State) :
    (taken p f s).query.counters = s.query.counters :=
  (congrArg QueryTable.counters (taken_query p f s) :)

theorem taken_discardTime (p : Port) (f : Frame) (s : State) : discardTime (taken p f s) = discardTime s :=
  (congrArg (fun q : QueryTable => if q.long then 20000 else 2000) (taken_query p f s) :)

/-- Taking a frame changes an entry in its in-flight mark alone. -/
theorem taken_queryEntry (p : Port) (f : Frame) (s : State) (i : Nat) :
    ((taken p f s).queryEntry i).unmarked = (s.queryEntry i).unmarked := by
  have view (q : QueryTable) : (q.entries.map QueryEntry.unmarked).getD i (.freed 0 false) =
      (q.entries.getD i (.freed 0 false)).unmarked := List.getD_map (d := QueryEntry.freed 0 false) ..
  rw [State.queryEntry, State.queryEntry, ← view, ← view]
  exact (congrArg (fun q : QueryTable => q.entries.getD i (.freed 0 false)) (taken_query p f s) :)

theorem taken_queryState (p : Port) (f : Frame) (s : State) (i : Nat) :
    ((taken p f s).queryEntry i).state = (s.queryEntry i).state := by
  simpa only [QueryEntry.unmarked_state] using congrArg QueryEntry.state (taken_queryEntry p f s i)

theorem taken_queryAnswer (p : Port) (f : Frame) (s : State) (i : Nat) :
    ((taken p f s).queryEntry i).answer = (s.queryEntry i).answer := by
  simpa only [QueryEntry.unmarked_answer] using congrArg QueryEntry.answer (taken_queryEntry p f s i)

theorem taken_hasKey (p : Port) (f g : Frame) (s : State) (i : Nat) :
    ((taken p f s).queryEntry i).hasKey g = (s.queryEntry i).hasKey g := by
  simpa only [QueryEntry.unmarked_hasKey] using congrArg (·.hasKey g) (taken_queryEntry p f s i)

theorem keyedEntry_taken (p : Port) (f g : Frame) (s : State) : keyedEntry (taken p f s) g = keyedEntry s g := by
  simp only [keyedEntry, taken_hasKey]

theorem freeEntry_taken (p : Port) (f : Frame) (s : State) : freeEntry (taken p f s) = freeEntry s := by
  simp only [freeEntry, taken_queryState]

/-! ### A supervisory QUERY -/

theorem hasKey_iff {e : QueryEntry} {f : Frame} :
    e.hasKey f = true ↔
      e.state ≠ .free ∧ e.origin = f.src ∧ e.dest = f.dest ∧ e.point = queryPoint f ∧ e.tag = f.tag := by
  simp only [QueryEntry.hasKey, Bool.and_eq_true, decide_eq_true_eq, and_assoc]

theorem keyedEntry_eq_some {s : State} {f : Frame} {i : Nat} (hi : i < 8) (hkey : (s.queryEntry i).hasKey f = true)
    (hfirst : ∀ j < i, ¬(s.queryEntry j).hasKey f = true) : keyedEntry s f = some i := by
  simp only [keyedEntry, List.find?_range_eq_some, List.mem_range]
  exact ⟨hkey, hi, fun j hj => by simpa using hfirst j hj⟩

theorem keyedEntry_eq_none {s : State} {f : Frame} (h : ∀ i < 8, ¬(s.queryEntry i).hasKey f = true) :
    keyedEntry s f = none := by
  simpa [keyedEntry] using h

theorem freeEntry_eq_some {s : State} {i : Nat} (hi : i < 8) (hfree : (s.queryEntry i).state = .free)
    (hfirst : ∀ j < i, (s.queryEntry j).state ≠ .free) : freeEntry s = some i := by
  simp only [freeEntry, List.find?_range_eq_some, List.mem_range]
  exact ⟨by simpa using hfree, hi, fun j hj => by simpa using hfirst j hj⟩

theorem freeEntry_eq_none {s : State} (h : ∀ i < 8, (s.queryEntry i).state ≠ .free) : freeEntry s = none := by
  simpa [freeEntry] using h

/-- A query whose key waits or was sent is PENDING (R45). -/
theorem takeQuery_pending {s : State} {f : Frame} {i : Nat} (hk : keyedEntry s f = some i)
    (hst : (s.queryEntry i).state = .waitingSend ∨ (s.queryEntry i).state = .sent) :
    takeQuery f s = replyQuery f .pending s := by
  rcases hst with hst | hst <;> simp only [takeQuery, hk, hst]

/-- A query whose key is DONE or FAILED is delivered, and frees its entry (R53). -/
theorem takeQuery_delivers {s : State} {f : Frame} {i : Nat} {a : Answer} (hk : keyedEntry s f = some i)
    (hst : (s.queryEntry i).state = .done ∨ (s.queryEntry i).state = .failed)
    (ha : (s.queryEntry i).answer = some a) :
    takeQuery f s = (placeReply (answerFrame s f a) .plain s).modQuery i (fun e => .freed e.gen e.inFlight) := by
  rcases hst with hst | hst <;> simp only [takeQuery, hk, hst, ha, Option.getD_some]

/-- A new query takes the lowest FREE entry and the next acceptance number (R45, R46). -/
theorem takeQuery_allocates {s : State} {f : Frame} {i : Nat} (hk : keyedEntry s f = none)
    (hfree : freeEntry s = some i) :
    takeQuery f s = replyQuery f .pending { s with
      fwd := { s.fwd with acceptance := s.fwd.acceptance + 1 }
      query := { s.query with entries := s.query.entries.modify i (·.allocated f s.fwd.acceptance) } } := by
  simp only [takeQuery, hk, hfree]
  rfl

/-- A new query that finds no FREE entry is counted and refused BUSY (R45). -/
theorem takeQuery_busy {s : State} {f : Frame} (hk : keyedEntry s f = none) (hfree : freeEntry s = none) :
    takeQuery f s =
      replyQuery f .busy (s.countQuery (fun c => { c with queryBusy := bump c.queryBusy })) := by
  simp only [takeQuery, hk, hfree]

/-- The reply with one result entry, the query's point (R45, R208). -/
theorem replyQuery_eq (f : Frame) (code : Status) (s : State) :
    replyQuery f code s = placeReply
      { dest := f.src, src := s.part.station, kind := .status, count := 1, tag := f.tag,
        body := pointWord 0 (queryPoint f) ++ [byteOf (statusCode code), 0, 0, 0] } .plain s := by
  simp only [replyQuery, resultStatus, List.flatMap_singleton, List.length_singleton]

/-- Settles O34: the cases of R45 in their order, on a table that the taking of the frame left as it was but for
in-flight marks. -/
theorem supervisoryQueryIsTaken : Obligations.SupervisoryQueryIsTaken := by
  intro f s h _ t keyed reply status
  have hkeyed (i : Nat) : keyed i ↔ (s.queryEntry i).hasKey f = true := hasKey_iff.symm
  have hexec : exec (.supervisoryQuery f) s = .next (serve (takeQuery f t)) := exec_of_takes (act := takeQuery f) rfl h
  have hpart : t.part = s.part := taken_part .sPort f s
  have hkey : keyedEntry t f = keyedEntry s f := keyedEntry_taken ..
  have hfree : freeEntry t = freeEntry s := freeEntry_taken ..
  have hstate (i : Nat) : (t.queryEntry i).state = (s.queryEntry i).state := taken_queryState ..
  have hanswer (i : Nat) : (t.queryEntry i).answer = (s.queryEntry i).answer := taken_queryAnswer ..
  have hacceptance : t.fwd.acceptance = s.fwd.acceptance := taken_acceptance ..
  have hcounters : t.query.counters = s.query.counters := taken_queryCounters ..
  clear_value t
  have hreply (c : Status) {u : State} (hu : u.part = s.part) : replyQuery f c u = reply (status c) u := by
    rw [replyQuery_eq, hu]
    rfl
  rw [hexec]
  refine ⟨fun i hi hown hfirst => ?_, fun hnone => ?_⟩
  · have hk : keyedEntry t f = some i :=
      hkey.trans (keyedEntry_eq_some hi ((hkeyed i).mp hown) (fun j hj => (hkeyed j).not.mp (hfirst j hj)))
    rw [← hstate i, ← hanswer i]
    refine ⟨fun hwaits => ?_, fun hstored a ha => ?_⟩
    · rw [takeQuery_pending hk hwaits, hreply _ hpart]
    · rw [takeQuery_delivers hk hstored ha, answerFrame, hpart]
      rfl
  · have hk : keyedEntry t f = none :=
      hkey.trans (keyedEntry_eq_none (fun i hi => (hkeyed i).not.mp (hnone i hi)))
    refine ⟨fun i hi hidle hfirst => ?_, fun hfull => ?_⟩
    · rw [takeQuery_allocates hk (hfree.trans (freeEntry_eq_some hi hidle hfirst)), hacceptance,
        hreply _ (by exact hpart)]
      rfl
    · rw [takeQuery_busy hk (hfree.trans (freeEntry_eq_none hfull)), hreply _ (by exact hpart), State.countQuery,
        hcounters]

/-! ### A field ANSWER -/

/-- An entry that waits or was sent agrees with an answer in generation, station and point (R49, R50). -/
def QueryEntry.awaits (e : QueryEntry) (f : Frame) : Prop :=
  (e.state = .waitingSend ∨ e.state = .sent) ∧ e.gen = f.tag % 32 ∧ e.dest = f.src ∧ e.point = (answerOf f).point

@[simp] theorem QueryEntry.unmarked_awaits (e : QueryEntry) (f : Frame) : e.unmarked.awaits f = e.awaits f := rfl

theorem taken_awaits (p : Port) (f g : Frame) (s : State) (i : Nat) :
    ((taken p f s).queryEntry i).awaits g ↔ (s.queryEntry i).awaits g := by
  simpa only [QueryEntry.unmarked_awaits] using Iff.of_eq (congrArg (·.awaits g) (taken_queryEntry p f s i))

theorem answerMatches_iff {s : State} {f : Frame} :
    answerMatches s f = true ↔
      (s.queryEntry (f.tag / 32)).state ≠ .free ∧ (s.queryEntry (f.tag / 32)).gen = f.tag % 32 ∧
        (s.queryEntry (f.tag / 32)).dest = f.src ∧ (s.queryEntry (f.tag / 32)).point = (answerOf f).point := by
  simp only [answerMatches, Bool.and_eq_true, decide_eq_true_eq, and_assoc]
  rfl

/-- An answer that its entry awaits completes the entry as DONE (R50). -/
theorem takeAnswer_completes {s : State} {f : Frame} (h : (s.queryEntry (f.tag / 32)).awaits f) :
    takeAnswer f s = s.modQuery (f.tag / 32) (fun e => e.completed .done (answerOf f) (s.now + discardTime s)) := by
  obtain ⟨hst, hkey⟩ := h
  have hmatch : answerMatches s f = true := answerMatches_iff.mpr ⟨by rcases hst with hst | hst <;> simp [hst], hkey⟩
  rcases hst with hst | hst <;> simp only [takeAnswer, answerEntry, hmatch, hst, if_true]

/-- An answer that its entry does not await is counted as late (R49, R50). -/
theorem takeAnswer_late {s : State} {f : Frame} (h : ¬(s.queryEntry (f.tag / 32)).awaits f) :
    takeAnswer f s = s.countQuery (fun c => { c with lateAnswer := bump c.lateAnswer }) := by
  unfold takeAnswer
  simp only [answerEntry]
  split
  · next hmatch =>
    obtain ⟨-, hkey⟩ := answerMatches_iff.mp hmatch
    split
    · next hst => exact absurd ⟨.inr hst, hkey⟩ h
    · next hst => exact absurd ⟨.inl hst, hkey⟩ h
    · rfl
  · rfl

/-- Settles O36: the answer meets the entry that its tag names, which the taking of the frame left as it was but for its
in-flight mark. -/
theorem fieldAnswerCompletesItsQuery : Obligations.FieldAnswerCompletesItsQuery := by
  intro f s h t i e matched
  have hexec : exec (.fieldAnswer f) s = .next (serve (takeAnswer f t)) := exec_of_takes (act := takeAnswer f) rfl h
  have hawaits : (t.queryEntry i).awaits f ↔ matched := taken_awaits .fPort f f s i
  have hnow : t.now = s.now := taken_now .fPort f s
  have htime : discardTime t = discardTime s := taken_discardTime .fPort f s
  have hcounters : t.query.counters = s.query.counters := taken_queryCounters .fPort f s
  clear_value t
  refine ⟨fun hmatch => ?_, fun hno => ?_⟩
  · rw [hexec, takeAnswer_completes (hawaits.mpr hmatch), hnow, htime]
    rfl
  · rw [hexec, takeAnswer_late (hawaits.not.mpr hno), State.countQuery, hcounters]

end Sys2Proof.Machine
end

section
namespace Sys2Proof.Machine
open Sys2Proof

/-! ### The grant order -/

/-- The first requester of a level with work, once round from a pointer, is the one that the search finds (R60). -/
theorem searchRing_eq_some {s : State} {l : Level} {p r : Requester} {pre post : List Requester}
    (hring : ringFrom p = pre ++ r :: post) (hl : s.arbiter.level r = l) (hw : hasWork s r = true)
    (hpre : ∀ q ∈ pre, ¬(s.arbiter.level q = l ∧ hasWork s q = true)) : searchRing s l p = some r := by
  rw [searchRing, List.find?_eq_some_iff_append]
  exact ⟨by simp [hl, hw], pre, post, hring, fun q hq => by simpa [imp_iff_not_or] using hpre q hq⟩

theorem searchRing_eq_none {s : State} {l : Level} {p : Requester}
    (h : ∀ q, ¬(s.arbiter.level q = l ∧ hasWork s q = true)) : searchRing s l p = none := by
  rw [searchRing, List.find?_eq_none]
  exact fun q _ => by simpa using h q

theorem grantChoice_trip {s : State} {t : TripOrder} {rest : List TripOrder} (h : s.guard.trips = t :: rest) :
    grantChoice s = some .trip := by
  simp [grantChoice, h]

theorem grantChoice_high {s : State} {r : Requester} (ht : s.guard.trips = [])
    (h : searchRing s .high s.arbiter.highPtr = some r) : grantChoice s = some (.ring .high r) := by
  simp [grantChoice, ht, h]

theorem grantChoice_low {s : State} {r : Requester} (ht : s.guard.trips = [])
    (hhigh : searchRing s .high s.arbiter.highPtr = none) (h : searchRing s .low s.arbiter.lowPtr = some r) :
    grantChoice s = some (.ring .low r) := by
  simp [grantChoice, ht, hhigh, h]

theorem grantChoice_none {s : State} (ht : s.guard.trips = []) (hhigh : searchRing s .high s.arbiter.highPtr = none)
    (hlow : searchRing s .low s.arbiter.lowPtr = none) : grantChoice s = none := by
  simp [grantChoice, ht, hhigh, hlow]

/-- A port that may not begin a frame has no grant event (R59). -/
theorem serveF_of_not {s : State} (h : s.fPort.mayBegin = false) : serveF s = s := by
  simp [serveF, h]

theorem serveF_of_none {s : State} (h : grantChoice s = none) : serveF s = s := by
  simp [serveF, h]

theorem serveF_of_trip {s : State} (hb : s.fPort.mayBegin = true) (h : grantChoice s = some .trip) :
    serveF s = grantTrip s := by
  simp [serveF, hb, h]

theorem serveF_of_ring {s : State} {l : Level} {r : Requester} (hb : s.fPort.mayBegin = true)
    (h : grantChoice s = some (.ring l r)) :
    serveF s = grantRequester r { s with arbiter := s.arbiter.movePtr l r } := by
  simp [serveF, hb, h]

/-! ### The frames of SUPERVISORY -/

/-- An order queue entry goes in a frame with a destination and origin (R62). -/
def QueueEntry.goesTo (dest origin : Nat) : QueueEntry → Bool
  | .order d _ _ o _ _ => decide (d = dest) && decide (o = origin)
  | .pass _ _ => false

theorem goesTo_iff {d o : Nat} {e : QueueEntry} : e.goesTo d o = true ↔ ∃ p v g q, e = .order d p v o g q := by
  cases e <;> simp [QueueEntry.goesTo]

theorem packedHead_eq (d o : Nat) (q : List QueueEntry) : packedHead d o q = (q.take 8).takeWhile (·.goesTo d o) := rfl

theorem packedHead_prefix (d o : Nat) (q : List QueueEntry) : packedHead d o q <+: q :=
  (List.takeWhile_prefix _).trans (List.take_prefix 8 q)

/-- What is packed is the head of the queue of its own length. -/
theorem take_length_packedHead (d o : Nat) (q : List QueueEntry) :
    q.take (packedHead d o q).length = packedHead d o q :=
  (List.prefix_iff_eq_take.mp (packedHead_prefix d o q)).symm

theorem packedHead_length_le (d o : Nat) (q : List QueueEntry) : (packedHead d o q).length ≤ 8 :=
  (List.takeWhile_prefix _).length_le.trans (List.length_take_le 8 q)

theorem packedHead_goes {d o : Nat} {q : List QueueEntry} {e : QueueEntry} (h : e ∈ packedHead d o q) :
    e.goesTo d o = true := List.mem_takeWhile_imp h

/-- A head entry of the two stations is packed. -/
theorem packedHead_length_pos (d p : Nat) (v : Value) (o : Nat) (g : Bool) (n : Seq) (rest : List QueueEntry) :
    1 ≤ (packedHead d o (.order d p v o g n :: rest)).length := by
  simp [packedHead_eq, QueueEntry.goesTo]

/-- The entry after the packed ones, where there was room for it, has another destination or origin (R62). -/
theorem packedHead_stops {d o : Nat} {q : List QueueEntry} {e : QueueEntry} (hroom : (packedHead d o q).length < 8)
    (he : q[(packedHead d o q).length]? = some e) : ¬e.goesTo d o = true := by
  rw [packedHead_eq] at hroom he
  rw [← List.getElem?_take_of_lt hroom] at he
  generalize q.take 8 = l at he
  have hhead : (l.dropWhile (·.goesTo d o)).head? = some e := by
    have hsplit := List.takeWhile_append_dropWhile (p := (·.goesTo d o)) (l := l)
    generalize l.takeWhile (·.goesTo d o) = pre, l.dropWhile (·.goesTo d o) = post at he hsplit ⊢
    simpa [← hsplit, List.head?_eq_getElem?, List.getElem?_append_right] using he
  have hstop := List.head?_dropWhile_not (·.goesTo d o) l
  rw [hhead] at hstop
  simpa using hstop

/-! ### The query that goes first -/

theorem holdsBack_order {st d p o : Nat} {v : Value} {g : Bool} {n q : Seq} :
    (QueueEntry.order d p v o g q).holdsBack st n = true ↔ (d = st ∨ d = 255) ∧ (q - n).slt 0 = true := by
  simp only [QueueEntry.holdsBack, Bool.and_eq_true, Bool.or_eq_true, decide_eq_true_eq]
  rfl

theorem holdsBack_pass {st : Nat} {f : Frame} {n q : Seq} :
    (QueueEntry.pass f q).holdsBack st n = true ↔ (f.dest = st ∨ f.dest = 255) ∧ (q - n).slt 0 = true := by
  simp only [QueueEntry.holdsBack, Bool.and_eq_true, Bool.or_eq_true, decide_eq_true_eq]
  rfl

theorem eligible_iff {s : State} {e : QueryEntry} :
    eligible s e = true ↔ e.state = .waitingSend ∧ e.inFlight = false ∧
      ∀ o ∈ s.fwd.orders, ¬o.holdsBack e.dest e.seq = true := by
  simp [eligible, and_assoc]

/-- One step of the search for the eligible entry with the lowest acceptance number (R48). -/
def earlierEntry (s : State) (best : Option Nat) (i : Nat) : Option Nat :=
  if eligible s (s.queryEntry i) then
    match best with
    | none => some i
    | some j => if Seq.before (s.queryEntry i).seq (s.queryEntry j).seq then some i else some j
  else best

theorem eligibleEntry_eq (s : State) : eligibleEntry s = (List.range 8).foldl (earlierEntry s) none := rfl

/-- What a step of the search holds is the entry that it looks at, which is eligible, or what it held before. -/
theorem earlierEntry_cases (s : State) (best : Option Nat) (i : Nat) :
    (earlierEntry s best i = some i ∧ eligible s (s.queryEntry i) = true) ∨ earlierEntry s best i = best := by
  unfold earlierEntry
  split
  · next h =>
    split
    · exact .inl ⟨rfl, h⟩
    · split
      · exact .inl ⟨rfl, h⟩
      · exact .inr rfl
  · exact .inr rfl

/-- The search holds only eligible entries of its list. -/
theorem eligible_of_foldl {s : State} {l : List Nat} {best : Option Nat} {i : Nat}
    (h : l.foldl (earlierEntry s) best = some i) :
    best = some i ∨ (i ∈ l ∧ eligible s (s.queryEntry i) = true) := by
  induction l generalizing best with
  | nil => exact .inl h
  | cons k l ih =>
    obtain hbest | ⟨hi, he⟩ := ih h
    · obtain ⟨hk, he⟩ | hk := earlierEntry_cases s best k
      · obtain rfl : k = i := Option.some.inj (hk.symm.trans hbest)
        exact .inr ⟨List.mem_cons_self, he⟩
      · exact .inl (hk.symm.trans hbest)
    · exact .inr ⟨List.mem_cons_of_mem k hi, he⟩

theorem eligible_of_eligibleEntry {s : State} {i : Nat} (h : eligibleEntry s = some i) :
    i < 8 ∧ eligible s (s.queryEntry i) = true := by
  obtain hnone | ⟨hi, he⟩ := eligible_of_foldl (eligibleEntry_eq s ▸ h)
  · exact nomatch hnone
  · exact ⟨List.mem_range.mp hi, he⟩

/-- An entry is earlier than every other eligible one: each is ahead of it by less than half the 32-bit circle (R37). -/
def FirstEligible (s : State) (i : Nat) : Prop :=
  ∀ j, j ≠ i → j < 8 → eligible s (s.queryEntry j) = true →
    0 < ((s.queryEntry j).seq - (s.queryEntry i).seq).toNat ∧
      ((s.queryEntry j).seq - (s.queryEntry i).seq).toNat < 2147483648

theorem before_iff {a b : Seq} : Seq.before a b = true ↔ 2147483648 ≤ (a - b).toNat := by
  simp [Seq.before, BitVec.slt_zero_iff_msb_cond, BitVec.msb_eq_decide]

/-- Less than half the circle ahead is after, and not before (R37). -/
theorem before_of_ahead {a b : Seq} (hpos : 0 < (b - a).toNat) (hhalf : (b - a).toNat < 2147483648) :
    Seq.before a b = true ∧ Seq.before b a = false := by
  rw [Bool.eq_false_iff, ne_eq, before_iff, before_iff]
  have hback : (a - b).toNat = 4294967296 - (b - a).toNat := by bv_omega
  omega

theorem before_self (a : Seq) : Seq.before a a = false := by
  simp [Seq.before]

/-- The first eligible entry takes the place of any other that the search holds. -/
theorem earlierEntry_takes {s : State} {i : Nat} {best : Option Nat} (hi : eligible s (s.queryEntry i) = true)
    (hfirst : FirstEligible s i) (hbest : ∀ j, best = some j → j < 8 ∧ eligible s (s.queryEntry j) = true) :
    earlierEntry s best i = some i := by
  unfold earlierEntry
  rw [if_pos hi]
  cases best with
  | none => rfl
  | some j =>
    by_cases hj : j = i
    · rw [hj]
      exact ite_self _
    · obtain ⟨hlt, he⟩ := hbest j rfl
      obtain ⟨hpos, hhalf⟩ := hfirst j hj hlt he
      exact if_pos (before_of_ahead hpos hhalf).1

/-- The first eligible entry keeps its place in the search. -/
theorem earlierEntry_stays {s : State} {i j : Nat} (hfirst : FirstEligible s i) (hj : j < 8) :
    earlierEntry s (some i) j = some i := by
  unfold earlierEntry
  split
  · next he =>
    by_cases hij : j = i
    · rw [hij]
      exact ite_self _
    · obtain ⟨hpos, hhalf⟩ := hfirst j hij hj he
      simp [(before_of_ahead hpos hhalf).2]
  · rfl

theorem foldl_earlierEntry_stays {s : State} {i : Nat} {l : List Nat} (hfirst : FirstEligible s i)
    (hl : ∀ j ∈ l, j < 8) : l.foldl (earlierEntry s) (some i) = some i := by
  induction l with
  | nil => rfl
  | cons j l ih =>
    obtain ⟨hj, hl⟩ := List.forall_mem_cons.mp hl
    rw [List.foldl_cons, earlierEntry_stays hfirst hj, ih hl]

/-- The first eligible entry is the one that the search finds (R48, R65). -/
theorem eligibleEntry_of_first {s : State} {i : Nat} (hlt : i < 8) (hi : eligible s (s.queryEntry i) = true)
    (hfirst : FirstEligible s i) : eligibleEntry s = some i := by
  obtain ⟨pre, post, hsplit⟩ := List.append_of_mem (List.mem_range.mpr hlt)
  have hrange : ∀ j ∈ pre ++ i :: post, j < 8 := fun j hj => List.mem_range.mp (hsplit ▸ hj)
  rw [eligibleEntry_eq, hsplit, List.foldl_append, List.foldl_cons,
    earlierEntry_takes hi hfirst (fun j hj => ?_), foldl_earlierEntry_stays hfirst (fun j hj => hrange j (by simp [hj]))]
  obtain hnone | ⟨hmem, he⟩ := eligible_of_foldl hj
  · exact nomatch hnone
  · exact ⟨hrange j (by simp [hmem]), he⟩

/-- What holds of the entry that the search finds holds of an eligible entry, and of the first where one is first. -/
theorem firstEligible_goes {s : State} {ready goes : Nat → Prop}
    (hready : ∀ i, ready i ↔ i < 8 ∧ eligible s (s.queryEntry i) = true) (hw : hasWork s .query = true)
    (hgoes : ∀ i, eligibleEntry s = some i → goes i) :
    (∃ i, ready i ∧ goes i) ∧
      ∀ i, ready i → (∀ j, j ≠ i → ready j →
        0 < ((s.queryEntry j).seq - (s.queryEntry i).seq).toNat ∧
          ((s.queryEntry j).seq - (s.queryEntry i).seq).toNat < 2147483648) → goes i := by
  refine ⟨?_, fun i hi hfirst => ?_⟩
  · obtain ⟨i, hi⟩ := Option.isSome_iff_exists.mp hw
    exact ⟨i, (hready i).mpr (eligible_of_eligibleEntry hi), hgoes i hi⟩
  · obtain ⟨hlt, he⟩ := (hready i).mp hi
    exact hgoes i (eligibleEntry_of_first hlt he fun j hij hj hej => hfirst j hij ((hready j).mpr ⟨hj, hej⟩))

/-! ### What a granted requester sends -/

/-- A pass-through frame goes out unchanged (R62, R66). -/
theorem grantSupervisory_pass {s : State} {f : Frame} {q : Seq} {rest : List QueueEntry}
    (h : s.fwd.orders = .pass f q :: rest) :
    grantSupervisory s = beginF f .plain (countGrant (fun c => { c with supervisory := bump c.supervisory })
      { s with fwd := { s.fwd with orders := rest } }) := by
  simp only [grantSupervisory, h]

/-- The packed head entries go out in one frame (R62, R66). -/
theorem grantSupervisory_order {s : State} {d p o : Nat} {v : Value} {g : Bool} {q : Seq} {rest : List QueueEntry}
    (h : s.fwd.orders = .order d p v o g q :: rest) :
    grantSupervisory s =
      beginF (orderFrame d o s.arbiter.frameNo ((packedHead d o s.fwd.orders).map (·.sent))) .plain
        (advanceFrameNo (countGrant (fun c => { c with supervisory := bump c.supervisory })
          { s with fwd := { s.fwd with orders := s.fwd.orders.drop (packedHead d o s.fwd.orders).length } })) := by
  simp only [grantSupervisory, h]

/-- The slot with the first place goes out (R63, R66). -/
theorem grantDispatch_sends {s : State} {o : PendingOrder} {rest : List PendingOrder} (h : s.dispatch.slots = o :: rest) :
    grantDispatch s =
      beginF (orderFrame (ownerStation s (outputPoint s o.output)) s.part.station s.arbiter.frameNo
          [(outputPoint s o.output, o.value)]) .plain
        (advanceFrameNo (countGrant (fun c => { c with dispatch := bump c.dispatch })
          { s with dispatch := { s.dispatch with slots := rest } })) := by
  simp only [grantDispatch, h]

/-- The step with the first place goes out (R64, R66). -/
theorem grantStep_sends {s : State} {o : PendingStep} {rest : List PendingStep} (h : s.guard.steps = o :: rest) :
    grantStep s =
      beginF (orderFrame (ownerStation s (s.guardRec o.record).point) s.part.station s.arbiter.frameNo
          [((s.guardRec o.record).point, o.value)]) .plain
        (advanceFrameNo (countGrant (fun c => { c with step := bump c.step })
          { s with guard := { s.guard with steps := rest } })) := by
  simp only [grantStep, h]

/-- The frame and state of a grant of QUERY (R48, R65, R66). -/
theorem grantQuery_sends {s : State} {i : Nat} (h : eligibleEntry s = some i) :
    grantQuery s =
      beginF (queryFrame (s.queryEntry i).dest s.part.station (sendTag i (s.queryEntry i)) (s.queryEntry i).point)
        (.query i (s.queryEntry i).gen)
        ((countGrant (fun c => { c with query := bump c.query }) s).modQuery i (fun e => { e with inFlight := true })) := by
  simp only [grantQuery, h]

/-- A QUERY in flight that its grant began is that of the eligible entry (R48). -/
theorem grantRequester_query {s : State} {r : Requester} {f : Frame} {i g : Nat} (hidle : s.fPort.tx = none)
    (h : (grantRequester r s).fPort.tx = some ⟨f, .query i g⟩) :
    grantRequester r s = grantQuery s ∧ eligibleEntry s = some i := by
  cases r with
  | supervisory =>
    simp only [grantRequester, grantSupervisory] at h
    split at h
    · simp [hidle] at h
    · simp [beginF] at h
    · simp [beginF] at h
  | dispatch =>
    simp only [grantRequester, grantDispatch] at h
    split at h
    · simp [hidle] at h
    · simp [beginF] at h
  | step =>
    simp only [grantRequester, grantStep] at h
    split at h
    · simp [hidle] at h
    · simp [beginF] at h
  | query =>
    refine ⟨rfl, ?_⟩
    simp only [grantRequester] at h
    cases he : eligibleEntry s with
    | none => simp [grantQuery, he, hidle] at h
    | some j =>
      rw [grantQuery_sends he] at h
      simp only [beginF, Option.some.injEq, Sending.mk.injEq, SentItem.query.injEq] at h
      obtain ⟨-, hj, -⟩ := h
      rw [hj]

/-- A grant event that begins a QUERY grants QUERY, under some pointers of the arbiter. -/
theorem serveF_query {s : State} {f : Frame} {i g : Nat} (hidle : s.fPort.tx = none)
    (h : (serveF s).fPort.tx = some ⟨f, .query i g⟩) :
    ∃ a : Arbiter, serveF s = grantQuery { s with arbiter := a } ∧ eligibleEntry s = some i := by
  have hnone : s.fPort.tx ≠ some ⟨f, .query i g⟩ := by simp [hidle]
  by_cases hb : s.fPort.mayBegin = true
  · cases hc : grantChoice s with
    | none => exact absurd (serveF_of_none hc ▸ h) hnone
    | some c =>
      cases c with
      | trip =>
        rw [serveF_of_trip hb hc, grantTrip] at h
        split at h
        · exact absurd h hnone
        · simp [beginF] at h
      | ring l r =>
        rw [serveF_of_ring hb hc] at h ⊢
        exact ⟨_, grantRequester_query (by exact hidle) h⟩
  · exact absurd (serveF_of_not (by simpa using hb) ▸ h) hnone

theorem lt_queries_of_waiting {s : State} {i : Nat} (h : (s.queryEntry i).state = .waitingSend) :
    i < s.query.entries.length := by
  by_contra hi
  rw [State.queryEntry, List.getD_eq_default _ _ (by omega)] at h
  exact absurd h (by simp [QueryEntry.freed])

/-- Settles O15: the QUERY that a grant event begins is that of the eligible entry, which no earlier order holds back. -/
theorem queryWaitsForEarlierOrders : Obligations.QueryWaitsForEarlierOrders := by
  intro s fr i g hidle h
  obtain ⟨a, hserve, he⟩ := serveF_query hidle h
  obtain ⟨-, helig⟩ := eligible_of_eligibleEntry he
  obtain ⟨hstate, hflight, hfree⟩ := eligible_iff.mp helig
  rw [grantQuery_sends (s := { s with arbiter := a }) he] at hserve
  rw [hserve] at h ⊢
  simp only [beginF, Option.some.injEq, Sending.mk.injEq, SentItem.query.injEq] at h
  obtain ⟨hframe, -, hgen⟩ := h
  refine ⟨hstate, hflight, hgen.symm, hframe.symm, fun d p v o gd q hq hd hbefore => ?_,
    fun f q hq hd hbefore => ?_, ?_⟩
  · exact hfree _ hq (holdsBack_order.mpr ⟨hd, hbefore⟩)
  · exact hfree _ hq (holdsBack_pass.mpr ⟨hd, hbefore⟩)
  · have hmod := State.queryEntry_modQuery s i i (fun e => { e with inFlight := true })
    rw [if_pos ⟨rfl, lt_queries_of_waiting hstate⟩] at hmod
    exact congrArg QueryEntry.inFlight hmod

/-- Settles O14: the choice in its order, then what each requester supplies. -/
theorem fieldGrantOrder : Obligations.FieldGrantOrder := by
  intro s own sent next supplies
  have hgrants (h l : Requester) (r : Requester) (hw : hasWork s r = true)
      (hgrant : serveF s = grantRequester r { s with arbiter := { s.arbiter with highPtr := h, lowPtr := l } }) :
      supplies { s.arbiter with highPtr := h, lowPtr := l } r := by
    cases r with
    | supervisory =>
      refine ⟨fun f q rest ho => hgrant.trans (grantSupervisory_pass ho), fun d p v o g q rest ho =>
        ⟨(packedHead d o s.fwd.orders).length, ho ▸ packedHead_length_pos .., packedHead_length_le ..,
          (packedHead_prefix ..).length_le, ?_⟩⟩
      rw [take_length_packedHead]
      exact ⟨fun e he => goesTo_iff.mp (packedHead_goes he),
        fun hroom e he => goesTo_iff.not.mp (packedHead_stops hroom he), hgrant.trans (grantSupervisory_order ho)⟩
    | dispatch => exact fun o rest ho => hgrant.trans (grantDispatch_sends ho)
    | step => exact fun o rest ho => hgrant.trans (grantStep_sends ho)
    | query =>
      refine firstEligible_goes (fun i => ?_) hw (fun i hi => hgrant.trans (grantQuery_sends hi))
      refine and_congr_right fun _ => (eligible_iff.trans (and_congr_right fun _ => and_congr_right fun _ =>
        forall₂_congr fun o _ => not_congr ?_)).symm
      cases o with
      | order => exact holdsBack_order
      | pass => exact holdsBack_pass
  refine ⟨serveF_of_not, fun hb => ⟨fun t rest ht => ?_, fun ht => ⟨fun pre r post hring hl hw hpre => ?_, fun hhigh =>
    ⟨fun pre r post hring hl hw hpre => ?_, fun hlow => ?_⟩⟩⟩⟩
  · rw [serveF_of_trip hb (grantChoice_trip ht), grantTrip, ht]
    rfl
  · exact hgrants _ _ r hw (serveF_of_ring hb (grantChoice_high ht (searchRing_eq_some hring hl hw hpre)))
  · exact hgrants _ _ r hw
      (serveF_of_ring hb (grantChoice_low ht (searchRing_eq_none hhigh) (searchRing_eq_some hring hl hw hpre)))
  · exact serveF_of_none (grantChoice_none ht (searchRing_eq_none hhigh) (searchRing_eq_none hlow))

end Sys2Proof.Machine
end

section
namespace Sys2Proof.Machine
open Sys2Proof

/-! ### The abort of a frame in flight -/

theorem modPort_of_fixed {s : State} {p : Port} {f : PortRec → PortRec} (h : f (s.port p) = s.port p) :
    s.modPort p f = s := by
  cases p
  · exact congrArg (fun r => { s with sPort := r }) h
  · exact congrArg (fun r => { s with fPort := r }) h

theorem reenterTrip_reaches (x : TripOrder) (s : State) :
    reenterTrip x s = { s with guard := (reenterTrip x s).guard } := by
  unfold reenterTrip
  simp only
  split <;> rfl

/-- A trip order is entered again while its output is TRIPPED or LATCHED with action SAFE and none waits for it
(R66). -/
theorem reenterTrip_guard (x : TripOrder) (s : State) :
    (reenterTrip x s).guard =
      if (s.guardRec x.record).state ≠ .clear ∧ (s.guardRec x.record).action = .safe ∧
          ∀ t ∈ s.guard.trips, t.record ≠ x.record then
        { s.guard with trips := s.guard.trips ++ [x] }
      else s.guard := by
  have hstate : (s.guardRec x.record).state = .tripped ∨ (s.guardRec x.record).state = .latched ↔
      (s.guardRec x.record).state ≠ .clear := by
    cases (s.guardRec x.record).state <;> decide
  have hnone : s.guard.trips.any (fun u => decide (u.record = x.record)) = false ↔
      ∀ t ∈ s.guard.trips, t.record ≠ x.record := by
    simp only [List.any_eq_false, decide_eq_true_eq, ne_eq]
  unfold reenterTrip
  simp only [hstate, hnone]
  split <;> rfl

theorem queryAborted_reaches (i gen : Nat) (s : State) :
    queryAborted i gen s = { s with query := (queryAborted i gen s).query } := by
  unfold queryAborted
  split <;> rfl

/-- The port's transmitter with no frame in flight. -/
def freed (p : Port) (s : State) : State := s.modPort p (fun r => { r with tx := none })

@[simp] theorem freed_guard (p : Port) (s : State) : (freed p s).guard = s.guard := State.modPort_guard ..
@[simp] theorem freed_query (p : Port) (s : State) : (freed p s).query = s.query := State.modPort_query ..

@[simp] theorem freed_port (p : Port) (s : State) : (freed p s).port p = { s.port p with tx := none } := by
  rw [freed, State.port_modPort, if_pos rfl]

/-- What the abort of a frame means to its owner (R54, R66). -/
def abortedItem (item : SentItem) (s : State) : State :=
  match item with
  | .trip x => reenterTrip x s
  | .query i gen => queryAborted i gen s
  | .plain => s
  | .resetDone => s
  | .restartDone => s

theorem abortedItem_reaches (item : SentItem) (s : State) :
    abortedItem item s = { s with guard := (abortedItem item s).guard, query := (abortedItem item s).query } := by
  cases item with
  | trip x => exact (reenterTrip_reaches x s).trans (by rw [abortedItem, reenterTrip_reaches])
  | query i gen => exact (queryAborted_reaches i gen s).trans (by rw [abortedItem, queryAborted_reaches])
  | plain | resetDone | restartDone => rfl

theorem abortFrame_of_idle {p : Port} {s : State} (h : (s.port p).tx = none) : abortFrame p s = s := by
  rw [abortFrame, h]

/-- The frame in flight leaves the transmitter, and its item meets its owner's rule (R173 step 1). -/
theorem abortFrame_of_sending {p : Port} {s : State} {snd : Sending} (h : (s.port p).tx = some snd) :
    abortFrame p s = abortedItem snd.item (freed p s) := by
  rw [abortFrame, h]
  cases hitem : snd.item <;> simp only [hitem, abortedItem, freed]

theorem abortFrame_of_item {p : Port} {s : State} {item : SentItem} (h : (s.port p).tx.map (·.item) = some item) :
    abortFrame p s = abortedItem item (freed p s) := by
  obtain ⟨snd, htx, rfl⟩ := Option.map_eq_some_iff.mp h
  exact abortFrame_of_sending htx

/-- An abort frees the port's transmitter and reaches the trip queue and the query table alone (R54, R66, R173). -/
theorem abortFrame_reaches (p : Port) (s : State) :
    abortFrame p s = { freed p s with guard := (abortFrame p s).guard, query := (abortFrame p s).query } := by
  cases h : (s.port p).tx with
  | none =>
    have hfixed : { s.port p with tx := none } = s.port p := by rw [← h]
    rw [abortFrame_of_idle h, freed, modPort_of_fixed (f := fun r => { r with tx := none }) hfixed]
  | some snd =>
    rw [abortFrame_of_sending h]
    exact abortedItem_reaches _ _

section
variable {p : Port} {s : State}

theorem abortFrame_trip {x : TripOrder} (h : (s.port p).tx.map (·.item) = some (.trip x)) :
    (abortFrame p s).query = s.query ∧
      (abortFrame p s).guard =
        if (s.guardRec x.record).state ≠ .clear ∧ (s.guardRec x.record).action = .safe ∧
            ∀ t ∈ s.guard.trips, t.record ≠ x.record then
          { s.guard with trips := s.guard.trips ++ [x] }
        else s.guard := by
  rw [abortFrame_of_item h, abortedItem]
  constructor
  · rw [reenterTrip_reaches]
    exact freed_query p s
  · rw [reenterTrip_guard, State.guardRec, State.guardRec, freed_guard]

theorem abortFrame_query {i gen : Nat} (h : (s.port p).tx.map (·.item) = some (.query i gen))
    (hgen : (s.queryEntry i).gen = gen) :
    (abortFrame p s).query =
        { s.query with entries := s.query.entries.modify i (fun e => { e with inFlight := false }) } ∧
      (abortFrame p s).guard = s.guard := by
  have hgen' : ((freed p s).queryEntry i).gen = gen := by rwa [State.queryEntry, freed_query]
  rw [abortFrame_of_item h, abortedItem, queryAborted, if_pos hgen']
  simp only [State.modQuery, freed_query, freed_guard, and_self]

theorem abortFrame_other (htrip : ∀ x, (s.port p).tx.map (·.item) ≠ some (.trip x))
    (hquery : ∀ i gen, (s.port p).tx.map (·.item) ≠ some (.query i gen)) :
    (abortFrame p s).guard = s.guard ∧ (abortFrame p s).query = s.query := by
  cases h : (s.port p).tx.map (·.item) with
  | none => rw [abortFrame_of_idle (Option.map_eq_none_iff.mp h)]; exact ⟨rfl, rfl⟩
  | some item =>
    rw [abortFrame_of_item h]
    cases item with
    | trip x => exact absurd h (htrip x)
    | query i gen => exact absurd h (hquery i gen)
    | plain | resetDone | restartDone => exact ⟨freed_guard p s, freed_query p s⟩

end

/-! ### The restart of a port -/

theorem Reception.restarted_eq (r : Reception) : r.restarted = if r = .none then .none else .discarding := by
  cases r <;> rfl

/-- The record of a port with no frame in flight once its restart is complete, its link-down timer restarted at a
moment (R173). -/
def PortRec.disabledAt (r : PortRec) (rate : Option Rate) (now : Nat) : PortRec :=
  { r.restarted rate with state := .disabled, linkTimer := some (now + Config.linkTime) }

theorem modPort_modPort (s : State) (p : Port) (f g : PortRec → PortRec) :
    (s.modPort p f).modPort p g = s.modPort p (fun r => g (f r)) := by cases p <;> rfl

theorem modFlag_modPort (s : State) (p : Port) (i : Nat) (f : FlagRec → FlagRec) (g : PortRec → PortRec) :
    (s.modFlag i f).modPort p g = (s.modPort p g).modFlag i f := by cases p <;> rfl

@[simp] theorem State.modFlag_port (s : State) (p : Port) (i : Nat) (f : FlagRec → FlagRec) :
    (s.modFlag i f).port p = s.port p := by cases p <;> rfl

/-- A restart is the abort, the port's new record and the end of the port's two conditions (R173, R176). -/
theorem restartPort_eq (p : Port) (rate : Option Rate) (s : State) :
    restartPort p rate s =
      (((abortFrame p s).modPort p (fun r => r.disabledAt rate s.now)).modFlag (overrunFlag p).index
        FlagRec.ended).modFlag (linkFlag p).index FlagRec.ended := by
  have hdown : decide (PortState.disabled = .down) = false := rfl
  have hnow : (abortFrame p s).now = s.now := by
    rw [abortFrame_reaches]
    exact State.modPort_now ..
  simp only [restartPort, setPortState, hdown, setCondition_ends, restartLinkTimer, modFlag_modPort, modPort_modPort,
    State.modFlag_now, State.modPort_now, hnow]
  rfl

theorem restartPort_port (p : Port) (rate : Option Rate) (s : State) :
    (restartPort p rate s).port p = ((freed p s).port p).disabledAt rate s.now := by
  simp only [restartPort_eq, State.modFlag_port, State.port_modPort, if_true]
  rw [abortFrame_reaches]
  cases p <;> rfl

theorem restartPort_guard (p : Port) (rate : Option Rate) (s : State) :
    (restartPort p rate s).guard = (abortFrame p s).guard := by
  rw [restartPort_eq, State.modFlag_guard, State.modFlag_guard, State.modPort_guard]

theorem restartPort_query (p : Port) (rate : Option Rate) (s : State) :
    (restartPort p rate s).query = (abortFrame p s).query := by
  rw [restartPort_eq, State.modFlag_query, State.modFlag_query, State.modPort_query]

theorem beyondAttention_modFlag (s : State) (i : Nat) (f : FlagRec → FlagRec) :
    beyondAttention (s.modFlag i f) = beyondAttention s := rfl

theorem restartPort_beyondAttention (p : Port) (rate : Option Rate) (s : State) :
    beyondAttention (restartPort p rate s) =
      beyondAttention { s.modPort p (fun _ => (restartPort p rate s).port p) with
        guard := (restartPort p rate s).guard, query := (restartPort p rate s).query } := by
  rw [restartPort_port, restartPort_guard, restartPort_query, restartPort_eq, beyondAttention_modFlag,
    beyondAttention_modFlag]
  generalize hu : abortFrame p s = u
  rw [abortFrame_reaches] at hu
  subst hu
  cases p <;> rfl

theorem FlagRec.ended_cond (r : FlagRec) : r.ended.cond = false := by
  unfold FlagRec.ended
  split
  · assumption
  · rfl

/-- A condition that has ended stays so when another ends. -/
theorem modFlag_ended_cond {s : State} {j : Nat} (h : (s.flag j).cond = false) (i : Nat) :
    ((s.modFlag i FlagRec.ended).flag j).cond = false := by
  rw [State.flag_modFlag]
  split
  · exact FlagRec.ended_cond _
  · exact h

/-- Neither condition of a restarted port holds any more (R173, R176). -/
theorem restartPort_conditions (p : Port) (rate : Option Rate) (s : State) :
    ((restartPort p rate s).flag (overrunFlag p).index).cond = false ∧
      ((restartPort p rate s).flag (linkFlag p).index).cond = false := by
  have hends (fl : Flag) (u : State) : ((u.modFlag fl.index FlagRec.ended).flag fl.index).cond = false :=
    setCondition_ends fl u ▸ setCondition_ended fl u
  rw [restartPort_eq]
  exact ⟨modFlag_ended_cond (hends _ _) _, hends _ _⟩

/-! ### A restart that waits for its DONE -/

/-- A flow symbol that goes out reaches the port's symbol and counters alone (R169). -/
theorem sendFlow_reaches (p : Port) (s : State) :
    sendFlow p s = s.modPort p (fun r => { r with
      symbol := ((sendFlow p s).port p).symbol, counters := ((sendFlow p s).port p).counters }) := by
  unfold sendFlow
  simp only
  split
  · split
    · cases p <;> rfl
    · cases p <;> rfl
    · cases p <;> rfl
  · cases p <;> rfl

/-! ### The commands -/

theorem portOfCode_of_two_le {n : Nat} (h : 2 ≤ n) : portOfCode n = none := by
  match n, h with
  | _ + 2, _ => rfl

theorem rateOfCode_of_four_le {n : Nat} (h : 4 ≤ n) : rateOfCode n = none := by
  match n, h with
  | _ + 4, _ => rfl

theorem rateOfCode_code (r : Rate) : rateOfCode r.code = some r := by cases r <;> rfl

theorem taken_restarts (p : Port) (f : Frame) (s : State) : (taken p f s).sPort.restarts = s.sPort.restarts := by
  have h := congrArg (·.sPort.restarts) (taken_standing p f s)
  generalize taken p f s = t at *
  rw [show t.sPort.restarts = (popFrame p s).sPort.restarts from h]
  cases p
  · simp only [popFrame, State.modPort]
    split <;> rfl
  · rfl

/-- What a restart command leads to by the port that its code names: an unknown one is refused (R164, R173). -/
def restartNamed (f : Frame) (rate : Option Rate) (p : Option Port) (s : State) : State :=
  match p with
  | none => replySetup f .badValue s
  | some p => commandRestart f p rate s

theorem takePortRestart_eq (f : Frame) (s : State) :
    takePortRestart f s = restartNamed f none (portOfCode (headByte f 1)) s := by
  unfold takePortRestart
  cases portOfCode (headByte f 1) <;> rfl

theorem takePortRate_of_rate {f : Frame} {r : Rate} (h : rateOfCode (headByte f 2) = some r) (s : State) :
    takePortRate f s = restartNamed f (some r) (portOfCode (headByte f 1)) s := by
  rw [takePortRate, h]
  cases portOfCode (headByte f 1) <;> rfl

theorem takePortRate_of_none {f : Frame} (h : rateOfCode (headByte f 2) = none) (s : State) :
    takePortRate f s = replySetup f .badValue s := by
  rw [takePortRate, h]
  cases portOfCode (headByte f 1) <;> rfl

/-- A PORT-RESTART, and a PORT-RATE of a known rate, leads to what the port code names. -/
theorem exec_restart {rate : Option Rate} {f : Frame} {c : Instr} {s : State} (h : Takes .sPort f c s)
    (hc : c = .portRestart f ∧ rate = none ∨ c = .portRate f ∧ ∃ r : Rate, rate = some r ∧ r.code = headByte f 2) :
    exec c s = .next (serve (restartNamed f rate (portOfCode (headByte f 1)) (taken .sPort f s))) := by
  obtain ⟨rfl, rfl⟩ | ⟨rfl, r, rfl, hr⟩ := hc
  · rw [exec_of_takes (act := takePortRestart f) rfl h, takePortRestart_eq]
  · rw [exec_of_takes (act := takePortRate f) rfl h, takePortRate_of_rate (hr ▸ rateOfCode_code r)]

/-- A DONE without data is the head block alone (R209). -/
theorem setupStatus_done (s : State) (f : Frame) :
    setupStatus s f .done 0 0 [] =
      { dest := f.src, src := s.part.station, kind := .status, count := 1, tag := f.tag,
        body := [16, byteOf (setupOp f), 0, 0, 0, 0] } := by
  simp [setupStatus, padBlocks, bytesOf, statusCode, byteOf]

/-- The DONE of an S-port restart completes: the transmitter is free and the oldest restart leaves the queue and takes
effect (R172, R174). -/
theorem exec_restartDone {fr : Frame} {rate : Option Rate} {rest : List (Option Rate)} {s : State}
    (hawake : s.held = false) (htx : s.sPort.tx = some ⟨fr, .restartDone⟩) (hrest : s.sPort.restarts = rate :: rest) :
    ∃ y n, exec (.frameCompletes .sPort) s = .next (serve (restartPort .sPort rate { s with
      sPort := { s.sPort with tx := none, restarts := rest, symbol := y, counters := n } })) := by
  have hexec : exec (.frameCompletes .sPort) s = .next (serve (completeFrame .sPort ⟨fr, .restartDone⟩ s)) := by
    simp only [exec, execFrameCompletes, State.port, htx, whileAwake_of_awake hawake]
  obtain ⟨y, n, hfree⟩ : ∃ y n, sendFlow .sPort (s.modPort .sPort (fun r => { r with
      tx := none, counters := { r.counters with framesSent := bump r.counters.framesSent } })) =
      { s with sPort := { s.sPort with tx := none, symbol := y, counters := n } } := ⟨_, _, sendFlow_reaches ..⟩
  refine ⟨y, n, ?_⟩
  rw [hexec, completeFrame, hfree]
  simp only [completedItem, pendingRestart, hrest]

/-- Settles O54: what a command comes to, what a restart does to its port and to the frame that it aborts, and the
completion of the DONE that an S-port restart waits for. -/
theorem portRestartActs : Obligations.PortRestartActs := by
  refine ⟨fun rate f c s h hc => ?_, fun f s h hrate => ?_, fun p rate s => ?_,
    fun fr rate rest s hawake htx hrest => ?_⟩
  · have hexec := exec_restart h hc
    refine ⟨fun hport => ?_, fun hport => ?_, fun hport => ?_⟩
    · rw [hexec, portOfCode_of_two_le hport, restartNamed]
    · rw [hexec, hport, portOfCode, restartNamed, commandRestart, setupStatus_done, placeReply, taken_restarts,
        taken_part]
    · rw [hexec, hport, portOfCode, restartNamed, commandRestart]
  · rw [exec_of_takes (act := takePortRate f) rfl h, takePortRate_of_none (rateOfCode_of_four_le hrate)]
  · refine ⟨?_, restartPort_beyondAttention p rate s, fun i gen h hgen => ?_, fun x h => ?_, fun htrip hquery => ?_,
      fun _ => restartPort_conditions p rate s⟩
    · rw [restartPort_port, freed_port, PortRec.disabledAt, PortRec.restarted, Reception.restarted_eq]
      rfl
    all_goals rw [restartPort_guard, restartPort_query]
    · exact abortFrame_query h hgen
    · exact abortFrame_trip h
    · exact abortFrame_other htrip hquery
  · obtain ⟨y, n, hexec⟩ := exec_restartDone hawake htx hrest
    exact ⟨_, hexec, rfl, rfl, congrArg PortRec.rate (restartPort_port .sPort rate _)⟩

end Sys2Proof.Machine
end

section
namespace Sys2Proof.Machine
open Sys2Proof

/-! ### A trip order in flight on the S-port

R66 sends trip orders on the F-port alone, and R174 gives a pending restart to a frame of the S-port alone. Neither
`Bounded` nor `SetupRests` says so of a state, and `pendingRestart` aborts whatever is in flight on the S-port, at the
completion of a `restartDone` on either port. -/

/-- The trip order of guard record 4, whose point is 130. -/
def strayTrip : TripOrder := ⟨4, 130, 0⟩

/-- A SETUP part with record 4 TRIPPED, whose PAUSED F-port completes the DONE of an S-port restart while `strayTrip` is
in flight on the S-port. -/
def strayTripInFlight : State :=
  { (State.powerOn 20 20 [.frameCompletes .fPort]).modGuard 4
      (fun g => { g with configured := true, point := 130, state := .tripped }) with
    sPort := { PortRec.powerOn 0 with tx := some ⟨orderFrame 41 20 0 [(130, 0)], .trip strayTrip⟩, restarts := [none] }
    fPort := { PortRec.powerOn 0 with
      state := .paused,
      tx := some ⟨setupStatus (State.powerOn 20 20 []) ⟨20, 3, .setup, 1, 7, [12, 0, 0, 0, 0, 0]⟩ .done 0 0 [],
        .restartDone⟩ } }

theorem strayTripInFlight_bounded : Bounded strayTripInFlight :=
  bounded_of_fits { modGuard_fits _ _ (powerOn_fits 20 20 _) with sBuffer := Nat.zero_le _, fBuffer := Nat.zero_le _ }

theorem strayTripInFlight_setupRests : SetupRests strayTripInFlight where
  orders _ _ he := nomatch he
  steps _ := rfl
  slots _ := rfl
  ramps _ := by decide
  channels _ c hc := congrArg (·.run.opened) (List.eq_of_mem_replicate hc)
  lines _ l _ := by cases l <;> rfl
  dispatch _ := rfl

/-- The step restarts the S-port, and the trip order in flight there is entered in the trip queue. -/
theorem strayTripInFlight_step : ∃ t, step strayTripInFlight = .next t ∧ t.part.state = .setup ∧
    strayTrip ∈ t.guard.trips := ⟨_, rfl, rfl, .head _⟩

/-- Refutes O6 by its second clause, on a state that `Bounded` and `SetupRests` admit though no run reaches it: the step
aborts a trip order in flight on the S-port, where the statement speaks of the F-port alone. -/
theorem not_stepKeepsSetupAtRest : ¬Obligations.StepKeepsSetupAtRest := by
  intro h
  obtain ⟨t, hstep, hsetup, htrip⟩ := strayTripInFlight_step
  obtain ⟨-, hqueued | hflying⟩ :=
    (h _ t strayTripInFlight_bounded strayTripInFlight_setupRests hstep).2 hsetup _ htrip
  · exact nomatch hqueued
  · exact nomatch hflying

end Sys2Proof.Machine
end

section
namespace Sys2Proof.Machine
open Sys2Proof

/-! ### RELEASE -/

/-- The flag's condition is the one that its owner now holds (R202). -/
theorem setCondition_cond (fl : Flag) (b : Bool) {s : State} (hl : s.attention.flags.length = flagCount) :
    ((setCondition fl b s).flag fl.index).cond = b := by
  cases b with
  | false => exact setCondition_ended fl s
  | true =>
    have hi : fl.index < s.attention.flags.length := by rw [hl]; cases fl <;> decide
    have hbegun : ((s.modFlag fl.index fun r => { r with cond := true }).flag fl.index).cond = true := by
      rw [State.flag_modFlag, if_pos ⟨rfl, hi⟩]
    have hrise (t : State) : ((riseAt fl.index t).flag fl.index).cond = (t.flag fl.index).cond := by
      have hset : ((t.modFlag fl.index fun r => { r with isSet := true }).flag fl.index).cond = (t.flag fl.index).cond := by
        rw [State.flag_modFlag]
        split <;> rfl
      unfold riseAt
      split
      · rfl
      · split
        · rw [flag_of_flags (placeNotice_flags _ _), hset]
        · exact hset
    unfold setCondition
    simp only
    split
    · assumption
    · rw [if_pos trivial, hrise, hbegun]

theorem followLatched_cond {s : State} (hl : s.attention.flags.length = flagCount) :
    ((followLatched s).flag 5).cond = true ↔
      ∃ g ∈ (followLatched s).guard.recs, g.configured = true ∧ g.state = .latched := by
  have hcond : ((followLatched s).flag 5).cond = _ := setCondition_cond .outputLatched _ hl
  rw [hcond, followLatched_guard]
  simp

theorem exec_release {f : Frame} {s : State} (h : Takes .sPort f (.release f) s) :
    exec (.release f) s = .next (serve (takeRelease f (taken .sPort f s))) :=
  exec_of_takes (act := takeRelease f) rfl h

theorem takeRelease_of_configured {f : Frame} {s : State} (hi : headWord f 1 ≤ 95)
    (hc : (s.guardRec (headWord f 1)).configured = true) : takeRelease f s =
      if (s.guardRec (headWord f 1)).state = .tripped then replySetup f .stillActive s
      else replySetup f .done (releaseOutput (headWord f 1) s) := by
  have hlt : headWord f 1 < Config.guards := Nat.lt_succ_of_le hi
  unfold takeRelease
  simp only [hlt, decide_true, hc, Bool.and_self, if_true]

theorem takeRelease_of_not {f : Frame} {s : State}
    (h : 95 < headWord f 1 ∨ (s.guardRec (headWord f 1)).configured = false) :
    takeRelease f s = replySetup f .badIndex s := by
  unfold takeRelease
  simp only
  obtain hi | hc := h
  · have hlt : ¬headWord f 1 < Config.guards := Nat.not_lt.mpr hi
    simp only [hlt, decide_false, Bool.false_and, Bool.false_eq_true, if_false]
  · simp only [hc, Bool.and_false, Bool.false_eq_true, if_false]

/-- Settles O52: the index decides the refusal, then the output's state decides the reply; `followLatched` sets the
condition of OUTPUT-LATCHED to what the records give. -/
theorem releaseClearsALatchedOutput : Obligations.ReleaseClearsALatchedOutput := by
  intro f s h t i
  have hrec : t.guardRec i = s.guardRec i := guardRec_of_recs (taken_recs .sPort f s) i
  refine ⟨fun hbad => ?_, fun hi hc => ?_⟩
  · rw [exec_release h, takeRelease_of_not (by rw [hrec]; exact hbad)]
  · have hct : (t.guardRec i).configured = true := by rw [hrec]; exact hc
    have htake := takeRelease_of_configured hi hct
    refine ⟨fun hs => ?_, fun hs => ?_, fun hs => ?_⟩
    · rw [exec_release h, htake, if_pos (by rw [hrec]; exact hs)]
    · have hst : (t.guardRec i).state = .clear := by rw [hrec]; exact hs
      rw [exec_release h, htake, if_neg (by rw [hst]; decide), releaseOutput, if_neg (by rw [hst]; decide)]
    · have hst : (t.guardRec i).state = .latched := by rw [hrec]; exact hs
      refine ⟨releaseOutput i t, ?_, ?_, ?_, fun hl => ?_⟩
      · rw [exec_release h, htake, if_neg (by rw [hst]; decide)]
      all_goals rw [releaseOutput, if_pos hst]
      · rw [guardRec_of_recs (congrArg Guard.recs (followLatched_guard _)),
          guardRec_modGuard_same (lt_guards_of_configured hct) fun g => { g with state := .clear }, hrec]
      · exact followLatched_beyondAttention _
      · exact followLatched_cond hl

end Sys2Proof.Machine
end

section
namespace Sys2Proof.Machine
open Sys2Proof

/-! ### A ramp timer's expiry -/

theorem lineRestricted_iff {s : State} {g : GuardRec} :
    lineRestricted s g = true ↔ ∃ l, g.line = some l ∧ (s.line l).state = .restrict := by
  unfold lineRestricted
  cases g.line <;> simp

/-- The effective high is the restricted high while the line of a restricted output is in RESTRICT (R78). -/
theorem effectiveHigh_eq (s : State) (g : GuardRec)
    [Decidable (g.restricted = true ∧ ∃ l, g.line = some l ∧ (s.line l).state = .restrict)] :
    effectiveHigh s g =
      if g.restricted = true ∧ ∃ l, g.line = some l ∧ (s.line l).state = .restrict then g.rhigh else g.high := by
  unfold effectiveHigh
  exact if_congr (by rw [Bool.and_eq_true, lineRestricted_iff]) rfl rfl

/-- A ramp timer's expiry steps an output that its timer runs for (R81). -/
theorem rampExpires_of_live {s : State} {i : Nat} {iss tgt : Value} (hc : (s.guardRec i).configured = true)
    (hs : (s.guardRec i).state = .clear) (hr : s.part.state = .run) (hi : (s.guardRec i).issued = some iss)
    (ht : (s.guardRec i).target = some tgt) (hne : iss ≠ tgt) :
    rampExpires i s =
      let v := nextStep (s.guardRec i) (effectiveHigh s (s.guardRec i)) iss tgt
      recordOutcome .part .ramped s.part.station (ownerStation s (s.guardRec i).point) (s.guardRec i).point v
        (issue i v (writeStep ⟨i, v, iss⟩ (s.modGuard i fun g => { g with rampTimer := none }))) := by
  unfold rampExpires
  simp only [hi, ht, hc, hs, hr, ne_eq, hne, not_false_eq_true, and_self, if_true]

/-- Any other output's ramp timer stops (R81). -/
theorem rampExpires_of_not_live {s : State} {i : Nat}
    (h : ∀ iss tgt, ¬((s.guardRec i).configured = true ∧ (s.guardRec i).state = .clear ∧ s.part.state = .run ∧
      (s.guardRec i).issued = some iss ∧ (s.guardRec i).target = some tgt ∧ iss ≠ tgt)) :
    rampExpires i s = s.modGuard i fun g => { g with rampTimer := none } := by
  unfold rampExpires
  simp only
  split
  · next iss tgt hi ht => exact if_neg fun hl => h iss tgt ⟨hl.1, hl.2.1, hl.2.2.1, hi, ht, hl.2.2.2⟩
  · rfl

/-- A step that the part issues for an output whose timer has stopped. -/
theorem issue_writeStep (i : Nat) (p : PendingStep) {v tgt : Value} {s : State} (ht : (s.guardRec i).target = some tgt) :
    issue i v (writeStep p (s.modGuard i fun g => { g with rampTimer := none })) = { s with
      guard := { s.guard with
        recs := s.guard.recs.modify i (fun g => { g with
          issued := some v, lastIssue := some s.now, rampTimer := if tgt = v then none else some (s.now + g.interval) }),
        steps := if s.guard.steps.any (fun q => decide (q.record = p.record)) then
            s.guard.steps.map (fun q => if q.record = p.record then p else q)
          else s.guard.steps ++ [p] } } := by
  have ht' : (s.guard.recs.getD i .blank).target = some tgt := ht
  have hrecs : (issue i v (writeStep p (s.modGuard i fun g => { g with rampTimer := none }))).guard.recs = _ :=
    (List.modify_modify_eq ..).trans (modify_congr (d := GuardRec.blank) (g := fun g => { g with
      issued := some v, lastIssue := some s.now, rampTimer := if tgt = v then none else some (s.now + g.interval) })
      (by simp only [Function.comp_apply, ht', Option.some.injEq]; rfl))
  exact congrArg (fun l => ({ s with guard := { s.guard with recs := l, steps := _ } } : State)) hrecs

/-- Settles O39: an expired timer acts and closes the step; whether its output is live decides which of the two acts it is. -/
theorem rampTimerIssuesAStep : Obligations.RampTimerIssuesAStep := by
  intro i s m hheld hm hdue
  have hexec : exec (.rampTimerExpiry i) s = .next (serve (rampExpires i s)) :=
    congrArg Host.Outcome.next (atExpiry_of_due hheld hm hdue (rampExpires i))
  rw [hexec]
  refine ⟨?_, fun hlive => by rw [rampExpires_of_not_live hlive]; rfl⟩
  rintro iss tgt ⟨hc, hs, hr, hi, ht, hne⟩
  simp only [rampExpires_of_live hc hs hr hi ht hne, issue_writeStep i _ ht, nextStep, effectiveHigh_eq]

end Sys2Proof.Machine
end

section
namespace Sys2Proof.Machine
open Sys2Proof

/-! ### Where orders for guarded outputs wait

`TrippedHoldNothing` names four places where an order for an output can wait. Seen together they give the invariant
`Admitted`, which every operation keeps: what waits for a configured output waits in RUN for a CLEAR one. -/

/-- The point of a guarded order. -/
def QueueEntry.guardedPoint : QueueEntry → Option Nat
  | .order _ p _ _ guarded _ => if guarded then some p else none
  | .pass _ _ => none

theorem guardedFor_iff {e : QueueEntry} {p : Nat} : e.guardedFor p = true ↔ e.guardedPoint = some p := by
  cases e with
  | order d q v o g n => cases g <;> simp [QueueEntry.guardedFor, QueueEntry.guardedPoint]
  | pass f n => simp [QueueEntry.guardedFor, QueueEntry.guardedPoint]

theorem isGuarded_iff {e : QueueEntry} : e.isGuarded = false ↔ e.guardedPoint = none := by
  cases e with
  | order d q v o g n => cases g <;> simp [QueueEntry.isGuarded, QueueEntry.guardedPoint]
  | pass f n => simp [QueueEntry.isGuarded, QueueEntry.guardedPoint]

/-- The points of the guarded orders in the order queue. -/
def waitingPoints (s : State) : List Nat := s.fwd.orders.filterMap QueueEntry.guardedPoint

/-- The dispatch outputs whose slots hold an order. -/
def waitingOutputs (s : State) : List Nat := s.dispatch.slots.map (·.output)

/-- The guard records whose step slots hold a step. -/
def waitingRecords (s : State) : List Nat := s.guard.steps.map (·.record)

theorem mem_waitingPoints {s : State} {p : Nat} : p ∈ waitingPoints s ↔ ∃ e ∈ s.fwd.orders, e.guardedFor p = true := by
  simp only [waitingPoints, List.mem_filterMap, guardedFor_iff]

theorem waitingPoints_eq_nil {s : State} : waitingPoints s = [] ↔ ∀ e ∈ s.fwd.orders, e.isGuarded = false := by
  simp only [waitingPoints, List.filterMap_eq_nil_iff, isGuarded_iff]

/-- An order for an output waits, or its ramp timer runs (R73 step 1). -/
structure Waiting (s : State) (i : Nat) : Prop where
  place : (s.guardRec i).point ∈ waitingPoints s ∨
    (∃ k ∈ waitingOutputs s, k ∈ dispatchOutputs s (s.guardRec i).point) ∨
    i ∈ waitingRecords s ∨ (s.guardRec i).rampTimer ≠ none

/-- No order for any guarded output waits and no ramp timer runs, as R87 leaves the guard in SETUP. -/
structure NothingWaits (s : State) : Prop where
  points  : waitingPoints s = []
  outputs : waitingOutputs s = []
  records : waitingRecords s = []
  ramps   : ∀ i, (s.guardRec i).rampTimer = none

/-- Orders wait only for outputs that are CLEAR, and in SETUP not at all; in RUN the output points are distinct. -/
structure Admitted (s : State) : Prop where
  distinct : DistinctOutputs s
  clear    : ∀ i, Waiting s i → (s.guardRec i).configured = true → (s.guardRec i).state = .clear
  rest     : s.part.state = .setup → NothingWaits s

theorem not_waiting_iff {s : State} {i : Nat} : ¬Waiting s i ↔
    (∀ e ∈ s.fwd.orders, e.guardedFor (s.guardRec i).point = false) ∧
      (∀ o ∈ s.dispatch.slots, o.output ∉ dispatchOutputs s (s.guardRec i).point) ∧
      (∀ p ∈ s.guard.steps, p.record ≠ i) ∧ (s.guardRec i).rampTimer = none := by
  have hplace : Waiting s i ↔ _ := ⟨Waiting.place, Waiting.mk⟩
  simp only [hplace, not_or, mem_waitingPoints, waitingOutputs, waitingRecords, List.mem_map, not_exists, not_and,
    Bool.not_eq_true, ne_eq, not_not, forall_exists_index, and_imp, forall_apply_eq_imp_iff₂]

theorem trippedHoldNothing_iff {s : State} : TrippedHoldNothing s ↔
    ∀ i, Waiting s i → (s.guardRec i).configured = true → (s.guardRec i).state = .clear := by
  refine ⟨fun h i hw hc => ?_, fun h i hc hs => not_waiting_iff.mp fun hw => hs (h i hw hc)⟩
  by_contra hs
  exact not_waiting_iff.mpr (h i hc hs) hw

theorem NothingWaits.not_waiting {s : State} (h : NothingWaits s) (i : Nat) : ¬Waiting s i := by
  rintro ⟨hw⟩
  rw [h.points, h.outputs, h.records, h.ramps i] at hw
  simp at hw

/-- A part in SETUP in which nothing waits is admitted. -/
theorem NothingWaits.admitted {s : State} (h : NothingWaits s) (hs : s.part.state = .setup) : Admitted s where
  distinct hr := by rw [hs] at hr; exact nomatch hr
  clear i hw := absurd hw (h.not_waiting i)
  rest _ := h

theorem guardRec_of_mem {s : State} {P : GuardRec → Prop} (hrecs : ∀ g ∈ s.guard.recs, P g) (hblank : P .blank) (i : Nat) :
    P (s.guardRec i) := by
  rw [State.guardRec, List.getD_eq_getElem?_getD]
  cases hi : s.guard.recs[i]? with
  | none => exact hblank
  | some g => exact hrecs g (List.mem_of_getElem? hi)

theorem SetupRests.nothingWaits {s : State} (h : SetupRests s) (hs : s.part.state = .setup) : NothingWaits s where
  points := waitingPoints_eq_nil.mpr (h.orders hs)
  outputs := by rw [waitingOutputs, h.slots hs, List.map_nil]
  records := by rw [waitingRecords, h.steps hs, List.map_nil]
  ramps := guardRec_of_mem (h.ramps hs) rfl

theorem admitted_of_invariants {s : State} (hr : SetupRests s) (hd : DistinctOutputs s) (ht : TrippedHoldNothing s) :
    Admitted s :=
  ⟨hd, trippedHoldNothing_iff.mp ht, hr.nothingWaits⟩

theorem mem_dispatchOutputs {s : State} {k p : Nat} : k ∈ dispatchOutputs s p ↔
    s.dispatch.cfg.configured = true ∧ k < 5 ∧ s.dispatch.cfg.outputs[k]? = some p := by
  have hzip : (∃ a b, (a, b) ∈ (List.range 5).zip s.dispatch.cfg.outputs ∧ b = p ∧ a = k) ↔
      k < 5 ∧ s.dispatch.cfg.outputs[k]? = some p := by
    constructor
    · rintro ⟨a, b, hab, rfl, rfl⟩
      obtain ⟨j, hj⟩ := List.mem_iff_getElem?.mp hab
      obtain ⟨ha, hb⟩ := List.getElem?_zip_eq_some.mp hj
      obtain ⟨hlt, rfl⟩ := List.getElem?_eq_some_iff.mp ha
      rw [List.getElem_range]
      exact ⟨by simpa using hlt, hb⟩
    · rintro ⟨hk, hp⟩
      refine ⟨k, p, List.mem_iff_getElem?.mpr ⟨k, List.getElem?_zip_eq_some.mpr ⟨?_, hp⟩⟩, rfl, rfl⟩
      simp [hk]
  unfold dispatchOutputs
  split
  · next hc =>
    rw [← hzip]
    simp [hc]
  · next hc => simp [hc]

/-! ### What takes from the waiting orders -/

/-- A record that takes the place of another and keeps its configured mark and point, starts no ramp timer and does not
leave CLEAR. -/
structure GuardRec.Lowers (g h : GuardRec) : Prop where
  configured : h.configured = g.configured
  point      : h.point = g.point
  ramp       : h.rampTimer ≠ none → g.rampTimer ≠ none
  clear      : g.state = .clear → h.state = .clear

theorem GuardRec.Lowers.refl (g : GuardRec) : g.Lowers g := ⟨rfl, rfl, id, id⟩

/-- A later state in which no order waits that did not wait before, and no output trips. -/
structure Shrinks (s t : State) : Prop where
  part    : t.part.state = s.part.state
  cfg     : t.dispatch.cfg = s.dispatch.cfg
  points  : waitingPoints t ⊆ waitingPoints s
  outputs : waitingOutputs t ⊆ waitingOutputs s
  records : waitingRecords t ⊆ waitingRecords s
  recs    : ∀ i, (s.guardRec i).Lowers (t.guardRec i)

theorem dispatchOutputs_of_cfg {s t : State} (h : t.dispatch.cfg = s.dispatch.cfg) (p : Nat) :
    dispatchOutputs t p = dispatchOutputs s p := by
  rw [dispatchOutputs, h, ← dispatchOutputs]

theorem Shrinks.waiting {s t : State} (h : Shrinks s t) {i : Nat} (hw : Waiting t i) : Waiting s i := by
  obtain ⟨hplace⟩ := hw
  rw [(h.recs i).point] at hplace
  obtain hp | ⟨k, hk, hp⟩ | hi | hr := hplace
  · exact ⟨.inl (h.points hp)⟩
  · exact ⟨.inr (.inl ⟨k, h.outputs hk, dispatchOutputs_of_cfg h.cfg _ ▸ hp⟩)⟩
  · exact ⟨.inr (.inr (.inl (h.records hi)))⟩
  · exact ⟨.inr (.inr (.inr ((h.recs i).ramp hr)))⟩

theorem DistinctOutputs.of_same {s t : State} (h : DistinctOutputs s) (hpart : t.part.state = s.part.state)
    (hconf : ∀ i, (t.guardRec i).configured = (s.guardRec i).configured)
    (hpoint : ∀ i, (t.guardRec i).point = (s.guardRec i).point) : DistinctOutputs t := by
  intro hrun i j hi hj he
  rw [hconf] at hi hj
  rw [hpoint, hpoint] at he
  exact h (hpart ▸ hrun) i j hi hj he

theorem Shrinks.nothingWaits {s t : State} (h : Shrinks s t) (hn : NothingWaits s) : NothingWaits t where
  points := List.subset_nil.mp (hn.points ▸ h.points)
  outputs := List.subset_nil.mp (hn.outputs ▸ h.outputs)
  records := List.subset_nil.mp (hn.records ▸ h.records)
  ramps i := by
    by_contra hr
    exact (h.recs i).ramp hr (hn.ramps i)

theorem Admitted.shrink {s t : State} (h : Admitted s) (hs : Shrinks s t) : Admitted t where
  distinct := h.distinct.of_same hs.part (fun i => (hs.recs i).configured) fun i => (hs.recs i).point
  clear i hw hc := (hs.recs i).clear (h.clear i (hs.waiting hw) ((hs.recs i).configured ▸ hc))
  rest hp := hs.nothingWaits (h.rest (hs.part ▸ hp))

/-- All that `Admitted` reads of a state. -/
def ordering (s : State) : PartState × List GuardRec × List PendingStep × List QueueEntry × DispatchCfg × List PendingOrder :=
  (s.part.state, s.guard.recs, s.guard.steps, s.fwd.orders, s.dispatch.cfg, s.dispatch.slots)

theorem Shrinks.of_ordering {s t : State} (h : ordering t = ordering s) : Shrinks s t := by
  simp only [ordering, Prod.mk.injEq] at h
  obtain ⟨hpart, hrecs, hsteps, horders, hcfg, hslots⟩ := h
  refine ⟨hpart, hcfg, ?_, ?_, ?_, fun i => ?_⟩
  · rw [waitingPoints, horders, ← waitingPoints]; exact List.Subset.refl _
  · rw [waitingOutputs, hslots, ← waitingOutputs]; exact List.Subset.refl _
  · rw [waitingRecords, hsteps, ← waitingRecords]; exact List.Subset.refl _
  · rw [guardRec_of_recs hrecs]; exact .refl _

theorem Admitted.keep {s t : State} (h : Admitted s) (e : ordering t = ordering s) : Admitted t := h.shrink (.of_ordering e)

theorem ordering_of_beyondAttention {s t : State} (h : beyondAttention t = beyondAttention s) : ordering t = ordering s :=
  (congrArg ordering h :)

theorem ordering_of_beyondRecorder {s t : State} (h : beyondRecorder t = beyondRecorder s) : ordering t = ordering s :=
  (congrArg ordering h :)

theorem ordering_of_beyondUpstream {s t : State} (h : beyondUpstream t = beyondUpstream s) : ordering t = ordering s :=
  (congrArg ordering h :)

theorem ordering_of_beyondEmission {s t : State} (h : beyondEmission t = beyondEmission s) : ordering t = ordering s :=
  (congrArg ordering h :)

theorem Shrinks.of_closes {s t : State} (h : Closes s t) : Shrinks s t where
  part := (congrArg (·.part.state) h.kept :)
  cfg := (congrArg (·.dispatch.cfg) h.kept :)
  points := (h.orders.sublist.filterMap _).subset
  outputs := (h.slots.sublist.map _).subset
  records := (h.steps.sublist.map _).subset
  recs i := by
    have hrecs : t.guard.recs = s.guard.recs := (congrArg (·.guard.recs) h.kept :)
    rw [guardRec_of_recs hrecs]
    exact .refl _

theorem modGuard_lowers {s : State} {i : Nat} {f : GuardRec → GuardRec} (hf : ∀ g : GuardRec, g.Lowers (f g)) (j : Nat) :
    (s.guardRec j).Lowers ((s.modGuard i f).guardRec j) := by
  rw [State.guardRec_modGuard]
  split
  · next h => exact h.1 ▸ hf _
  · exact .refl _

theorem Shrinks.modGuard {s : State} {f : GuardRec → GuardRec} (hf : ∀ g : GuardRec, g.Lowers (f g)) (i : Nat) :
    Shrinks s (s.modGuard i f) :=
  ⟨rfl, rfl, List.Subset.refl _, List.Subset.refl _, List.Subset.refl _, modGuard_lowers hf⟩

theorem guardRec_mapGuards {s t : State} {f : GuardRec → GuardRec} (h : t.guard.recs = s.guard.recs.map f)
    (i : Nat) : t.guardRec i = f (s.guardRec i) ∨ s.guardRec i = .blank ∧ t.guardRec i = .blank := by
  simp only [State.guardRec, h, List.getD_eq_getElem?_getD, List.getElem?_map]
  cases s.guard.recs[i]? with
  | none => exact .inr ⟨rfl, rfl⟩
  | some g => exact .inl rfl

theorem Shrinks.mapGuards {s : State} {f : GuardRec → GuardRec} (hf : ∀ g : GuardRec, g.Lowers (f g)) :
    Shrinks s { s with guard := { s.guard with recs := s.guard.recs.map f } } := by
  refine ⟨rfl, rfl, List.Subset.refl _, List.Subset.refl _, List.Subset.refl _, fun i => ?_⟩
  obtain h | ⟨h, h'⟩ := guardRec_mapGuards (s := s)
    (t := { s with guard := { s.guard with recs := s.guard.recs.map f } }) rfl i
  · rw [h]; exact hf _
  · rw [h, h']; exact .refl _

end Sys2Proof.Machine
end

section
namespace Sys2Proof.Machine
open Sys2Proof

section
variable {s t : State}

/-! ### Orders placed for a CLEAR output in RUN -/

/-- An output that the guard may hold orders for: in RUN, configured and CLEAR. -/
structure Ready (s : State) (i : Nat) : Prop where
  run        : s.part.state = .run
  configured : (s.guardRec i).configured = true
  clear      : (s.guardRec i).state = .clear

/-- A later state in which, of all outputs, orders for one alone wait anew. -/
structure Grows (i : Nat) (s t : State) : Prop where
  part    : t.part.state = s.part.state
  cfg     : t.dispatch.cfg = s.dispatch.cfg
  points  : ∀ p ∈ waitingPoints t, p ∈ waitingPoints s ∨ p = (s.guardRec i).point
  outputs : ∀ k ∈ waitingOutputs t, k ∈ waitingOutputs s ∨ outputPoint s k = (s.guardRec i).point
  records : ∀ j ∈ waitingRecords t, j ∈ waitingRecords s ∨ j = i
  recs    : ∀ j, (t.guardRec j).configured = (s.guardRec j).configured ∧ (t.guardRec j).point = (s.guardRec j).point ∧
    (t.guardRec j).state = (s.guardRec j).state
  ramps   : ∀ j, j ≠ i → (t.guardRec j).rampTimer = (s.guardRec j).rampTimer

theorem Grows.configured {i : Nat} (h : Grows i s t) (j : Nat) : (t.guardRec j).configured = (s.guardRec j).configured :=
  (h.recs j).1

theorem Grows.point {i : Nat} (h : Grows i s t) (j : Nat) : (t.guardRec j).point = (s.guardRec j).point := (h.recs j).2.1

theorem Grows.state {i : Nat} (h : Grows i s t) (j : Nat) : (t.guardRec j).state = (s.guardRec j).state := (h.recs j).2.2

theorem Grows.ready {i j : Nat} (h : Grows i s t) (hr : Ready s j) : Ready t j :=
  ⟨h.part ▸ hr.run, h.configured j ▸ hr.configured, h.state j ▸ hr.clear⟩

/-- Another output than the one that orders wait for anew has no more waiting for it, its point being another (R71). -/
theorem Grows.waiting {i j : Nat} (h : Grows i s t) (hd : DistinctOutputs s) (hi : Ready s i) (hj : j ≠ i)
    (hc : (s.guardRec j).configured = true) (hw : Waiting t j) : Waiting s j := by
  have hother : (s.guardRec j).point ≠ (s.guardRec i).point := fun e => hj (hd hi.run j i hc hi.configured e)
  obtain ⟨hplace⟩ := hw
  rw [h.point, h.ramps j hj] at hplace
  obtain hp | ⟨k, hk, hp⟩ | hr | hr := hplace
  · exact ⟨.inl ((h.points _ hp).resolve_right hother)⟩
  · rw [dispatchOutputs_of_cfg h.cfg] at hp
    have hk' : outputPoint s k = (s.guardRec j).point := by
      obtain ⟨-, -, hout⟩ := mem_dispatchOutputs.mp hp
      rw [outputPoint, List.getD_eq_getElem?_getD, hout, Option.getD_some]
    exact ⟨.inr (.inl ⟨k, (h.outputs k hk).resolve_right (hk' ▸ hother), hp⟩)⟩
  · exact ⟨.inr (.inr (.inl ((h.records j hr).resolve_right hj)))⟩
  · exact ⟨.inr (.inr (.inr hr))⟩

theorem Admitted.grow {i : Nat} (h : Admitted s) (hi : Ready s i) (hg : Grows i s t) : Admitted t where
  distinct := h.distinct.of_same hg.part hg.configured hg.point
  clear j hw hc := by
    rw [hg.state]
    by_cases hj : j = i
    · exact hj ▸ hi.clear
    · rw [hg.configured] at hc
      exact h.clear j (hg.waiting h.distinct hi hj hc hw) hc
  rest hp := by rw [hg.part, hi.run] at hp; exact nomatch hp

/-- A change of a record that its configuration and state survive. -/
structure GuardRec.Stands (g h : GuardRec) : Prop where
  configured : h.configured = g.configured
  point      : h.point = g.point
  state      : h.state = g.state

theorem modGuard_grows {i : Nat} {f : GuardRec → GuardRec} (hf : ∀ g : GuardRec, g.Stands (f g)) (s : State) :
    Grows i s (s.modGuard i f) where
  part := rfl
  cfg := rfl
  points _ := .inl
  outputs _ := .inl
  records _ := .inl
  recs j := by
    rw [State.guardRec_modGuard]
    split
    · next h => exact h.1 ▸ ⟨(hf _).configured, (hf _).point, (hf _).state⟩
    · exact ⟨rfl, rfl, rfl⟩
  ramps j hj := by rw [State.guardRec_modGuard, if_neg fun e => hj e.1.symm]

theorem issue_grows (i : Nat) (v : Value) (s : State) : Grows i s (issue i v s) :=
  modGuard_grows (fun _ => by exact ⟨rfl, rfl, rfl⟩) s

theorem writeStep_grows (p : PendingStep) (s : State) : Grows p.record s (writeStep p s) where
  part := rfl
  cfg := rfl
  points _ := .inl
  outputs _ := .inl
  records j hj := by
    simp only [waitingRecords, writeStep, List.mem_map] at hj ⊢
    obtain ⟨q, hq, rfl⟩ := hj
    split at hq
    · obtain ⟨q', hq', rfl⟩ := List.mem_map.mp hq
      split
      · exact .inr rfl
      · exact .inl ⟨q', hq', rfl⟩
    · obtain hq | hq := List.mem_append.mp hq
      · exact .inl ⟨q, hq, rfl⟩
      · exact .inr (List.mem_singleton.mp hq ▸ rfl)
  recs _ := ⟨rfl, rfl, rfl⟩
  ramps _ _ := rfl

/-- An order from a dispatch output is for the output's own point. -/
def OrderOrigin.aims (s : State) (point : Nat) : OrderOrigin → Prop
  | .supervisory _ _ => True
  | .dispatch k _ => outputPoint s k = point

theorem placeOrder_grows {org : OrderOrigin} {i : Nat} (horg : org.aims s (s.guardRec i).point) (v : Value) :
    Grows i s (placeOrder org (s.guardRec i).point v s) := by
  cases org with
  | supervisory d f =>
    refine ⟨rfl, rfl, fun p hp => ?_, fun _ => .inl, fun _ => .inl, fun _ => ⟨rfl, rfl, rfl⟩, fun _ _ => rfl⟩
    simp only [waitingPoints, placeOrder, List.filterMap_append, List.mem_append] at hp ⊢
    exact hp.imp_right fun h => by simpa [QueueEntry.guardedPoint] using h
  | dispatch k u =>
    refine ⟨rfl, rfl, fun _ => .inl, fun j hj => ?_, fun _ => .inl, fun _ => ⟨rfl, rfl, rfl⟩, fun _ _ => rfl⟩
    simp only [waitingOutputs, placeOrder, writeSlot, List.mem_map] at hj ⊢
    obtain ⟨q, hq, rfl⟩ := hj
    split at hq
    · obtain ⟨q', hq', rfl⟩ := List.mem_map.mp hq
      split
      · exact .inr horg
      · exact .inl ⟨q', hq', rfl⟩
    · obtain hq | hq := List.mem_append.mp hq
      · exact .inl ⟨q, hq, rfl⟩
      · exact .inr (List.mem_singleton.mp hq ▸ horg)

/-! ### Attention, recorder, upstream queue and transmitters -/

theorem raiseFlag_admitted (fl : Flag) (h : Admitted s) : Admitted (raiseFlag fl s) :=
  h.keep (ordering_of_beyondAttention (raiseFlag_beyondAttention fl s))

theorem setCondition_admitted (fl : Flag) (b : Bool) (h : Admitted s) : Admitted (setCondition fl b s) :=
  h.keep (ordering_of_beyondAttention (setCondition_beyondAttention fl b s))

theorem followLatched_admitted (h : Admitted s) : Admitted (followLatched s) := setCondition_admitted _ _ h

theorem recordOutcome_admitted (org : RecOrigin) (o : RecOutcome) (a b p : Nat) (v : Value) (h : Admitted s) :
    Admitted (recordOutcome org o a b p v s) :=
  h.keep (ordering_of_beyondRecorder (recordOutcome_beyondRecorder ..))

theorem recordDecision_admitted (org : OrderOrigin) (o : RecOutcome) (p : Nat) (v : Value) (h : Admitted s) :
    Admitted (recordDecision org o p v s) :=
  h.keep (ordering_of_beyondRecorder (recordDecision_beyondRecorder ..))

theorem markerTrigger_admitted (p : Option Nat) (v : Option Value) (m : TriggerMark) (h : Admitted s) :
    Admitted (markerTrigger p v m s) :=
  h.keep (ordering_of_beyondRecorder (markerTrigger_beyondRecorder ..))

theorem handUpstream_admitted (e : UpEntry) (h : Admitted s) : Admitted (handUpstream e s) :=
  h.keep (ordering_of_beyondUpstream (handUpstream_beyondUpstream e s))

theorem serve_admitted (h : Admitted s) : Admitted (serve s) := h.shrink (.of_closes (serve_closes s))

theorem modGuard_admitted {f : GuardRec → GuardRec} (hf : ∀ g : GuardRec, g.Lowers (f g)) (i : Nat) (h : Admitted s) :
    Admitted (s.modGuard i f) := h.shrink (.modGuard hf i)

theorem foldl_admitted {α : Type} {f : State → α → State} (hf : ∀ t a, Admitted t → Admitted (f t a)) (l : List α)
    (h : Admitted s) : Admitted (l.foldl f s) := by
  induction l generalizing s with
  | nil => exact h
  | cons a l ih => exact ih (hf s a h)

/-! ### Withdrawals and trips -/

theorem withdrawStep_shrinks (i : Nat) (s : State) : Shrinks s (withdrawStep i s) := by
  rw [withdrawStep_eq]
  refine ⟨rfl, rfl, List.Subset.refl _, List.Subset.refl _, ((List.filter_sublist).map _).subset, fun j => ?_⟩
  exact modGuard_lowers (f := fun r => { r with issued := issuedWithdrawn s i }) (fun _ => ⟨rfl, rfl, id, id⟩) j

theorem withdrawStep_admitted (i : Nat) (h : Admitted s) : Admitted (withdrawStep i s) := h.shrink (withdrawStep_shrinks i s)

theorem ordersWithdrawn_shrinks (i : Nat) (s : State) : Shrinks s (ordersWithdrawn i s) := by
  refine ⟨rfl, rfl, (List.filter_sublist.filterMap _).subset, (List.filter_sublist.map _).subset,
    (List.filter_sublist.map _).subset, fun j => ?_⟩
  exact modGuard_lowers (f := fun r => { r with issued := issuedWithdrawn s i, rampTimer := none })
    (fun _ => ⟨rfl, rfl, fun h => absurd rfl h, id⟩) j

/-- Once every order for an output is withdrawn, none waits for it (R73 step 1). -/
theorem ordersWithdrawn_not_waiting {i : Nat} (hi : i < s.guard.recs.length) : ¬Waiting (ordersWithdrawn i s) i := by
  have hrec : (ordersWithdrawn i s).guardRec i = { s.guardRec i with issued := issuedWithdrawn s i, rampTimer := none } :=
    guardRec_modGuard_same hi fun r => { r with issued := issuedWithdrawn s i, rampTimer := none }
  rw [not_waiting_iff, hrec]
  refine ⟨fun e he => ?_, fun o ho => ?_, fun p hp => ?_, rfl⟩
  · simpa using List.of_mem_filter he
  · have hout : dispatchOutputs (ordersWithdrawn i s) (s.guardRec i).point = dispatchOutputs s (s.guardRec i).point :=
      dispatchOutputs_of_cfg rfl _
    rw [hout]
    simpa using List.of_mem_filter ho
  · simpa using List.of_mem_filter hp

theorem tripped_plan (g : GuardRec) (issued : Option Value) (now : Nat) :
    (g.tripped issued now).configured = g.configured ∧ (g.tripped issued now).point = g.point ∧
      (g.tripped issued now).rampTimer = none := by
  unfold GuardRec.tripped
  split <;> exact ⟨rfl, rfl, rfl⟩

/-- An output for which nothing waits may trip. -/
theorem tripActed_admitted {i : Nat} {v : State} (hi : i < v.guard.recs.length) (h : Admitted v)
    (hw : ¬Waiting v i) (hc : (v.guardRec i).configured = (s.guardRec i).configured)
    (hp : (v.guardRec i).point = (s.guardRec i).point) : Admitted (tripActed i s v) := by
  obtain ⟨hconf, hpoint, hramp⟩ := tripped_plan (s.guardRec i) (issuedWithdrawn s i) s.now
  have hsame : (tripActed i s v).guardRec i = (s.guardRec i).tripped (issuedWithdrawn s i) s.now :=
    guardRec_modGuard_same hi fun _ => (s.guardRec i).tripped (issuedWithdrawn s i) s.now
  have hother (j : Nat) (hj : j ≠ i) : (tripActed i s v).guardRec j = v.guardRec j := by
    refine (State.guardRec_modGuard v i j fun _ => (s.guardRec i).tripped (issuedWithdrawn s i) s.now).trans ?_
    rw [if_neg fun e => hj e.1.symm]
  have hshrinks : ∀ j, Waiting (tripActed i s v) j → Waiting v j ∧ j ≠ i := by
    rintro j ⟨hplace⟩
    by_cases hj : j = i
    · subst hj
      rw [hsame, hpoint, hramp, ← hp] at hplace
      exact absurd ⟨hplace.imp_right (Or.imp_right (Or.imp_right fun h => absurd rfl h))⟩ hw
    · rw [hother j hj] at hplace
      exact ⟨⟨hplace⟩, hj⟩
  refine ⟨h.distinct.of_same rfl (fun j => ?_) (fun j => ?_), fun j hj hcj => ?_, fun hs => ?_⟩
  · by_cases hj : j = i
    · subst hj; rw [hsame, hconf, hc]
    · rw [hother j hj]
  · by_cases hj : j = i
    · subst hj; rw [hsame, hpoint, hp]
    · rw [hother j hj]
  · obtain ⟨hwait, hj⟩ := hshrinks j hj
    rw [hother j hj] at hcj ⊢
    exact h.clear j hwait hcj
  · have hn := h.rest hs
    refine ⟨hn.points, hn.outputs, hn.records, fun j => ?_⟩
    by_cases hj : j = i
    · subst hj; rw [hsame, hramp]
    · rw [hother j hj]; exact hn.ramps j

theorem tripRecorded_admitted (g : GuardRec) (issued : Option Value) (h : Admitted s) : Admitted (tripRecorded g issued s) :=
  h.keep (ordering_of_beyondRecorder (tripRecorded_beyondRecorder g issued s))

theorem tripOutput_admitted {i : Nat} (hi : i < s.guard.recs.length) (h : Admitted s) : Admitted (tripOutput i s) := by
  have hserved : Shrinks (ordersWithdrawn i s) (serve (ordersWithdrawn i s)) := .of_closes (serve_closes _)
  have hrec := guardRec_withdrawn hi
  have hlen : i < (serve (ordersWithdrawn i s)).guard.recs.length := by
    rw [serve_recs]
    exact hi.trans_eq (List.length_modify ..).symm
  rw [tripOutput_eq hi]
  refine serve_admitted (tripRecorded_admitted _ _ (raiseFlag_admitted _ (followLatched_admitted
    (tripActed_admitted hlen ((h.shrink (ordersWithdrawn_shrinks i s)).shrink hserved)
      (fun hw => ordersWithdrawn_not_waiting hi (hserved.waiting hw)) ?_ ?_))))
  · rw [hrec]
  · rw [hrec]

theorem interlockEnds_admitted (i : Nat) (h : Admitted s) (hs : (s.guardRec i).state = .tripped) :
    Admitted (interlockEnds i s) := by
  refine followLatched_admitted (h.shrink ⟨rfl, rfl, List.Subset.refl _, List.Subset.refl _, List.Subset.refl _,
    fun j => ?_⟩)
  rw [State.guardRec_modGuard]
  split
  · next hj => exact hj.1 ▸ ⟨rfl, rfl, id, fun e => by rw [hs] at e; exact nomatch e⟩
  · exact .refl _

theorem wakeOutput_admitted (p i : Nat) (h : Admitted s) : Admitted (wakeOutput p i s) := by
  by_cases hr : (s.guardRec i).reads p
  · have hlen := lt_guards_of_configured hr.1
    have hseen : Admitted (s.modGuard i fun _ => (s.guardRec i).wokenBy s p) := by
      rw [modGuard_congr (f := fun _ => (s.guardRec i).wokenBy s p) (g := fun g => g.wokenBy s p) rfl]
      exact modGuard_admitted (fun _ => by exact ⟨rfl, rfl, id, id⟩) i h
    rw [wakeOutput_of_reads hr]
    simp only
    split
    · exact tripOutput_admitted (hlen.trans_eq (List.length_modify ..).symm) hseen
    · split
      · next hend =>
        refine interlockEnds_admitted i hseen ?_
        rw [guardRec_modGuard_same hlen]
        exact hend.2.2
      · exact hseen
  · rw [wakeOutput_of_not_reads hr]
    exact h

theorem wakeGuard_admitted (p : Nat) (h : Admitted s) : Admitted (wakeGuard p s) := by
  unfold wakeGuard
  split
  · exact h
  · exact foldl_admitted (fun _ i => wakeOutput_admitted p i) _ h

/-! ### Orders for a guarded output -/

theorem judgeOrder_admitted {org : OrderOrigin} {i : Nat} (hi : Ready s i) (horg : org.aims s (s.guardRec i).point)
    (v : Value) (h : Admitted s) : Admitted (judgeOrder org i v s) := by
  have haimed {f : GuardRec → GuardRec} (hf : ∀ g : GuardRec, g.Stands (f g)) (x : Value) :
      Admitted (issue i x (placeOrder org (s.guardRec i).point x (s.modGuard i f))) := by
    have htarget : Grows i s (s.modGuard i f) := modGuard_grows hf s
    have hready := htarget.ready hi
    have horg' : org.aims (s.modGuard i f) ((s.modGuard i f).guardRec i).point := by
      rw [htarget.point]; exact horg
    have hplaced := placeOrder_grows horg' x
    rw [htarget.point] at hplaced
    exact ((h.grow hi htarget).grow hready hplaced).grow (hplaced.ready hready) (issue_grows i x _)
  unfold judgeOrder
  simp only
  split
  · exact recordDecision_admitted _ _ _ _ (haimed (fun _ => by exact ⟨rfl, rfl, rfl⟩) _)
  · split
    · exact recordDecision_admitted _ _ _ _ (haimed (fun _ => by exact ⟨rfl, rfl, rfl⟩) _)
    · rw [modGuard_modGuard]
      exact recordDecision_admitted _ _ _ _ (h.grow hi (modGuard_grows (fun _ => by exact ⟨rfl, rfl, rfl⟩) s))

/-- The checks of R77 let an order through only in RUN and for a CLEAR output. -/
theorem orderRefusal_eq_none {g : GuardRec} {org : OrderOrigin} (h : orderRefusal s g org = none) :
    s.part.state = .run ∧ g.state = .clear := by
  cases org with
  | supervisory d f =>
    simp only [orderRefusal] at h
    split at h
    · exact nomatch h
    · next hs =>
      split at h
      · exact nomatch h
      · split at h
        · exact nomatch h
        · next hc => exact ⟨by cases hp : s.part.state <;> simp_all, not_not.mp hc⟩
  | dispatch k u =>
    simp only [orderRefusal] at h
    split at h
    · exact nomatch h
    · next hs =>
      split at h
      · exact nomatch h
      · next hc => exact ⟨by cases hp : s.part.state <;> simp_all, not_not.mp hc⟩

theorem guardOrder_admitted {org : OrderOrigin} {i : Nat} (hc : (s.guardRec i).configured = true)
    (horg : org.aims s (s.guardRec i).point) (v : Value) (h : Admitted s) : Admitted (guardOrder org i v s).2 := by
  have hstep := withdrawStep_shrinks i s
  have hu := h.shrink hstep
  have hcu : ((withdrawStep i s).guardRec i).configured = true := by rw [(hstep.recs i).configured, hc]
  have horgu : org.aims (withdrawStep i s) ((withdrawStep i s).guardRec i).point := by
    rw [(hstep.recs i).point]
    cases org with
    | supervisory => trivial
    | dispatch k b =>
      show outputPoint _ k = _
      rw [outputPoint, hstep.cfg]
      exact horg
  unfold guardOrder
  simp only
  generalize withdrawStep i s = u at hu hcu horgu ⊢
  have hcount {f : GuardRec → GuardRec} (hf : ∀ g : GuardRec, g.Lowers (f g)) : Admitted (u.modGuard i f) :=
    modGuard_admitted hf i hu
  split
  · next hnone =>
    obtain ⟨hrun, hclear⟩ := orderRefusal_eq_none hnone
    exact judgeOrder_admitted ⟨hrun, hcu, hclear⟩ horgu v hu
  · exact recordDecision_admitted _ _ _ _ (hcount fun _ => ⟨rfl, rfl, id, id⟩)
  · apply recordDecision_admitted
    split
    · exact raiseFlag_admitted _ (hcount fun _ => ⟨rfl, rfl, id, id⟩)
    · exact hcount fun _ => ⟨rfl, rfl, id, id⟩
  · exact recordDecision_admitted _ _ _ _ (hcount fun _ => ⟨rfl, rfl, id, id⟩)

/-- A step issued for an output that may hold one (R81, R85). -/
theorem issueStep_admitted {i : Nat} (hi : Ready s i) (v fromVal : Value) (h : Admitted s) :
    Admitted (issue i v (writeStep ⟨i, v, fromVal⟩ s)) :=
  have hwritten := writeStep_grows ⟨i, v, fromVal⟩ s
  (h.grow hi hwritten).grow (hwritten.ready hi) (issue_grows i v _)

theorem rampExpires_admitted (i : Nat) (h : Admitted s) : Admitted (rampExpires i s) := by
  have hstopped : Shrinks s (s.modGuard i fun g => { g with rampTimer := none }) :=
    .modGuard (fun _ => by exact ⟨rfl, rfl, fun e => absurd rfl e, id⟩) i
  have hu := h.shrink hstopped
  unfold rampExpires
  simp only
  split
  · split
    · next hlive =>
      obtain ⟨hc, hclear, hrun, -⟩ := hlive
      have hready : Ready (s.modGuard i fun g => { g with rampTimer := none }) i :=
        ⟨hrun, (hstopped.recs i).configured.trans hc, (hstopped.recs i).clear hclear⟩
      exact recordOutcome_admitted _ _ _ _ _ _ (issueStep_admitted hready _ _ hu)
    · exact hu
  · exact hu

/-! ### RESTRICT entry -/

theorem restrictTo_guardedPoint (p : Nat) (rh : Value) (e : QueueEntry) :
    (e.restrictTo p rh).guardedPoint = e.guardedPoint := by
  cases e <;> rfl

/-- A RESTRICT entry lowers values and moves no order (R85). -/
theorem restrictWaiting_shrinks (i : Nat) (s : State) : Shrinks s (restrictWaiting i s) where
  part := rfl
  cfg := rfl
  points := by
    simp only [waitingPoints, restrictWaiting, State.modGuard_fwd, List.filterMap_map, Function.comp_def,
      restrictTo_guardedPoint]
    exact List.Subset.refl _
  outputs := by
    simp only [waitingOutputs, restrictWaiting, State.modGuard_dispatch, List.map_map]
    refine (List.map_congr_left fun x _ => ?_).symm ▸ List.Subset.refl _
    simp only [Function.comp_apply]
    split <;> rfl
  records := by
    simp only [waitingRecords, restrictWaiting, State.modGuard, List.map_map]
    refine (List.map_congr_left fun x _ => ?_).symm ▸ List.Subset.refl _
    simp only [Function.comp_apply]
    split <;> rfl
  recs j := modGuard_lowers (f := fun g => { g with target := g.target.map fun t => min t (s.guardRec i).rhigh })
    (fun _ => ⟨rfl, rfl, id, id⟩) j

theorem restrictOutput_admitted (l : LineId) (i : Nat) (hrun : s.part.state = .run) (h : Admitted s) :
    Admitted (restrictOutput l i s) := by
  have hlow := restrictWaiting_shrinks i s
  have hu := h.shrink hlow
  unfold restrictOutput
  simp only
  split
  · next hacts =>
    obtain ⟨hc, -, -, hclear⟩ := hacts
    have hready : Ready (restrictWaiting i s) i :=
      ⟨hrun, (hlow.recs i).configured.trans hc, (hlow.recs i).clear hclear⟩
    split
    · exact hu
    · split
      · exact serve_admitted (recordOutcome_admitted _ _ _ _ _ _ (issueStep_admitted hready _ _ hu))
      · exact hu
  · exact h

theorem restrictOutput_part (l : LineId) (i : Nat) (s : State) : (restrictOutput l i s).part = s.part :=
  part_of_beyondGuard (restrictOutput_beyondGuard l i s)

theorem restrictEntry_admitted (l : LineId) (hrun : s.part.state = .run) (h : Admitted s) :
    Admitted (restrictEntry l s) := by
  unfold restrictEntry
  generalize List.range Config.guards = is
  induction is generalizing s with
  | nil => exact h
  | cons i is ih =>
    exact ih (by rw [restrictOutput_part]; exact hrun) (restrictOutput_admitted l i hrun h)

end

end Sys2Proof.Machine
end

section
namespace Sys2Proof.Machine
open Sys2Proof

section
variable {s t : State}

/-! ### Points, lines and dispatch inputs -/

theorem modPoint_admitted (p : Nat) (f : Point → Point) (h : Admitted s) : Admitted (s.modPoint p f) := h.keep rfl

/-- The dispatch unit may change in all but its table and its slots. -/
theorem dispatch_admitted {d : DispatchUnit} (hcfg : d.cfg = s.dispatch.cfg) (hslots : d.slots = s.dispatch.slots)
    (h : Admitted s) : Admitted { s with dispatch := d } :=
  h.keep (by simp only [ordering, hcfg, hslots])

theorem emission_admitted (e : Emission) (h : Admitted s) : Admitted { s with emission := e } := h.keep rfl

theorem modChannel_admitted (c : Nat) (f : Channel → Channel) (h : Admitted s) : Admitted (s.modChannel c f) := h.keep rfl

theorem modLine_admitted (l : LineId) (f : LineRec → LineRec) (h : Admitted s) : Admitted (s.modLine l f) :=
  h.keep (ordering_of_beyondEmission (modLine_beyondEmission l f s))

theorem deriveOperating_admitted (l : LineId) (h : Admitted s) : Admitted (deriveOperating l s) :=
  h.keep (ordering_of_beyondEmission (deriveOperating_beyondEmission l s))

theorem wakeLines_admitted (p : Nat) (h : Admitted s) : Admitted (wakeLines p s) :=
  h.keep (ordering_of_beyondEmission (wakeLines_beyondEmission p s))

theorem followDispatch_admitted (h : Admitted s) : Admitted (followDispatch s) :=
  h.keep (ordering_of_beyondAttention (followDispatch_beyondAttention s))

theorem setInput_cfg (d : DispatchUnit) (i : ReqInput) (x : InputRec) : (d.setInput i x).cfg = d.cfg := by
  cases i <;> rfl

theorem wakeInput_admitted (p : Nat) (i : ReqInput) (h : Admitted s) : Admitted (wakeInput p i s) := by
  unfold wakeInput
  split
  · exact dispatch_admitted (setInput_cfg _ i _) (setInput_slots _ i _) h
  · exact h

theorem wakeTripSeen_admitted (p : Nat) (h : Admitted s) : Admitted (wakeTripSeen p s) := by
  unfold wakeTripSeen
  split
  · exact dispatch_admitted rfl rfl h
  · exact h

theorem wakeDemands_admitted (p : Nat) (h : Admitted s) : Admitted (wakeDemands p s) := by
  unfold wakeDemands
  simp only
  split
  · exact dispatch_admitted rfl rfl h
  · exact h

theorem wakeDispatch_admitted (p : Nat) (h : Admitted s) : Admitted (wakeDispatch p s) := by
  unfold wakeDispatch
  split
  · exact followDispatch_admitted (wakeDemands_admitted p (wakeTripSeen_admitted p (wakeInput_admitted p _
      (wakeInput_admitted p _ (wakeInput_admitted p _ h)))))
  · exact h

theorem wakeConsumers_admitted (p : Nat) (h : Admitted s) : Admitted (wakeConsumers p s) :=
  wakeDispatch_admitted p (wakeLines_admitted p (wakeGuard_admitted p h))

theorem reportSelf_admitted (p : Nat) (a b : Value × Quality) (h : Admitted s) : Admitted (reportSelf p a b s) := by
  unfold reportSelf
  split
  · exact handUpstream_admitted _ h
  · exact h

theorem pointEvent_admitted (p : Nat) {change : State → State} (h : Admitted (change s)) :
    Admitted (pointEvent p change s) :=
  serve_admitted (reportSelf_admitted _ _ _ (wakeConsumers_admitted p h))

theorem writeSelf_admitted (p : Nat) (v : Value) (h : Admitted s) : Admitted (writeSelf p v s) :=
  pointEvent_admitted p (modPoint_admitted p _ h)

theorem expireFreshness_admitted (p : Nat) (h : Admitted s) : Admitted (expireFreshness p s) := by
  have hwoken := wakeConsumers_admitted p (modPoint_admitted p (fun x => { x with fresh := .expired, timer := none }) h)
  unfold expireFreshness
  simp only
  refine serve_admitted (reportSelf_admitted _ _ _ ?_)
  split
  · exact raiseFlag_admitted _ hwoken
  · exact hwoken

/-! ### The dispatch unit's states and cycles -/

theorem publish_admitted (p : Option Nat) (v : Value) (h : Admitted s) : Admitted (publish p v s) := by
  unfold publish
  split
  · exact h
  · exact writeSelf_admitted _ v h

/-- A change of the dispatch state is followed by its conditions and its state point (R128). -/
theorem unitState_admitted {d : DispatchUnit} (hcfg : d.cfg = s.dispatch.cfg) (hslots : d.slots = s.dispatch.slots)
    (h : Admitted s) : Admitted (publishState (followDispatch { s with dispatch := d })) :=
  publish_admitted _ _ (followDispatch_admitted (dispatch_admitted hcfg hslots h))

theorem holdCause_admitted (c : HoldCause) (h : Admitted s) : Admitted (holdCause c s) := by
  unfold holdCause
  split
  · exact h
  · exact unitState_admitted rfl rfl h
  · cases c
    · exact h
    · exact dispatch_admitted rfl rfl h
    · exact dispatch_admitted rfl rfl h

theorem assessInput_admitted (i : ReqInput) (h : Admitted s) : Admitted (assessInput i s) :=
  dispatch_admitted (setInput_cfg _ i _) (setInput_slots _ i _) h

theorem startCycleTimer_admitted (h : Admitted s) : Admitted (startCycleTimer s) := dispatch_admitted rfl rfl h

theorem enterFromStopped_admitted (h : Admitted s) : Admitted (enterFromStopped s) := by
  have hassessed := startCycleTimer_admitted (assessInput_admitted .trip (assessInput_admitted .fb
    (assessInput_admitted .fa h)))
  unfold enterFromStopped
  simp only
  split
  · exact unitState_admitted rfl rfl hassessed
  · exact unitState_admitted rfl rfl hassessed

theorem enterStopped_admitted (h : Admitted s) : Admitted (enterStopped s) := by
  unfold enterStopped
  split
  · exact h
  · exact unitState_admitted rfl rfl h

/-- The guarded output that names a point is configured and names it (R39). -/
theorem guardOf_names {p i : Nat} (h : guardOf s p = some i) :
    (s.guardRec i).configured = true ∧ (s.guardRec i).point = p := by
  have hi := List.find?_some h
  simpa using hi

theorem handOutput_admitted (r : CycleRecord) (k : Nat) (v : Value) (h : Admitted s) : Admitted (handOutput r k v s).2 := by
  unfold handOutput
  split
  · split
    · exact h
    · next i hi =>
      obtain ⟨hc, hp⟩ := guardOf_names hi
      exact dispatch_admitted rfl rfl
        (guardOrder_admitted (org := .dispatch k (decide (r.outcome = .trip))) hc hp.symm v h)
  · exact h

theorem handAll_admitted (r : CycleRecord) (h : Admitted s) : Admitted (handAll r s).2 :=
  handAll_induct (R := fun s t => Admitted s → Admitted t) (fun _ => id) (fun h1 h2 h => h2 (h1 h))
    (fun r k v _ => handOutput_admitted r k v) (fun _ => serve_admitted) r s h

theorem runCycle_admitted (h : Admitted s) : Admitted (runCycle s) := by
  have hhanded := handAll_admitted (computeCycle s) (startCycleTimer_admitted (dispatch_admitted
    (d := { s.dispatch with cycleNo := (computeCycle s).number, cycles := bump s.dispatch.cycles }) rfl rfl h))
  exact publish_admitted _ _ (publish_admitted _ _ (publish_admitted _ _ (dispatch_admitted rfl rfl hhanded)))

theorem actOnOccasion_admitted (h : Admitted s) : Admitted (actOnOccasion s) := by
  unfold actOnOccasion
  split
  · exact h
  · exact runCycle_admitted h
  · split
    · exact runCycle_admitted (unitState_admitted rfl rfl h)
    · exact h

theorem runOccasions_admitted (n : Nat) (h : Admitted s) : Admitted (runOccasions n s) := by
  induction n generalizing s with
  | zero => exact h
  | succ n ih =>
    unfold runOccasions
    split
    · exact ih (actOnOccasion_admitted (dispatch_admitted rfl rfl h))
    · exact h

theorem settle_admitted (h : Admitted s) : Admitted (settle s) := serve_admitted (runOccasions_admitted _ h)

theorem runCommanded_admitted (h : Admitted s) : Admitted (runCommanded s) := by
  unfold runCommanded
  split
  · exact dispatch_admitted rfl rfl h
  · exact runCycle_admitted (startCycleTimer_admitted (unitState_admitted rfl rfl h))

/-! ### The emission unit in RUN -/

theorem followEmission_admitted (h : Admitted s) : Admitted (followEmission s) :=
  setCondition_admitted _ _ (setCondition_admitted _ _ h)

/-- A line may take its emission state in RUN, and in SETUP where that is not RESTRICT: an entry into RESTRICT issues
steps (R85). -/
theorem deriveEmission_admitted (always : Bool) (l : LineId)
    (hcalm : s.part.state = .run ∨ emissionStateOf s l ≠ .restrict) (h : Admitted s) :
    Admitted (deriveEmission always l s) := by
  have hstored : Admitted (stateStored l s) := modLine_admitted l _ h
  have htaken : Admitted (stateTaken l s) := by
    refine followEmission_admitted ?_
    split
    · next hin =>
      refine restrictEntry_admitted l ?_ (markerTrigger_admitted _ _ _ hstored)
      have hrun := hcalm.resolve_right (not_not.mpr hin.1)
      have hpart : (markerTrigger none (some (lineNumber l)) .lineRestrict (stateStored l s)).part = (stateStored l s).part :=
        (congrArg State.part (markerTrigger_beyondRecorder _ _ _ _) :)
      rw [hpart, stateStored, State.modLine_part, hrun]
    · exact hstored
  rw [deriveEmission_eq]
  split
  · split
    · exact settle_admitted (publish_admitted _ _ htaken)
    · exact htaken
  · exact h

theorem takeValid_admitted (c : Nat) (cn : Int) (hrun : s.part.state = .run) (h : Admitted s) :
    Admitted (takeValid c cn s) := by
  unfold takeValid
  simp only
  split
  · exact modChannel_admitted _ _ h
  · split
    · split
      · exact deriveEmission_admitted _ _ (.inl hrun) (modChannel_admitted _ _ (modChannel_admitted _ _ h))
      · exact modChannel_admitted _ _ (modChannel_admitted _ _ h)
    · exact modChannel_admitted _ _ h

theorem takeSample_admitted (c : Nat) (v : Value) (q : Quality) (hrun : s.part.state = .run) (h : Admitted s) :
    Admitted (takeSample c v q s) := by
  unfold takeSample
  simp only
  split
  · exact h
  · exact modChannel_admitted _ _ h
  · exact takeValid_admitted _ _ hrun (modChannel_admitted _ _ h)

theorem part_of_fold {α : Type} {f : State → α → State} (hf : ∀ t a, beyondWake (f t a) = beyondWake t) (l : List α)
    (s : State) : (l.foldl f s).part = s.part :=
  part_of_beyondWake (foldl_keeps beyondWake f hf l s)

/-- A fold of operations that need RUN and leave the part record. -/
theorem foldl_run_admitted {α : Type} {f : State → α → State} (hwake : ∀ t a, beyondWake (f t a) = beyondWake t)
    (hf : ∀ t a, t.part.state = .run → Admitted t → Admitted (f t a)) (l : List α) (hrun : s.part.state = .run)
    (h : Admitted s) : Admitted (l.foldl f s) := by
  induction l generalizing s with
  | nil => exact h
  | cons a l ih => exact ih (by rw [part_of_beyondWake (hwake s a)]; exact hrun) (hf s a hrun h)

/-- Every channel is IDLE while the part is in SETUP (R114). -/
def ChannelsRest (s : State) : Prop := s.part.state = .setup → ∀ c ∈ s.emission.channels, c.run.opened = false

theorem ChannelsRest.closed (h : ChannelsRest s) (hs : s.part.state = .setup) (c : Nat) : (s.channel c).run.opened = false := by
  rw [State.channel, List.getD_eq_getElem?_getD]
  cases hc : s.emission.channels[c]? with
  | none => rfl
  | some ch => exact h hs ch (List.mem_of_getElem? hc)

theorem ChannelsRest.openChannels_eq_nil (h : ChannelsRest s) (hs : s.part.state = .setup) : openChannels s = [] :=
  Machine.openChannels_eq_nil.mpr fun c _ => h.closed hs c

/-- IDLE channels take no sample (R99). -/
theorem wakeChannels_of_idle {p : Nat} {v : Value} {q : Quality} (h : ∀ c, (s.channel c).run.opened = false) :
    wakeChannels p v q s = s := by
  unfold wakeChannels
  induction List.range Config.channels with
  | nil => rfl
  | cons c l ih => simp only [List.foldl_cons, h c, Bool.and_false, Bool.false_and, Bool.false_eq_true, if_false, ih]

theorem part_run_or_setup (s : State) : s.part.state = .run ∨ s.part.state = .setup := by
  cases s.part.state
  · exact .inr rfl
  · exact .inl rfl

theorem wakeChannel_beyondWake (p : Nat) (v : Value) (q : Quality) (t : State) (c : Nat) :
    beyondWake (if (t.channel c).cfg.configured && (t.channel c).run.opened && decide ((t.channel c).cfg.pollutant = p)
      then takeSample c v q t else t) = beyondWake t := by
  split
  · exact takeSample_beyondWake c v q t
  · rfl

theorem wakeChannels_admitted (p : Nat) (v : Value) (q : Quality) (hr : ChannelsRest s) (h : Admitted s) :
    Admitted (wakeChannels p v q s) := by
  obtain hrun | hs := part_run_or_setup s
  · refine foldl_run_admitted (wakeChannel_beyondWake p v q) (fun t c hrun ht => ?_) _ hrun h
    split
    · exact takeSample_admitted c v q hrun ht
    · exact ht
  · rw [wakeChannels_of_idle fun c => hr.closed hs c]
    exact h

theorem closeHalf_admitted (cut : Bool) (c : Nat) (h : Admitted s) : Admitted (closeHalf cut c s) := by
  rw [closeHalf_eq]
  split
  · exact modChannel_admitted _ _ h
  · exact settle_admitted (publish_admitted _ _ (modChannel_admitted _ _ h))

theorem closeDay_admitted (cut : Bool) (c : Nat) (h : Admitted s) : Admitted (closeDay cut c s) :=
  modChannel_admitted _ _ h

theorem openPeriods_admitted (l : List Nat) (h : Admitted s) : Admitted (l.foldl (fun t c => openPeriod c t) s) :=
  foldl_admitted (fun _ c => modChannel_admitted c _) l h

theorem raisePeriodClosed_admitted (l : List Nat) (h : Admitted s) : Admitted (raisePeriodClosed l s) := by
  unfold raisePeriodClosed
  split
  · exact raiseFlag_admitted _ h
  · exact h

theorem deriveClosed_admitted (l : List Nat) (hrun : s.part.state = .run) (h : Admitted s) : Admitted (deriveClosed l s) := by
  refine foldl_run_admitted (fun t m => ?_) (fun t m hrun ht => ?_) _ hrun h
  · split
    · exact deriveEmission_beyondWake true m t
    · rfl
  · split
    · exact deriveEmission_admitted true m (.inl hrun) ht
    · exact ht

theorem closesDerived_admitted (cut : Bool) (l : List Nat) (hrun : s.part.state = .run) (h : Admitted s) :
    Admitted (closesDerived cut l s) :=
  deriveClosed_admitted l (by rw [part_of_beyondWake (closeHalves_beyondWake cut l s)]; exact hrun)
    (foldl_admitted (fun _ c => closeHalf_admitted cut c) l h)

theorem emissionBoundary_admitted (day : Bool) (hr : ChannelsRest s) (h : Admitted s) :
    Admitted (emissionBoundary day s) := by
  obtain hrun | hs := part_run_or_setup s
  · unfold emissionBoundary
    simp only
    split
    · exact h
    · have hclosed := raisePeriodClosed_admitted (openChannels s) (closesDerived_admitted false (openChannels s) hrun h)
      apply openPeriods_admitted
      split
      · exact raiseFlag_admitted _ (foldl_admitted (fun _ c => closeDay_admitted false c) _ hclosed)
      · exact hclosed
  · rw [emissionBoundary_of_idle (hr.openChannels_eq_nil hs)]
    exact h

theorem emissionTimeSet_admitted (h : Admitted s) : Admitted (emissionTimeSet s) := by
  unfold emissionTimeSet
  split
  · exact h
  · next hrun =>
    simp only
    split
    · exact openPeriods_admitted _ h
    · split
      · exact h
      · have hclosed := closesDerived_admitted true (openChannels s) hrun h
        have hdays := foldl_admitted (fun _ c => closeDay_admitted true c) (openChannels s) hclosed
        split
        · exact raiseFlag_admitted _ (raisePeriodClosed_admitted _ (raiseFlag_admitted _ (openPeriods_admitted _ hdays)))
        · exact raisePeriodClosed_admitted _ (raiseFlag_admitted _ (openPeriods_admitted _ hclosed))

theorem emissionStart_admitted (hrun : s.part.state = .run) (h : Admitted s) : Admitted (emissionStart s) := by
  have hA := emission_admitted { s.emission with channels := s.emission.channels.map startWarnLevel } h
  have hderivedA := deriveEmission_admitted true .a (.inl ?_) (deriveOperating_admitted .a hA)
  · have hderivedB := deriveEmission_admitted true .b (.inl ?_) (deriveOperating_admitted .b hderivedA)
    · unfold emissionStart
      simp only
      split
      · exact hderivedB
      · exact openPeriods_admitted _ hderivedB
    · rw [part_of_beyondWake (deriveOperating_beyondWake ..), part_of_beyondWake (deriveEmission_beyondWake ..),
        part_of_beyondWake (deriveOperating_beyondWake ..)]
      exact hrun
  · rw [part_of_beyondWake (deriveOperating_beyondWake ..)]
    exact hrun

/-! ### The channels in SETUP -/

/-- In SETUP no wake and no cycle touches a channel (R92, R99). -/
def Still (s t : State) : Prop := t.part = s.part ∧ (s.part.state = .setup → t.emission.channels = s.emission.channels)

theorem Still.refl (s : State) : Still s s := ⟨rfl, fun _ => rfl⟩

theorem Still.trans {s t u : State} (h : Still s t) (h' : Still t u) : Still s u :=
  ⟨h'.1.trans h.1, fun hs => (h'.2 (h.1 ▸ hs)).trans (h.2 hs)⟩

theorem Still.of_emission (hp : t.part = s.part) (he : t.emission = s.emission) : Still s t :=
  ⟨hp, fun _ => by rw [he]⟩

theorem Still.rest (h : Still s t) (hr : ChannelsRest s) : ChannelsRest t := fun hs => by
  rw [h.1] at hs
  rw [h.2 hs]
  exact hr hs

theorem deriveOperating_still (l : LineId) (s : State) : Still s (deriveOperating l s) := by
  refine ⟨part_of_beyondWake (deriveOperating_beyondWake l s), fun hs => ?_⟩
  rw [deriveOperating_of_setup hs]
  split
  · cases l <;> rfl
  · rfl

theorem wakeLines_still (p : Nat) (s : State) : Still s (wakeLines p s) := by
  have hline (l : LineId) (t : State) : Still t (if (t.line l).opPoint = p then deriveOperating l t else t) := by
    split
    · exact deriveOperating_still l t
    · exact .refl t
  exact (hline .a s).trans (hline .b _)

theorem serve_still (s : State) : Still s (serve s) := .of_emission (serve_part s) (serve_emission s)

theorem wokenGuard_still (p : Nat) (v : Value) (q : Quality) (s : State) : Still s (wakeGuard p (storeUpdate p v q s)) :=
  .of_emission ((part_of_beyondGuard (wakeGuard_beyondGuard p _)).trans (storeUpdate_part p v q s))
    (wakeGuard_emission p _)

theorem writeSelf_still (p : Nat) (v : Value) (s : State) : Still s (writeSelf p v s) := by
  refine ⟨writeSelf_part p v s, fun hs => ?_⟩
  have hguard := wokenGuard_still p v .good s
  rw [writeSelf_emission]
  exact (hguard.trans (wakeLines_still p _)).2 hs

theorem cycleFrame_still : CycleFrame Still where
  refl := .refl
  trans := .trans
  serve := serve_still
  handed := fun r s => .of_emission (part_of_beyondGuard (handAll_beyondGuard r s)) (emission_of_beyondGuard (handAll_beyondGuard r s))
  unit := fun _ _ _ => .of_emission rfl rfl
  conditions := fun s => .of_emission (part_of_beyondWake (followDispatch_beyondWake s)) (followDispatch_emission s)
  written := fun p v s _ => writeSelf_still p v s

theorem settle_still (s : State) : Still s (settle s) := cycleFrame_still.settle s

theorem publish_still (p : Option Nat) (v : Value) (s : State) : Still s (publish p v s) := by
  unfold publish
  split
  · exact .refl s
  · exact writeSelf_still _ v s

theorem acceptReport_admitted (p : Nat) (v : Value) (q : Quality) (hr : ChannelsRest s) (h : Admitted s) :
    Admitted (acceptReport p v q s) := by
  have hguard := wokenGuard_still p v q s
  exact settle_admitted (wakeDispatch_admitted p (wakeLines_admitted p (wakeChannels_admitted p v q (hguard.rest hr)
    (wakeGuard_admitted p (modPoint_admitted p _ h)))))

theorem acceptReport_still (p : Nat) (v : Value) (q : Quality) (hr : ChannelsRest s) : Still s (acceptReport p v q s) := by
  refine ⟨(part_of_beyondWake (acceptReport_beyondWake p v q s)).trans (storeUpdate_part p v q s), fun hs => ?_⟩
  have hguard := wokenGuard_still p v q s
  have hidle : wakeChannels p v q (wakeGuard p (storeUpdate p v q s)) = wakeGuard p (storeUpdate p v q s) :=
    wakeChannels_of_idle ((hguard.rest hr).closed (by rw [hguard.1]; exact hs))
  have hwoken : Still s (wakeDispatch p (wakeLines p (wakeGuard p (storeUpdate p v q s)))) :=
    (hguard.trans (wakeLines_still p _)).trans
      (.of_emission (part_of_beyondWake (wakeDispatch_beyondWake p _)) (wakeDispatch_emission p _))
  unfold acceptReport
  rw [hidle]
  exact (hwoken.trans (settle_still _)).2 hs

/-! ### STOP's emission action -/

theorem idleAll_latch (s : State) : ∀ c ∈ (idleAll s).emission.channels, c.run.latch = false := by
  intro c hc
  obtain ⟨c', -, rfl⟩ := List.mem_map.mp hc
  rfl

theorem emissionStateOf_of_unlatched {l : LineId} (h : ∀ c ∈ s.emission.channels, c.run.latch = false) :
    emissionStateOf s l ≠ .restrict := by
  have hnone : (enforcingChannels s l).any (fun c => c.run.latch) = false := by
    rw [List.any_eq_false]
    intro c hc
    rw [h c (List.mem_of_mem_filter hc)]
    exact Bool.false_ne_true
  unfold emissionStateOf
  rw [hnone]
  simp only [Bool.false_eq_true, if_false]
  split <;> exact nofun

theorem stateTaken_still (l : LineId) (s : State) : Still s (stateTaken l s) := by
  refine ⟨part_of_beyondWake (stateTaken_beyondWake l s), fun _ => ?_⟩
  rw [stateTaken_emission]
  cases l <;> rfl

theorem deriveEmission_still (always : Bool) (l : LineId) (s : State) : Still s (deriveEmission always l s) := by
  rw [deriveEmission_eq]
  split
  · split
    · exact ((stateTaken_still l s).trans (publish_still _ _ _)).trans (settle_still _)
    · exact stateTaken_still l s
  · exact .refl s

theorem idleAll_part (s : State) : (idleAll s).part = s.part := rfl

theorem cutAll_admitted (h : Admitted s) : Admitted (cutAll s) :=
  foldl_admitted (fun _ c ht => closeDay_admitted true c (closeHalf_admitted true c ht)) _ h

theorem emissionStop_admitted (hs : s.part.state = .setup) (h : Admitted s) : Admitted (emissionStop s) := by
  have hpart : (idleAll (cutAll s)).part.state = .setup := by
    rw [idleAll_part, part_of_beyondWake (cutAll_beyondWake s), hs]
  have hstill := deriveEmission_still true .a (idleAll (cutAll s))
  have hunlatched := idleAll_latch (cutAll s)
  have hA := deriveEmission_admitted true .a (.inr (emissionStateOf_of_unlatched hunlatched))
    (emission_admitted _ (cutAll_admitted h))
  have hB := deriveEmission_admitted true .b
    (.inr (emissionStateOf_of_unlatched (by rw [hstill.2 hpart]; exact hunlatched))) hA
  unfold emissionStop
  simp only
  split
  · exact hB
  · split
    · exact raiseFlag_admitted _ (raiseFlag_admitted _ (raiseFlag_admitted _ hB))
    · exact raiseFlag_admitted _ (raiseFlag_admitted _ hB)

end

end Sys2Proof.Machine
end

section
namespace Sys2Proof.Machine
open Sys2Proof

section
variable {s t : State}

/-! ### Ports

A port's operations move no order: they reach its record, its conditions, the trip queue and the query table. -/

theorem modPort_ordering (p : Port) (f : PortRec → PortRec) (s : State) : ordering (s.modPort p f) = ordering s := by
  cases p <;> rfl

theorem setCondition_ordering (fl : Flag) (b : Bool) (s : State) : ordering (setCondition fl b s) = ordering s :=
  ordering_of_beyondAttention (setCondition_beyondAttention fl b s)

theorem raiseFlag_ordering (fl : Flag) (s : State) : ordering (raiseFlag fl s) = ordering s :=
  ordering_of_beyondAttention (raiseFlag_beyondAttention fl s)

theorem setPortState_ordering (p : Port) (st : PortState) (s : State) : ordering (setPortState p st s) = ordering s :=
  (setCondition_ordering ..).trans (modPort_ordering ..)

theorem frameError_ordering (p : Port) (f : PortCounters → PortCounters) (s : State) :
    ordering (frameError p f s) = ordering s :=
  (raiseFlag_ordering ..).trans (modPort_ordering ..)

theorem cutOffReception_ordering (p : Port) (s : State) : ordering (cutOffReception p s) = ordering s := by
  unfold cutOffReception
  split
  · rfl
  · exact (frameError_ordering ..).trans (modPort_ordering ..)
  · exact modPort_ordering ..

theorem overrunFrame_ordering (p : Port) (s : State) : ordering (overrunFrame p s) = ordering s := by
  unfold overrunFrame
  simp only
  split
  · exact modPort_ordering ..
  · exact (ordering_of_beyondRecorder (markerTrigger_beyondRecorder ..)).trans
      ((setCondition_ordering ..).trans ((modPort_ordering ..).trans (modPort_ordering ..)))

theorem storeFrame_ordering (p : Port) (f : Frame) (s : State) : ordering (storeFrame p f s) = ordering s := by
  unfold storeFrame
  split
  · exact modPort_ordering ..
  · exact overrunFrame_ordering p s

theorem judgeFrame_ordering (p : Port) (cutOff : Bool) (bytes : List Byte) (s : State) :
    ordering (judgeFrame p cutOff bytes s) = ordering s := by
  unfold judgeFrame
  split
  · exact frameError_ordering ..
  · exact frameError_ordering ..
  · exact frameError_ordering ..
  · exact storeFrame_ordering ..

theorem receiveFrame_ordering (p : Port) (cutOff : Bool) (bytes : List Byte) (s : State) :
    ordering (receiveFrame p cutOff bytes s) = ordering s := by
  unfold receiveFrame
  split
  · exact judgeFrame_ordering ..
  · exact (judgeFrame_ordering ..).trans (modPort_ordering ..)
  · exact modPort_ordering ..

theorem symbolArrives_ordering (p : Port) (s : State) : ordering (symbolArrives p s) = ordering s :=
  (setPortState_ordering ..).trans (modPort_ordering ..)

theorem delimit_ordering (p : Port) (y : LineSymbol) (s : State) : ordering (delimit p y s) = ordering s := by
  cases y with
  | idle => exact cutOffReception_ordering p s
  | startDelimiter => exact (modPort_ordering ..).trans (cutOffReception_ordering p s)
  | frameByte => rfl

theorem pauseArrives_ordering (p : Port) (s : State) : ordering (pauseArrives p s) = ordering s :=
  (setPortState_ordering ..).trans ((modPort_ordering ..).trans (modPort_ordering ..))

theorem endPause_ordering (p : Port) (s : State) : ordering (endPause p s) = ordering s := by
  unfold endPause
  split
  · exact (setPortState_ordering ..).trans (modPort_ordering ..)
  · rfl

/-- The abort of a frame may enter a trip order again, which is none of the orders that a withdrawal takes (R66, R73). -/
theorem abortFrame_ordering (p : Port) (s : State) : ordering (abortFrame p s) = ordering s := by
  have hfreed (u : State) (hu : u = s.modPort p fun r => { r with tx := none }) : ordering u = ordering s :=
    hu ▸ modPort_ordering ..
  have htrip (x : TripOrder) (u : State) : ordering (reenterTrip x u) = ordering u := by
    unfold reenterTrip
    simp only
    split <;> rfl
  have hquery (i gen : Nat) (u : State) : ordering (queryAborted i gen u) = ordering u := by
    unfold queryAborted
    split <;> rfl
  unfold abortFrame
  split
  · rfl
  · simp only
    split
    · exact (htrip ..).trans (hfreed _ rfl)
    · exact (hquery ..).trans (hfreed _ rfl)
    · exact hfreed _ rfl
    · exact hfreed _ rfl
    · exact hfreed _ rfl

theorem restartPort_ordering (p : Port) (rate : Option Rate) (s : State) : ordering (restartPort p rate s) = ordering s :=
  (modPort_ordering ..).trans ((setPortState_ordering ..).trans ((setCondition_ordering ..).trans
    ((modPort_ordering ..).trans (abortFrame_ordering p s))))

theorem pendingRestart_ordering (s : State) : ordering (pendingRestart s) = ordering s := by
  unfold pendingRestart
  split
  · rfl
  · exact restartPort_ordering ..

theorem linkDown_admitted (p : Port) (h : Admitted s) : Admitted (linkDown p s) :=
  (serve_admitted (h.keep (cutOffReception_ordering p s))).keep ((setPortState_ordering ..).trans (modPort_ordering ..))

/-! ### Queries -/

theorem queryCompletes_ordering (i gen : Nat) (s : State) : ordering (queryCompletes i gen s) = ordering s := by
  unfold queryCompletes
  split <;> rfl

theorem takeQuery_ordering (f : Frame) (s : State) : ordering (takeQuery f s) = ordering s := by
  unfold takeQuery
  split
  · simp only
    split <;> rfl
  · split <;> rfl

theorem takeAnswer_ordering (f : Frame) (s : State) : ordering (takeAnswer f s) = ordering s := by
  unfold takeAnswer
  simp only
  split
  · split <;> rfl
  · rfl

theorem answerExpires_ordering (i : Nat) (s : State) : ordering (answerExpires i s) = ordering s := by
  unfold answerExpires
  simp only
  split
  · rfl
  · exact (raiseFlag_ordering ..).trans rfl

theorem discardExpires_ordering (i : Nat) (s : State) : ordering (discardExpires i s) = ordering s :=
  (raiseFlag_ordering ..).trans rfl

/-! ### Resets -/

/-- After power-on and after a RESET the guard and the queues are empty and the part is in SETUP (R194, R196). -/
theorem admitted_of_blank (hs : t.part.state = .setup) (hguard : t.guard = .powerOn) (horders : t.fwd.orders = [])
    (hslots : t.dispatch.slots = []) : Admitted t := by
  refine NothingWaits.admitted ⟨?_, ?_, ?_, fun i => ?_⟩ hs
  · rw [waitingPoints, horders]; rfl
  · rw [waitingOutputs, hslots]; rfl
  · rw [waitingRecords, hguard]; rfl
  · refine guardRec_of_mem (P := fun g => g.rampTimer = none) (fun g hg => ?_) rfl i
    rw [hguard] at hg
    rw [List.eq_of_mem_replicate hg]
    rfl

theorem powerOn_admitted (station strap : Nat) (l : List Instr) : Admitted (State.powerOn station strap l) :=
  admitted_of_blank rfl rfl rfl rfl

theorem holdInReset_admitted : Admitted (holdInReset s) := admitted_of_blank rfl rfl rfl rfl

theorem resetTakesEffect_admitted : Admitted (resetTakesEffect s) := admitted_of_blank rfl rfl rfl rfl

theorem completeFrame_admitted (p : Port) (snd : Sending) (h : Admitted s) : Admitted (completeFrame p snd s) := by
  have hidle : Admitted (sendFlow p (s.modPort p (fun r => { r with
      tx := none, counters := { r.counters with framesSent := bump r.counters.framesSent } }))) :=
    (h.keep (modPort_ordering ..)).shrink (.of_closes (sendFlow_closes ..))
  unfold completeFrame completedItem
  split
  · exact hidle
  · exact hidle
  · exact hidle.keep (queryCompletes_ordering ..)
  · exact resetTakesEffect_admitted
  · exact hidle.keep (pendingRestart_ordering _)

/-! ### The form of every command -/

/-- What the commands rest on: the bounds of the tables and slots, the IDLE channels of SETUP and the orders that wait. -/
structure Founded (s : State) : Prop where
  fits     : Fits 16 32 s
  channels : ChannelsRest s
  admitted : Admitted s

theorem whileAwake_admitted {act : State → State} (hact : Admitted (act s)) (h : Admitted s) :
    Admitted (whileAwake act s) := by
  unfold whileAwake
  split
  · exact h
  · exact serve_admitted hact

theorem atExpiry_admitted (timer : Option Nat) {act : State → State} (hact : Admitted (act s)) (h : Admitted s) :
    Admitted (atExpiry timer act s) := by
  unfold atExpiry
  split
  · exact whileAwake_admitted hact h
  · exact h

theorem taken_still (p : Port) (f : Frame) (s : State) : Still s (taken p f s) :=
  .of_emission (taken_part p f s) (taken_emission p f s)

theorem taken_admitted (p : Port) (f : Frame) (h : Admitted s) : Admitted (taken p f s) :=
  serve_admitted (h.keep ((ordering_of_beyondRecorder (offered_beyondRecorder p f s)).trans (modPort_ordering ..)))

theorem taken_founded (p : Port) (f : Frame) (h : Founded s) : Founded (taken p f s) :=
  ⟨taken_fits p f h.fits, (taken_still p f s).rest h.channels, taken_admitted p f h.admitted⟩

theorem takeFrame_admitted {p : Port} {f : Frame} {c : Instr} {act : State → State}
    (hact : ∀ t, Founded t → Admitted (act t)) (h : Founded s) : Admitted (takeFrame p f c act s) := by
  unfold takeFrame
  split
  · exact whileAwake_admitted (hact _ (taken_founded p f h)) h.admitted
  · exact h.admitted

end

end Sys2Proof.Machine
end

section
namespace Sys2Proof.Machine
open Sys2Proof

section
variable {s t : State}

/-! ### Orders, reports and dropped frames -/

theorem placeReply_admitted (f : Frame) (item : SentItem) (h : Admitted s) : Admitted (placeReply f item s) := h.keep rfl

theorem replySetup_admitted (f : Frame) (code : Status) (h : Admitted s) : Admitted (replySetup f code s) := h.keep rfl

theorem replyRefusals_admitted (f : Frame) (l : List (Nat × Status)) (h : Admitted s) :
    Admitted (replyRefusals f l s) := by
  unfold replyRefusals
  split
  · exact h
  · exact placeReply_admitted _ _ h

theorem judgeEntries_admitted {judge : Nat × Value → State → Option Status × State}
    (hj : ∀ e t, Admitted t → Admitted (judge e t).2) (l : List (Nat × Value)) (h : Admitted s) :
    Admitted (judgeEntries judge l s).2 := by
  induction l generalizing s with
  | nil => exact h
  | cons e l ih => exact ih (hj e s h)

theorem takeSelfEntry_admitted (e : Nat × Value) (h : Admitted s) : Admitted (takeSelfEntry e s).2 := by
  unfold takeSelfEntry
  simp only
  split
  · split
    · dsimp only
      exact settle_admitted (writeSelf_admitted _ _ h)
    · exact h
  · exact h

theorem takeSelfOrder_admitted (f : Frame) (h : Admitted s) : Admitted (takeSelfOrder f s) :=
  replyRefusals_admitted f _ (judgeEntries_admitted (fun e _ => takeSelfEntry_admitted e) _ h)

/-- An entry that is no guarded order may join the order queue at any time. -/
theorem append_admitted {e : QueueEntry} (he : e.guardedPoint = none) (seq : Seq) (h : Admitted s) :
    Admitted { s with fwd := { s.fwd with orders := s.fwd.orders ++ [e], acceptance := seq } } := by
  refine h.shrink ⟨rfl, rfl, ?_, List.Subset.refl _, List.Subset.refl _, fun _ => .refl _⟩
  simp only [waitingPoints, List.filterMap_append, List.filterMap_cons, he, List.filterMap_nil, List.append_nil]
  exact List.Subset.refl _

theorem judgeOrderEntry_admitted (f : Frame) (e : Nat × Value) (h : Admitted s) :
    Admitted (judgeOrderEntry f e s).2 := by
  unfold judgeOrderEntry
  split
  · exact h.keep rfl
  · split
    · next i hi => exact serve_admitted (guardOrder_admitted (org := .supervisory f.dest f.src) (guardOf_names hi).1 trivial _ h)
    · exact serve_admitted (append_admitted rfl _ h)

theorem acceptOrders_admitted (f : Frame) (h : Admitted s) : Admitted (acceptOrders f s) := by
  unfold acceptOrders
  split
  · exact h.keep ((ordering_of_beyondRecorder (recordBusy_beyondRecorder ..)).trans rfl)
  · exact replyRefusals_admitted f _ (judgeEntries_admitted (fun e _ => judgeOrderEntry_admitted f e) _ h)

theorem passThrough_admitted (f : Frame) (h : Admitted s) : Admitted (passThrough f s) := by
  unfold passThrough
  split
  · exact append_admitted rfl _ h
  · exact h.keep rfl

theorem takeReportEntry_admitted (src : Nat) (e : ReportEntry) (hr : ChannelsRest s) (h : Admitted s) :
    Admitted (takeReportEntry src e s) := by
  unfold takeReportEntry
  simp only
  split
  · split
    · exact acceptReport_admitted _ _ _ hr h
    · exact modPoint_admitted _ _ h
  · exact h

theorem takeReportEntry_still (src : Nat) (e : ReportEntry) (hr : ChannelsRest s) : Still s (takeReportEntry src e s) := by
  unfold takeReportEntry
  simp only
  split
  · split
    · exact acceptReport_still _ _ _ hr
    · exact .of_emission rfl rfl
  · exact .refl s

theorem handUpstream_still (e : UpEntry) (s : State) : Still s (handUpstream e s) :=
  .of_emission (congrArg State.part (handUpstream_beyondUpstream e s) :)
    (congrArg State.emission (handUpstream_beyondUpstream e s) :)

theorem takeReport_admitted (f : Frame) (hr : ChannelsRest s) (h : Admitted s) : Admitted (takeReport f s) := by
  have hentry (fwd : Bool) (e : ReportEntry) (t : State) (hr : ChannelsRest t) (h : Admitted t) :
      ChannelsRest (reportEntry fwd f.src t e) ∧ Admitted (reportEntry fwd f.src t e) := by
    have htaken := takeReportEntry_admitted f.src e hr h
    have hrest := (takeReportEntry_still f.src e hr).rest hr
    unfold reportEntry
    simp only
    split
    · exact ⟨((handUpstream_still ..).trans (serve_still _)).rest hrest, serve_admitted (handUpstream_admitted _ htaken)⟩
    · exact ⟨(serve_still _).rest hrest, serve_admitted htaken⟩
  unfold takeReport
  generalize forwardsReport s f = fwd
  induction reportEntries f generalizing s with
  | nil => exact h
  | cons e l ih =>
    obtain ⟨hr', h'⟩ := hentry fwd e s hr h
    exact ih hr' h'

theorem queueUpPass_admitted (f : Frame) (h : Admitted s) : Admitted (queueUpPass f s) := by
  unfold queueUpPass
  split <;> exact h.keep rfl

theorem misrouted_ordering (s : State) : ordering (misrouted s) = ordering s := (raiseFlag_ordering ..).trans rfl

theorem dropFromS_admitted (f : Frame) (h : Admitted s) : Admitted (dropFromS f s) := by
  unfold dropFromS
  split
  · exact h.keep rfl
  · split
    · exact h.keep rfl
    · split
      · exact h.keep rfl
      · exact h.keep (misrouted_ordering s)

theorem dropFromF_admitted (f : Frame) (h : Admitted s) : Admitted (dropFromF f s) := by
  unfold dropFromF
  split
  · exact h.keep rfl
  · split
    · exact h.keep rfl
    · split
      · exact h.keep (misrouted_ordering s)
      · exact h

theorem conflict_admitted (h : Admitted s) : Admitted (conflict s) :=
  settle_admitted (holdCause_admitted _ (h.keep (t := raiseFlag _ _) ((raiseFlag_ordering ..).trans rfl)))

/-! ### Timers and boundaries -/

theorem cycleTimerExpires_admitted (h : Admitted s) : Admitted (cycleTimerExpires s) :=
  settle_admitted (actOnOccasion_admitted (startCycleTimer_admitted h))

theorem inputHoldExpires_admitted (i : ReqInput) (h : Admitted s) : Admitted (inputHoldExpires i s) :=
  settle_admitted (holdCause_admitted _ (dispatch_admitted (setInput_cfg _ i _) (setInput_slots _ i _) h))

theorem periodBoundaryEvent_admitted (hr : ChannelsRest s) (h : Admitted s) : Admitted (periodBoundaryEvent s) :=
  emissionBoundary_admitted _ hr (h.keep rfl)

/-! ### WRITE -/

theorem retimePoint_admitted (p : Nat) (h : Admitted s) : Admitted (retimePoint p s) := by
  unfold retimePoint
  simp only
  split
  · exact modPoint_admitted _ _ h
  · split
    · exact h
    · split
      · exact settle_admitted (expireFreshness_admitted p h)
      · exact modPoint_admitted _ _ h

theorem writePoint_admitted (p : Nat) (r : Point) (limitWritten : Bool) (h : Admitted s) :
    Admitted (writePoint p r limitWritten s) := by
  unfold writePoint
  simp only
  split
  · exact modPoint_admitted _ _ h
  · split
    · exact retimePoint_admitted p (modPoint_admitted _ _ h)
    · exact modPoint_admitted _ _ h

theorem writeLine_admitted (l : LineId) (r : LineRec) (h : Admitted s) : Admitted (writeLine l r s) :=
  deriveOperating_admitted l (modLine_admitted l _ h)

/-- No field of a guard record that a WRITE names is its ramp timer. -/
theorem setGuardField_rampTimer {g g' : GuardRec} {off v : Nat} (h : setGuardField g off v = some g') :
    g'.rampTimer = g.rampTimer := by
  unfold setGuardField at h
  split at h
  case h_6 | h_7 | h_8 | h_9 => exact Option.some.inj h ▸ rfl
  case h_14 => exact nomatch h
  all_goals
    obtain ⟨x, -, rfl⟩ := Option.map_eq_some_iff.mp h
    rfl

theorem setGuardTerm_rampTimer {g g' : GuardRec} {group off v : Nat} (h : setGuardTerm g group off v = some g') :
    g'.rampTimer = g.rampTimer := by
  unfold setGuardTerm at h
  simp only at h
  split at h
  · obtain ⟨x, -, rfl⟩ := Option.map_eq_some_iff.mp h
    rfl
  · exact nomatch h

/-- A guard record without a ramp may be written where nothing waits. -/
theorem writeGuard_nothingWaits {i : Nat} {g : GuardRec} (hg : g.rampTimer = none) (h : NothingWaits s) :
    NothingWaits (writeGuard i g s) := by
  have hsteps : (writeGuard i g s).guard = (s.modGuard i _).guard := writeGuard_guard i g s
  refine ⟨?_, ?_, ?_, fun j => ?_⟩
  · rw [waitingPoints, writeGuard_fwd]
    split
    · exact List.subset_nil.mp (h.points ▸ ((List.filter_sublist.filterMap _).subset))
    · exact h.points
  · have hslots : (writeGuard i g s).dispatch = s.dispatch := by
      unfold writeGuard
      simp only
      split <;> exact (congrArg State.dispatch (followLatched_beyondAttention _) :)
    rw [waitingOutputs, hslots, ← waitingOutputs, h.outputs]
  · rw [waitingRecords, hsteps]
    exact h.records
  · rw [guardRec_of_recs (congrArg Guard.recs hsteps), State.guardRec_modGuard]
    split
    · split
      · rfl
      · exact hg
    · exact h.ramps j

theorem writeRefusal_eq_none {tb : Table} {index : Nat} {items : List Item} (h : writeRefusal s tb index items = none) :
    tableWritable s tb = true ∧ ∀ i ∈ items, stateRefusesItem s tb i = false := by
  unfold writeRefusal at h
  split at h
  · exact nomatch h
  · split at h
    · exact nomatch h
    · next hpass =>
      simp only [Bool.or_eq_true, Bool.not_eq_true', List.any_eq_true, not_or, Bool.not_eq_false, not_exists,
        not_and] at hpass
      exact ⟨hpass.1, fun i hi => by simpa using (hpass.2 i hi).2⟩

theorem setUpstreamField_orders {f g : Forwarding} {off v : Nat} (h : setUpstreamField f off v = some g) :
    g.orders = f.orders := by
  unfold setUpstreamField at h
  split at h
  · obtain ⟨x, -, rfl⟩ := Option.map_eq_some_iff.mp h
    rfl
  · obtain ⟨x, -, rfl⟩ := Option.map_eq_some_iff.mp h
    rfl
  · exact nomatch h

/-- In RUN a WRITE of the dispatch table reaches its operating fields alone (R119). -/
theorem setDispatchItem_cfg {d e : DispatchUnit} {i : Item} (hi : isOperItem i = true) (h : setDispatchItem d i = some e) :
    e.cfg = d.cfg := by
  unfold setDispatchItem at h
  rw [if_pos hi] at h
  obtain ⟨x, -, rfl⟩ := Option.map_eq_some_iff.mp h
  rfl

theorem dispatchItems_cfg {items : List Item} {d e : DispatchUnit} (hi : ∀ i ∈ items, isOperItem i = true)
    (h : applyItems setDispatchItem items d = some e) : e.cfg = d.cfg := by
  induction items generalizing d with
  | nil => exact Option.some.inj h ▸ rfl
  | cons i l ih =>
    rw [applyItems_cons, Option.bind_eq_some_iff] at h
    obtain ⟨z, hz, hrest⟩ := h
    exact (ih (fun j hj => hi j (.tail _ hj)) hrest).trans (setDispatchItem_cfg (hi i (.head _)) hz)

theorem writeDispatch_admitted {items : List Item} {d : DispatchUnit}
    (hpass : ∀ i ∈ items, stateRefusesItem s .dispatch i = false)
    (hitems : applyItems setDispatchItem items s.dispatch = some d) (h : Admitted s) : Admitted (writeDispatch d s) := by
  have hslots : d.slots = s.dispatch.slots := applyItems_keeps (P := fun d : DispatchUnit => d.slots = s.dispatch.slots)
    (fun _ _ _ hf hd => (setDispatchItem_slots hf).trans hd) hitems rfl
  obtain hrun | hs := part_run_or_setup s
  · have hoper : ∀ i ∈ items, isOperItem i = true := fun i hi => by simpa [stateRefusesItem, hrun] using hpass i hi
    have hcfg : d.cfg = s.dispatch.cfg := dispatchItems_cfg hoper hitems
    exact dispatch_admitted hcfg hslots h
  · have hn := h.rest hs
    refine NothingWaits.admitted ⟨hn.points, ?_, hn.records, hn.ramps⟩ hs
    exact (congrArg (List.map _) hslots).trans hn.outputs

theorem writeTable_admitted {tb : Table} {index : Nat} {items : List Item} {u : State}
    (hpass : writeRefusal s tb index items = none) (hw : writeTable tb index items s = some u) (h : Admitted s) :
    Admitted u := by
  obtain ⟨hwritable, hallowed⟩ := writeRefusal_eq_none hpass
  cases tb with
  | part =>
    obtain ⟨x, -, rfl⟩ := Option.map_eq_some_iff.mp hw
    exact h.keep rfl
  | point =>
    obtain ⟨x, -, hx⟩ := Option.bind_eq_some_iff.mp hw
    split at hx
    · exact Option.some.inj hx ▸ writePoint_admitted _ _ _ h
    · exact nomatch hx
  | window =>
    obtain ⟨x, -, hx⟩ := Option.bind_eq_some_iff.mp hw
    split at hx
    · exact nomatch hx
    · exact Option.some.inj hx ▸ h.keep rfl
  | upstream =>
    obtain ⟨x, hitems, hx⟩ := Option.bind_eq_some_iff.mp hw
    have horders : x.orders = s.fwd.orders := applyItems_keeps (P := fun f : Forwarding => f.orders = s.fwd.orders)
      (fun _ _ _ hf hx => (setUpstreamField_orders hf).trans hx) hitems rfl
    split at hx
    · refine Option.some.inj hx ▸ serve_admitted (h.keep ?_)
      exact (ordering_of_beyondUpstream (judgeWatermarks_beyondUpstream _)).trans (by simp only [ordering, horders])
    · exact nomatch hx
  | querySettings =>
    obtain ⟨x, -, rfl⟩ := Option.map_eq_some_iff.mp hw
    exact h.keep rfl
  | guard =>
    obtain ⟨g, hitems, rfl⟩ := Option.map_eq_some_iff.mp hw
    have hs : s.part.state = .setup := by simpa [tableWritable] using hwritable
    have hg : g.rampTimer = none := by
      refine applyItems_keeps (P := fun g : GuardRec => g.rampTimer = none) (fun x i y hf hx => ?_) hitems
        ((h.rest hs).ramps index)
      split at hf
      · exact (setGuardField_rampTimer hf).trans hx
      · exact (setGuardTerm_rampTimer hf).trans hx
    refine (writeGuard_nothingWaits hg (h.rest hs)).admitted ?_
    unfold writeGuard
    simp only
    split <;> exact (congrArg (·.part.state) (followLatched_beyondAttention _) :).trans hs
  | line =>
    obtain ⟨x, -, rfl⟩ := Option.map_eq_some_iff.mp hw
    exact writeLine_admitted _ _ h
  | channel =>
    obtain ⟨x, -, rfl⟩ := Option.map_eq_some_iff.mp hw
    exact modChannel_admitted _ _ h
  | dispatch =>
    obtain ⟨d, hitems, rfl⟩ := Option.map_eq_some_iff.mp hw
    exact writeDispatch_admitted hallowed hitems h
  | arbiterLevel =>
    obtain ⟨x, -, rfl⟩ := Option.map_eq_some_iff.mp hw
    exact h.keep rfl
  | attention =>
    obtain ⟨x, -, rfl⟩ := Option.map_eq_some_iff.mp hw
    exact h.keep rfl
  | recorderConfig =>
    simp only [writeTable] at hw
    split at hw
    · obtain ⟨x, -, rfl⟩ := Option.map_eq_some_iff.mp hw
      exact h.keep rfl
    · obtain ⟨x, -, rfl⟩ := Option.map_eq_some_iff.mp hw
      exact h.keep rfl
  | _ => exact nomatch hw

theorem takeWrite_admitted (f : Frame) (h : Admitted s) : Admitted (takeWrite f s) := by
  unfold takeWrite
  split
  · exact replySetup_admitted _ _ h
  · split
    · exact replySetup_admitted _ _ h
    · simp only
      split
      · exact replySetup_admitted _ _ h
      · next hpass =>
        split
        · exact replySetup_admitted _ _ h
        · split
          · exact replySetup_admitted _ _ h
          · split
            · exact replySetup_admitted _ _ h
            · next hw => exact replySetup_admitted _ _ (writeTable_admitted hpass hw h)

theorem takeRead_admitted (f : Frame) (h : Admitted s) : Admitted (takeRead f s) := by
  unfold takeRead
  split
  · exact replySetup_admitted _ _ h
  · simp only
    split
    · exact replySetup_admitted _ _ h
    · split
      · exact replySetup_admitted _ _ h
      · split
        · exact replySetup_admitted _ _ h
        · exact placeReply_admitted _ _ h

end

end Sys2Proof.Machine
end

section
namespace Sys2Proof.Machine
open Sys2Proof

section
variable {s t : State}

/-! ### START -/

theorem firstFailed_eq_none {table index : Nat} {l : List (Bool × Reason)} :
    firstFailed table index l = none ↔ ∀ c ∈ l, c.1 = true := by
  induction l with
  | nil => simp [firstFailed]
  | cons c l ih =>
    obtain ⟨ok, reason⟩ := c
    cases ok <;> simp [firstFailed, ih]

theorem firstRecord_eq_none {n : Nat} {check : Nat → Option Failure} :
    firstRecord n check = none ↔ ∀ i < n, check i = none := by
  simp [firstRecord, List.findSome?_eq_none_iff]

/-- A passed validation leaves no two configured guard records with one point (R71). -/
theorem distinct_of_validated (hv : validate s = none) (hlen : s.guard.recs.length = Config.guards) {i j : Nat}
    (hi : (s.guardRec i).configured = true) (hj : (s.guardRec j).configured = true)
    (hp : (s.guardRec i).point = (s.guardRec j).point) : i = j := by
  have hguards : firstRecord Config.guards (checkGuard s) = none := by
    simp only [validate, Option.orElse_eq_none] at hv
    exact hv.2.2.1
  have hlower {i j : Nat} (hi : (s.guardRec i).configured = true) (hj : (s.guardRec j).configured = true)
      (hp : (s.guardRec i).point = (s.guardRec j).point) : ¬i < j := by
    intro hlt
    have hcheck := firstRecord_eq_none.mp hguards j ((lt_guards_of_configured hj).trans_eq hlen)
    unfold checkGuard at hcheck
    simp only [hj, if_true] at hcheck
    have hdistinct := firstFailed_eq_none.mp hcheck _ (.tail _ (.tail _ (.head _)))
    have hpair := List.all_eq_true.mp hdistinct i (List.mem_range.mpr hlt)
    simp [hi, hp] at hpair
  exact Nat.le_antisymm (Nat.not_lt.mp (hlower hj hi hp.symm)) (Nat.not_lt.mp (hlower hi hj hp))

theorem startRecord_configured (s : State) (g : GuardRec) : (startRecord s g).configured = g.configured := by
  unfold startRecord
  split <;> rfl

theorem startRecord_point (s : State) (g : GuardRec) : (startRecord s g).point = g.point := by
  unfold startRecord
  split <;> rfl

theorem startRecord_state {s : State} {g : GuardRec} (h : g.configured = true) : (startRecord s g).state = .clear := by
  rw [startRecord, if_pos h]

/-- The guard as START derives it, before its outputs are judged (R88 steps 1 to 3). -/
def startDerived (s : State) : State :=
  { s with guard := { s.guard with recs := s.guard.recs.map (startRecord s), steps := [] } }

theorem startDerived_guardRec (s : State) (i : Nat) :
    (startDerived s).guardRec i = startRecord s (s.guardRec i) := by
  obtain h | ⟨h, h'⟩ := guardRec_mapGuards (s := s) (t := startDerived s) (f := startRecord s) rfl i
  · exact h
  · rw [h, h']; rfl

/-- Every output that START derives is CLEAR, and the validation found the points distinct (R71, R88). -/
theorem startDerived_admitted (hrun : s.part.state = .run)
    (hd : ∀ i j, (s.guardRec i).configured = true → (s.guardRec j).configured = true →
      (s.guardRec i).point = (s.guardRec j).point → i = j) : Admitted (startDerived s) where
  distinct _ i j := by
    simp only [startDerived_guardRec, startRecord_configured, startRecord_point]
    exact hd i j
  clear i _ := by
    rw [startDerived_guardRec, startRecord_configured]
    exact startRecord_state
  rest hs := absurd (hrun.symm.trans hs) (by decide)

theorem tripOutput_length (i : Nat) (hi : i < s.guard.recs.length) :
    (tripOutput i s).guard.recs.length = s.guard.recs.length := by
  rw [tripOutput_recs hi, List.length_modify]

/-- START judges one output: it trips where its interlock is active (R88 step 4). -/
def startJudged (t : State) (i : Nat) : State :=
  if (t.guardRec i).configured && (t.guardRec i).interlock then tripOutput i t else t

theorem guardStart_eq (s : State) :
    guardStart s = (List.range Config.guards).foldl startJudged (followLatched (startDerived s)) := rfl

theorem startJudged_length (s : State) (i : Nat) : (startJudged s i).guard.recs.length = s.guard.recs.length := by
  unfold startJudged
  split
  · next hc =>
    rw [Bool.and_eq_true] at hc
    exact tripOutput_length i (lt_guards_of_configured hc.1)
  · rfl

theorem startJudged_admitted (i : Nat) (h : Admitted s) : Admitted (startJudged s i) := by
  unfold startJudged
  split
  · next hc =>
    rw [Bool.and_eq_true] at hc
    exact tripOutput_admitted (lt_guards_of_configured hc.1) h
  · exact h

theorem guardStart_admitted (h : Admitted (startDerived s)) : Admitted (guardStart s) := by
  rw [guardStart_eq]
  exact foldl_admitted (fun _ => startJudged_admitted) _ (followLatched_admitted h)

theorem dispatchStart_admitted (h : Admitted s) : Admitted (dispatchStart s) := by
  unfold dispatchStart
  split
  · exact settle_admitted (enterFromStopped_admitted h)
  · exact h

theorem guardStart_part (s : State) : (guardStart s).part = s.part := part_of_beyondGuard (guardStart_beyondGuard s)

theorem startActions_admitted (hv : validate s = none) (hlen : s.guard.recs.length = Config.guards) :
    Admitted (startActions s) := by
  refine dispatchStart_admitted (emissionStart_admitted ?_ (guardStart_admitted (startDerived_admitted rfl ?_)))
  · rw [guardStart_part]
    rfl
  · exact fun i j => distinct_of_validated hv hlen

theorem takeStart_admitted (f : Frame) (hlen : s.guard.recs.length = Config.guards) (h : Admitted s) :
    Admitted (takeStart f s) := by
  unfold takeStart
  split
  · exact replySetup_admitted _ _ h
  · split
    · exact placeReply_admitted _ _ h
    · next hv => exact placeReply_admitted _ _ (serve_admitted (startActions_admitted hv hlen))

/-! ### STOP -/

/-- STOP's withdrawal empties the step slots of the 96 records (R87). -/
theorem withdrawSteps_steps (l : List Nat) (s : State) :
    (l.foldl (fun t i => withdrawStep i t) s).guard.steps = s.guard.steps.filter (fun q => decide (q.record ∉ l)) := by
  induction l generalizing s with
  | nil => simp
  | cons i l ih =>
    rw [List.foldl_cons, ih, withdrawStep_eq]
    simp only [List.filter_filter, List.mem_cons, not_or, Bool.decide_and, Bool.and_comm, ne_eq]

/-- STOP empties the trip queue and takes the guarded orders from the order queue (R87). -/
def stopCleared (s : State) : State :=
  { s with guard := { s.guard with trips := [] }, fwd := { s.fwd with orders := s.fwd.orders.filter (fun e => !e.isGuarded) } }

/-- STOP's withdrawals, before the ramp timers stop (R87). -/
def stopWithdrawn (s : State) : State :=
  (List.range 5).foldl (fun t k => withdrawSlot k t)
    ((List.range Config.guards).foldl (fun t i => withdrawStep i t) (stopCleared s))

theorem guardStop_eq (s : State) : guardStop s = { stopWithdrawn s with
    guard := { (stopWithdrawn s).guard with
      recs := (stopWithdrawn s).guard.recs.map (fun g => { g with rampTimer := none }) } } := by
  unfold guardStop stopWithdrawn stopCleared
  rfl

/-- All that the withdrawal of steps leaves. -/
def beyondSteps (s : State) : State := { s with guard := { s.guard with steps := [], recs := [] } }

theorem withdrawSteps_beyondSteps (l : List Nat) (s : State) :
    beyondSteps (l.foldl (fun t i => withdrawStep i t) s) = beyondSteps s :=
  foldl_keeps beyondSteps _ (fun t i => by rw [withdrawStep_eq]; rfl) l s

theorem withdrawSteps_fwd (l : List Nat) (s : State) : (l.foldl (fun t i => withdrawStep i t) s).fwd = s.fwd :=
  (congrArg State.fwd (withdrawSteps_beyondSteps l s) :)

theorem withdrawSteps_trips (l : List Nat) (s : State) :
    (l.foldl (fun t i => withdrawStep i t) s).guard.trips = s.guard.trips :=
  (congrArg (·.guard.trips) (withdrawSteps_beyondSteps l s) :)

theorem withdrawSteps_dispatch (l : List Nat) (s : State) :
    (l.foldl (fun t i => withdrawStep i t) s).dispatch = s.dispatch :=
  (congrArg State.dispatch (withdrawSteps_beyondSteps l s) :)

theorem guardStop_fwd (s : State) : (guardStop s).fwd = (stopCleared s).fwd := by
  simp only [guardStop_eq, stopWithdrawn, withdrawSlots_eq, withdrawSteps_fwd]

theorem guardStop_trips (s : State) : (guardStop s).guard.trips = [] := by
  simp only [guardStop_eq, stopWithdrawn, withdrawSlots_eq, withdrawSteps_trips, stopCleared]

theorem guardStop_steps {s : State} (h : ∀ p ∈ s.guard.steps, p.record < Config.guards) :
    (guardStop s).guard.steps = [] := by
  simp only [guardStop_eq, stopWithdrawn, withdrawSlots_eq, withdrawSteps_steps, stopCleared]
  refine List.filter_eq_nil_iff.mpr fun p hp => ?_
  simpa using h p hp

theorem guardStop_slots {s : State} (h : ∀ o ∈ s.dispatch.slots, o.output < 5) : (guardStop s).dispatch.slots = [] := by
  simp only [guardStop_eq, stopWithdrawn, withdrawSlots_eq, withdrawSteps_dispatch, stopCleared]
  refine List.filter_eq_nil_iff.mpr fun o ho => ?_
  simpa using h o ho

theorem guardStop_ramps (s : State) (i : Nat) : ((guardStop s).guardRec i).rampTimer = none := by
  refine guardRec_of_mem (P := fun g => g.rampTimer = none) (fun g hg => ?_) rfl i
  simp only [guardStop_eq] at hg
  obtain ⟨g', -, rfl⟩ := List.mem_map.mp hg
  rfl

theorem guardStop_nothingWaits (hsteps : ∀ p ∈ s.guard.steps, p.record < Config.guards)
    (hslots : ∀ o ∈ s.dispatch.slots, o.output < 5) : NothingWaits (guardStop s) where
  points := waitingPoints_eq_nil.mpr fun e he => by
    rw [guardStop_fwd] at he
    simpa using List.of_mem_filter he
  outputs := by rw [waitingOutputs, guardStop_slots hslots, List.map_nil]
  records := by rw [waitingRecords, guardStop_steps hsteps, List.map_nil]
  ramps := guardStop_ramps s

theorem guardStop_part (s : State) : (guardStop s).part = s.part := part_of_beyondGuard (guardStop_beyondGuard s)

theorem recorderStop_admitted (h : Admitted s) : Admitted (recorderStop s) := by
  unfold recorderStop
  split
  · exact h.keep (ordering_of_beyondRecorder (freezeRecorder_beyondRecorder s))
  · exact h

theorem guardStop_admitted (hs : s.part.state = .setup) (hsteps : ∀ p ∈ s.guard.steps, p.record < Config.guards)
    (hslots : ∀ o ∈ s.dispatch.slots, o.output < 5) : Admitted (guardStop s) :=
  (guardStop_nothingWaits hsteps hslots).admitted ((congrArg Part.state (guardStop_part s)).trans hs)

theorem blocksStop_admitted (hs : s.part.state = .setup) (hsteps : ∀ p ∈ s.guard.steps, p.record < Config.guards)
    (hslots : ∀ o ∈ s.dispatch.slots, o.output < 5) :
    Admitted (recorderStop (settle (enterStopped (emissionStop (guardStop s))))) :=
  have hpart : (guardStop s).part.state = .setup := (congrArg Part.state (guardStop_part s)).trans hs
  recorderStop_admitted (settle_admitted (enterStopped_admitted (emissionStop_admitted hpart
    (guardStop_admitted hs hsteps hslots))))

theorem stopActions_admitted (hsteps : ∀ p ∈ s.guard.steps, p.record < Config.guards)
    (hslots : ∀ o ∈ s.dispatch.slots, o.output < 5) : Admitted (stopActions s) :=
  blocksStop_admitted (s := { s with part := { s.part with state := .setup } }) rfl hsteps hslots

theorem replyDone_admitted (f : Frame) (h : Admitted s) : Admitted (replyDone f s) :=
  replySetup_admitted f .done (serve_admitted h)

theorem takeStop_admitted (f : Frame) (hsteps : ∀ p ∈ s.guard.steps, p.record < Config.guards)
    (hslots : ∀ o ∈ s.dispatch.slots, o.output < 5) (h : Admitted s) : Admitted (takeStop f s) := by
  unfold takeStop
  split
  · exact replySetup_admitted _ _ h
  · exact replyDone_admitted f (stopActions_admitted hsteps hslots)

/-! ### The other SETUP operations -/

theorem takeTime_admitted (f : Frame) (h : Admitted s) : Admitted (takeTime f s) := by
  unfold takeTime
  simp only
  split
  · exact replySetup_admitted _ _ h
  · split
    · exact replySetup_admitted _ _ h
    · exact replyDone_admitted f (emissionTimeSet_admitted (setCondition_admitted _ _ (h.keep rfl)))

theorem takeSubstitute_admitted (f : Frame) (h : Admitted s) : Admitted (takeSubstitute f s) := by
  unfold takeSubstitute
  simp only
  split
  · exact replySetup_admitted _ _ h
  · split
    · exact replyDone_admitted f (settle_admitted (pointEvent_admitted _ (modPoint_admitted _ _ h)))
    · exact replySetup_admitted _ _ h

theorem takeUnsubstitute_admitted (f : Frame) (h : Admitted s) : Admitted (takeUnsubstitute f s) := by
  unfold takeUnsubstitute
  simp only
  split
  · apply replyDone_admitted
    split
    · exact settle_admitted (pointEvent_admitted _ (modPoint_admitted _ _ h))
    · exact h
  · exact replySetup_admitted _ _ h

/-- RELEASE turns a LATCHED output CLEAR, which it may be whatever waits (R75). -/
theorem takeRelease_admitted (f : Frame) (h : Admitted s) : Admitted (takeRelease f s) := by
  unfold takeRelease releaseOutput
  simp only
  split
  · split
    · exact replySetup_admitted _ _ h
    · apply replySetup_admitted
      split
      · exact followLatched_admitted (modGuard_admitted (fun _ => by exact ⟨rfl, rfl, id, fun _ => rfl⟩) _ h)
      · exact h
  · exact replySetup_admitted _ _ h

theorem takeClear_admitted (f : Frame) (h : Admitted s) : Admitted (takeClear f s) := by
  unfold takeClear
  simp only
  split
  · exact replySetup_admitted _ _ h
  · exact placeReply_admitted _ _ (foldl_admitted (fun _ _ (ht : Admitted _) => ht.keep (t := clearFlag _ _) rfl) _ h)

theorem takeForce_admitted (f : Frame) (h : Admitted s) : Admitted (takeForce f s) := by
  have hforced (i : Nat) : Admitted (placeNotice i (s.modFlag i fun r => { r with isSet := true, forced := true })) :=
    h.keep ((ordering_of_beyondAttention (placeNotice_beyondAttention ..)).trans rfl)
  unfold takeForce
  simp only
  split
  · exact replySetup_admitted _ _ h
  · apply replyDone_admitted
    unfold forceFlag
    simp only
    split
    · exact markerTrigger_admitted _ _ _ (hforced _)
    · exact hforced _

theorem commandRestart_admitted (f : Frame) (p : Port) (rate : Option Rate) (h : Admitted s) :
    Admitted (commandRestart f p rate s) := by
  cases p
  · exact h.keep rfl
  · exact replySetup_admitted _ _ (h.keep (restartPort_ordering ..))

theorem takePortRestart_admitted (f : Frame) (h : Admitted s) : Admitted (takePortRestart f s) := by
  unfold takePortRestart
  split
  · exact replySetup_admitted _ _ h
  · exact commandRestart_admitted _ _ _ h

theorem takePortRate_admitted (f : Frame) (h : Admitted s) : Admitted (takePortRate f s) := by
  unfold takePortRate
  split
  · exact commandRestart_admitted _ _ _ h
  · exact replySetup_admitted _ _ h

theorem takeRearm_admitted (f : Frame) (h : Admitted s) : Admitted (takeRearm f s) :=
  replySetup_admitted _ _ (setCondition_admitted _ _ (h.keep rfl))

theorem takeEnable_admitted (f : Frame) (h : Admitted s) : Admitted (takeEnable f s) := by
  have henabled : Admitted { s with dispatch := { s.dispatch with enable := true } } := dispatch_admitted rfl rfl h
  unfold takeEnable
  split
  · exact replySetup_admitted _ _ h
  · split
    · apply replyDone_admitted
      split
      · exact settle_admitted (enterFromStopped_admitted henabled)
      · exact henabled
    · exact replySetup_admitted _ _ h

theorem takeDisable_admitted (f : Frame) (h : Admitted s) : Admitted (takeDisable f s) :=
  replyDone_admitted f (settle_admitted (enterStopped_admitted (dispatch_admitted rfl rfl h)))

theorem takeDispatchRun_admitted (f : Frame) (h : Admitted s) : Admitted (takeDispatchRun f s) := by
  unfold takeDispatchRun
  split
  · exact replySetup_admitted _ _ h
  · exact replySetup_admitted _ _ h
  · exact replyDone_admitted f (settle_admitted (runCommanded_admitted h))

theorem takeDispatchHold_admitted (f : Frame) (h : Admitted s) : Admitted (takeDispatchHold f s) := by
  unfold takeDispatchHold
  split
  · exact replySetup_admitted _ _ h
  · exact replyDone_admitted f (settle_admitted (holdCause_admitted _ h))

theorem clearGroup_admitted (g : CounterGroup) (h : Admitted s) : Admitted (clearGroup s g) := by
  cases g with
  | guard => exact h.shrink (.mapGuards fun _ => by exact ⟨rfl, rfl, id, id⟩)
  | _ => exact h.keep rfl

theorem takeCounterClear_admitted (f : Frame) (h : Admitted s) : Admitted (takeCounterClear f s) := by
  unfold takeCounterClear
  split
  · exact replySetup_admitted _ _ h
  · exact replySetup_admitted _ _ (foldl_admitted (fun _ g => clearGroup_admitted g) _ h)

/-! ### A step -/

theorem admitted_of_next {t u : State} (he : (.next u : Host.Outcome State Fault Refusal) = .next t) (h : Admitted u) :
    Admitted t := by
  cases he
  exact h

end

/-- A taken frame's command that keeps what waits. -/
theorem takeFrame_keeps {p : Port} {f : Frame} {c : Instr} {act : State → State} {s : State}
    (hact : ∀ t, Admitted t → Admitted (act t)) (h : Founded s) : Admitted (takeFrame p f c act s) :=
  takeFrame_admitted (fun t ht => hact t ht.admitted) h

theorem exec_admitted {c : Instr} {s t : State} (he : exec c s = .next t) (h : Founded s) : Admitted t := by
  have ha := h.admitted
  cases c with
  | powerOn straps => exact admitted_of_next he (powerOn_admitted _ _ _)
  | powerOnReset => exact admitted_of_next he holdInReset_admitted
  | frameReceived p cutOff bytes =>
    exact admitted_of_next he (whileAwake_admitted ((serve_admitted (ha.keep (symbolArrives_ordering ..))).keep
      (receiveFrame_ordering ..)) ha)
  | symbolReceived p y =>
    exact admitted_of_next he (whileAwake_admitted (ha.keep ((symbolArrives_ordering ..).trans (delimit_ordering ..))) ha)
  | pauseReceived p =>
    exact admitted_of_next he (whileAwake_admitted ((serve_admitted (ha.keep (cutOffReception_ordering ..))).keep
      (pauseArrives_ordering ..)) ha)
  | resumeReceived p =>
    exact admitted_of_next he (whileAwake_admitted (ha.keep ((symbolArrives_ordering ..).trans
      ((endPause_ordering ..).trans (cutOffReception_ordering ..)))) ha)
  | pauseTimerExpiry p => exact admitted_of_next he (atExpiry_admitted _ (ha.keep (endPause_ordering ..)) ha)
  | linkDownExpiry p => exact admitted_of_next he (atExpiry_admitted _ (linkDown_admitted p ha) ha)
  | frameCompletes p =>
    refine admitted_of_next he ?_
    split
    · exact ha
    · exact whileAwake_admitted (completeFrame_admitted p _ ha) ha
  | addressConflict p f => exact admitted_of_next he (takeFrame_keeps (fun _ => conflict_admitted) h)
  | sPortFrameDropped f => exact admitted_of_next he (takeFrame_keeps (fun _ => dropFromS_admitted f) h)
  | orderToPart f => exact admitted_of_next he (takeFrame_keeps (fun _ => takeSelfOrder_admitted f) h)
  | queryToPart f => exact admitted_of_next he (takeFrame_keeps (fun _ => placeReply_admitted _ _) h)
  | orderFrameAcceptance f => exact admitted_of_next he (takeFrame_keeps (fun _ => acceptOrders_admitted f) h)
  | passThroughEntry f => exact admitted_of_next he (takeFrame_keeps (fun _ => passThrough_admitted f) h)
  | supervisoryQuery f => exact admitted_of_next he (takeFrame_keeps (fun _ ht => ht.keep (takeQuery_ordering f _)) h)
  | fieldReport f =>
    exact admitted_of_next he (takeFrame_admitted (fun _ ht => takeReport_admitted f ht.channels ht.admitted) h)
  | fieldAnswer f => exact admitted_of_next he (takeFrame_keeps (fun _ ht => ht.keep (takeAnswer_ordering f _)) h)
  | upPassThrough f => exact admitted_of_next he (takeFrame_keeps (fun _ => queueUpPass_admitted f) h)
  | fieldFrameDropped f => exact admitted_of_next he (takeFrame_keeps (fun _ => dropFromF_admitted f) h)
  | freshnessExpiry p =>
    exact admitted_of_next he (atExpiry_admitted _ (settle_admitted (expireFreshness_admitted p ha)) ha)
  | answerTimerExpiry i => exact admitted_of_next he (atExpiry_admitted _ (ha.keep (answerExpires_ordering ..)) ha)
  | discardTimerExpiry i => exact admitted_of_next he (atExpiry_admitted _ (ha.keep (discardExpires_ordering ..)) ha)
  | rampTimerExpiry i => exact admitted_of_next he (atExpiry_admitted _ (rampExpires_admitted i ha) ha)
  | periodBoundary =>
    refine admitted_of_next he ?_
    split
    · exact whileAwake_admitted (periodBoundaryEvent_admitted h.channels ha) ha
    · exact ha
  | inputHoldExpiry i => exact admitted_of_next he (atExpiry_admitted _ (inputHoldExpires_admitted i ha) ha)
  | cycleTimerExpiry => exact admitted_of_next he (atExpiry_admitted _ (cycleTimerExpires_admitted ha) ha)
  | write f => exact admitted_of_next he (takeFrame_keeps (fun _ => takeWrite_admitted f) h)
  | read f => exact admitted_of_next he (takeFrame_keeps (fun _ => takeRead_admitted f) h)
  | start f =>
    exact admitted_of_next he (takeFrame_admitted (fun _ ht => takeStart_admitted f ht.fits.guard.recs ht.admitted) h)
  | stop f =>
    exact admitted_of_next he (takeFrame_admitted (fun _ ht =>
      takeStop_admitted f ht.fits.guard.stepsOf ht.fits.slots.outputs ht.admitted) h)
  | time f => exact admitted_of_next he (takeFrame_keeps (fun _ => takeTime_admitted f) h)
  | substitute f => exact admitted_of_next he (takeFrame_keeps (fun _ => takeSubstitute_admitted f) h)
  | unsubstitute f => exact admitted_of_next he (takeFrame_keeps (fun _ => takeUnsubstitute_admitted f) h)
  | lock f => exact admitted_of_next he (takeFrame_keeps (fun _ ht => ht.keep rfl) h)
  | reset f => exact admitted_of_next he (takeFrame_keeps (fun _ ht => ht.keep rfl) h)
  | release f => exact admitted_of_next he (takeFrame_keeps (fun _ => takeRelease_admitted f) h)
  | clear f => exact admitted_of_next he (takeFrame_keeps (fun _ => takeClear_admitted f) h)
  | force f => exact admitted_of_next he (takeFrame_keeps (fun _ => takeForce_admitted f) h)
  | portRestart f => exact admitted_of_next he (takeFrame_keeps (fun _ => takePortRestart_admitted f) h)
  | portRate f => exact admitted_of_next he (takeFrame_keeps (fun _ => takePortRate_admitted f) h)
  | rearm f => exact admitted_of_next he (takeFrame_keeps (fun _ => takeRearm_admitted f) h)
  | dispatchEnable f => exact admitted_of_next he (takeFrame_keeps (fun _ => takeEnable_admitted f) h)
  | dispatchDisable f => exact admitted_of_next he (takeFrame_keeps (fun _ => takeDisable_admitted f) h)
  | dispatchRun f => exact admitted_of_next he (takeFrame_keeps (fun _ => takeDispatchRun_admitted f) h)
  | dispatchHold f => exact admitted_of_next he (takeFrame_keeps (fun _ => takeDispatchHold_admitted f) h)
  | counterClear f => exact admitted_of_next he (takeFrame_keeps (fun _ => takeCounterClear_admitted f) h)

theorem idle_admitted {s : State} (h : Admitted s) : Admitted (idle s) := by
  unfold idle
  split
  · exact h
  · split
    · exact h.keep rfl
    · split
      · exact settle_admitted h
      · exact h.keep rfl

/-- Settles O7: what waits, waits for a CLEAR output in RUN (`Admitted`): the guard places orders for no other, a trip
withdraws every order before its output leaves CLEAR, START derives every output CLEAR and STOP withdraws all. -/
theorem trippedOutputsHoldNothing : Obligations.TrippedOutputsHoldNothing := by
  intro s t hb hr hd ht hstep
  have hs : Founded s := ⟨fits_of_bounded hb, hr.channels, admitted_of_invariants hr hd ht⟩
  have hafter : Admitted t := by
    unfold step at hstep
    split at hstep
    · exact admitted_of_next hstep (idle_admitted hs.admitted)
    · exact exec_admitted hstep ⟨{ hs.fits with }, hs.channels, hs.admitted.keep rfl⟩
  exact ⟨hafter.distinct, trippedHoldNothing_iff.mpr hafter.clear⟩

end Sys2Proof.Machine
end

section
namespace Sys2Proof.Machine
open Sys2Proof

section
variable {s t : State}

/-! ### What is handed to the recorder -/

/-- What a record leaves in the recorder rests on the recorder and the clock alone (R153, R157). -/
theorem enterRecord_recorder_congr (r : RecEntry) (hrec : t.recorder = s.recorder) (hclock : t.clock = s.clock) :
    (enterRecord r t).recorder = (enterRecord r s).recorder := by
  have hpush : (pushRecord r t).recorder = (pushRecord r s).recorder := by
    simp only [pushRecord, stampNow, hrec, hclock]
  have hfreeze : (freezeRecorder (pushRecord r t)).recorder = (freezeRecorder (pushRecord r s)).recorder := by
    rw [freezeRecorder_recorder, freezeRecorder_recorder, hpush]
  unfold enterRecord
  rw [hrec]
  split
  · exact hrec
  · exact hrec
  · exact hpush
  · simp only [hpush]
    split
    · exact hfreeze
    · rfl

theorem recordOutcome_recorder_congr (org : RecOrigin) (o : RecOutcome) (src dest p : Nat) (v : Value)
    (hrec : t.recorder = s.recorder) (hclock : t.clock = s.clock) :
    (recordOutcome org o src dest p v t).recorder = (recordOutcome org o src dest p v s).recorder := by
  have hselected : outcomeSelected t org = outcomeSelected s org := by
    cases org <;> simp only [outcomeSelected, hrec]
  unfold recordOutcome
  rw [hselected]
  split
  · exact enterRecord_recorder_congr _ hrec hclock
  · exact hrec

/-- The state before a decision as the recorder sees it: an order moves neither the recorder nor the clock, the point
table nor the part record. -/
structure SameRecord (s t : State) : Prop where
  recorder : t.recorder = s.recorder
  clock    : t.clock = s.clock
  points   : t.points = s.points
  part     : t.part = s.part

theorem SameRecord.trans {u : State} (h : SameRecord s t) (h' : SameRecord t u) : SameRecord s u :=
  ⟨h'.recorder.trans h.recorder, h'.clock.trans h.clock, h'.points.trans h.points, h'.part.trans h.part⟩

theorem SameRecord.ownerStation (h : SameRecord s t) (p : Nat) : ownerStation t p = ownerStation s p := by
  simp only [Machine.ownerStation, State.point, h.points]

theorem SameRecord.decision (h : SameRecord s t) (org : OrderOrigin) (o : RecOutcome) (p : Nat) (v : Value) :
    (recordDecision org o p v t).recorder = (recordDecision org o p v s).recorder := by
  unfold recordDecision
  cases org with
  | supervisory => exact recordOutcome_recorder_congr _ _ _ _ _ _ h.recorder h.clock
  | dispatch =>
    simp only [h.part, h.ownerStation]
    exact recordOutcome_recorder_congr _ _ _ _ _ _ h.recorder h.clock

theorem withdrawStep_sameRecord (i : Nat) (s : State) : SameRecord s (withdrawStep i s) := by
  rw [withdrawStep_eq]
  exact ⟨rfl, rfl, rfl, rfl⟩

theorem modGuard_sameRecord (i : Nat) (f : GuardRec → GuardRec) (s : State) : SameRecord s (s.modGuard i f) :=
  ⟨rfl, rfl, rfl, rfl⟩

theorem placeOrder_sameRecord (org : OrderOrigin) (p : Nat) (v : Value) (s : State) :
    SameRecord s (placeOrder org p v s) := by
  cases org <;> exact ⟨rfl, rfl, rfl, rfl⟩

theorem raiseFlag_sameRecord (fl : Flag) (s : State) : SameRecord s (raiseFlag fl s) :=
  have h := raiseFlag_beyondAttention fl s
  ⟨recorder_of_beyondAttention h, (congrArg State.clock h :), (congrArg State.points h :), (congrArg State.part h :)⟩

theorem recordDecision_guard (org : OrderOrigin) (o : RecOutcome) (p : Nat) (v : Value) (s : State) :
    (recordDecision org o p v s).guard = s.guard := (congrArg State.guard (recordDecision_beyondRecorder org o p v s) :)

theorem recordDecision_fwd (org : OrderOrigin) (o : RecOutcome) (p : Nat) (v : Value) (s : State) :
    (recordDecision org o p v s).fwd = s.fwd := (congrArg State.fwd (recordDecision_beyondRecorder org o p v s) :)

theorem recordDecision_dispatch (org : OrderOrigin) (o : RecOutcome) (p : Nat) (v : Value) (s : State) :
    (recordDecision org o p v s).dispatch = s.dispatch :=
  (congrArg State.dispatch (recordDecision_beyondRecorder org o p v s) :)

theorem recordDecision_guardRec (org : OrderOrigin) (o : RecOutcome) (p : Nat) (v : Value) (s : State) (j : Nat) :
    (recordDecision org o p v s).guardRec j = s.guardRec j :=
  guardRec_of_recs (congrArg Guard.recs (recordDecision_guard org o p v s)) j

/-! ### The checks of R77 -/

/-- Whether an order comes from the supervisory side. -/
def OrderOrigin.fromSupervisory (org : OrderOrigin) : Prop := ∃ d f, org = .supervisory d f

theorem orderRefusal_setup (hs : s.part.state = .setup) (g : GuardRec) (org : OrderOrigin) :
    orderRefusal s g org = some .held := by
  cases org <;> simp only [orderRefusal, hs, if_true]

theorem orderRefusal_owned {g : GuardRec} {org : OrderOrigin} (hr : s.part.state = .run) (horg : org.fromSupervisory)
    (ho : g.owner = .dispatch) (hd : s.dispatch.state = .run) : orderRefusal s g org = some .owned := by
  obtain ⟨d, f, rfl⟩ := horg
  simp [orderRefusal, hr, ho, hd]

theorem orderRefusal_held {g : GuardRec} {org : OrderOrigin} (hr : s.part.state = .run) (horg : org.fromSupervisory)
    (ho : ¬(g.owner = .dispatch ∧ s.dispatch.state = .run)) (hc : g.state ≠ .clear) :
    orderRefusal s g org = some .held := by
  obtain ⟨d, f, rfl⟩ := horg
  simp only [orderRefusal, hr, reduceCtorEq, if_false, if_neg ho, if_pos hc]

theorem orderRefusal_dropped {g : GuardRec} {org : OrderOrigin} (hr : s.part.state = .run) (horg : ¬org.fromSupervisory)
    (hc : g.state ≠ .clear) : orderRefusal s g org = some .dropped := by
  cases org with
  | supervisory d f => exact absurd ⟨d, f, rfl⟩ horg
  | dispatch => simp only [orderRefusal, hr, reduceCtorEq, if_false, if_pos hc]

theorem orderRefusal_none {g : GuardRec} {org : OrderOrigin} (hr : s.part.state = .run)
    (ho : ¬(org.fromSupervisory ∧ g.owner = .dispatch ∧ s.dispatch.state = .run)) (hc : g.state = .clear) :
    orderRefusal s g org = none := by
  cases org with
  | supervisory d f =>
    have ho' : ¬(g.owner = .dispatch ∧ s.dispatch.state = .run) := fun h => ho ⟨⟨d, f, rfl⟩, h⟩
    simp only [orderRefusal, hr, reduceCtorEq, if_false, if_neg ho', hc, ne_eq, not_true_eq_false]
  | dispatch => simp only [orderRefusal, hr, reduceCtorEq, if_false, hc, ne_eq, not_true_eq_false]

/-! ### What a decision comes to -/

/-- What a decided order leaves: the record of its output, the queue and the slots as another state has them, and one
outcome with the recorder. -/
structure Decided (org : OrderOrigin) (o : RecOutcome) (x : Value) (i : Nat) (s w u : State) (r : GuardRec) : Prop where
  record   : u.guardRec i = r
  fwd      : u.fwd = w.fwd
  dispatch : u.dispatch = w.dispatch
  recorder : u.recorder = (recordDecision org o (s.guardRec i).point x s).recorder

/-- A decision that the recorder is handed once the output's record and the places of its order stand. -/
theorem Decided.recorded {w u : State} {i : Nat} {r : GuardRec} (hsame : SameRecord s u) (hrec : u.guardRec i = r)
    (hfwd : u.fwd = w.fwd) (hdispatch : u.dispatch = w.dispatch) (org : OrderOrigin) (o : RecOutcome) (x : Value) :
    Decided org o x i s w (recordDecision org o (s.guardRec i).point x u) r where
  record := (recordDecision_guardRec ..).trans hrec
  fwd := (recordDecision_fwd ..).trans hfwd
  dispatch := (recordDecision_dispatch ..).trans hdispatch
  recorder := hsame.decision ..

/-- A refused order changes a counter of its output's record. -/
theorem counted_decided {i : Nat} (hi : i < s.guard.recs.length) (f : GuardRec → GuardRec) (org : OrderOrigin)
    (o : RecOutcome) (x : Value) :
    Decided org o x i s s (recordDecision org o (s.guardRec i).point x (s.modGuard i f)) (f (s.guardRec i)) :=
  .recorded (w := s) (modGuard_sameRecord i f s) (guardRec_modGuard_same hi f) rfl rfl org o x

/-- The state in which the HELD outcome of an order goes to the recorder (R77, R84). -/
def heldCounted (org : OrderOrigin) (i : Nat) (s : State) : State :=
  let s1 := s.modGuard i (fun g => { g with held := bump g.held })
  match org with
  | .supervisory _ _ => raiseFlag .orderHeld s1
  | .dispatch _ _ => s1

theorem held_decided {i : Nat} (hi : i < s.guard.recs.length) (org : OrderOrigin) (x : Value) :
    Decided org .held x i s s (recordDecision org .held (s.guardRec i).point x (heldCounted org i s))
      { s.guardRec i with held := bump (s.guardRec i).held } := by
  cases org with
  | dispatch => exact counted_decided hi _ _ _ _
  | supervisory =>
    have hraised := raiseFlag_beyondAttention .orderHeld (s.modGuard i fun g => { g with held := bump g.held })
    refine .recorded ((modGuard_sameRecord ..).trans (raiseFlag_sameRecord ..)) ?_ ?_ ?_ _ _ _
    · exact (guardRec_of_recs (congrArg Guard.recs (guard_of_beyondAttention hraised)) i).trans
        (guardRec_modGuard_same hi fun g => { g with held := bump g.held })
    · exact (congrArg State.fwd hraised :)
    · exact (congrArg State.dispatch hraised :)

/-- An order refused HELD raises ORDER-HELD, which the recorder's record leaves set (R77). -/
theorem held_flag {org : OrderOrigin} (horg : org.fromSupervisory) (hl : s.attention.flags.length = flagCount) (i p : Nat)
    (x : Value) : ((recordDecision org .held p x (heldCounted org i s)).flag 21).isSet = true := by
  obtain ⟨d, f, rfl⟩ := horg
  have hraised : ((heldCounted (.supervisory d f) i s).flag 21).isSet = true := by
    refine (raiseFlag_isSet .orderHeld (s := s.modGuard i _) hl 21).trans ?_
    exact Bool.or_true _
  exact (recordDecision_flagsKept _ _ _ _ (.refl _)).events 21 (by decide) hraised

theorem guardOrder_held {org : OrderOrigin} {i : Nat} {s0 : State}
    (h : orderRefusal (withdrawStep i s0) ((withdrawStep i s0).guardRec i) org = some .held) (x : Value) :
    guardOrder org i x s0 = (.held, recordDecision org .held ((withdrawStep i s0).guardRec i).point x
      (heldCounted org i (withdrawStep i s0))) := by
  unfold guardOrder
  simp only [h]
  rfl

theorem guardOrder_owned {org : OrderOrigin} {i : Nat} {s0 : State}
    (h : orderRefusal (withdrawStep i s0) ((withdrawStep i s0).guardRec i) org = some .owned) (x : Value) :
    guardOrder org i x s0 = (.owned, recordDecision org .owned ((withdrawStep i s0).guardRec i).point x
      ((withdrawStep i s0).modGuard i fun g => { g with owned := bump g.owned })) := by
  unfold guardOrder
  simp only [h]

theorem guardOrder_dropped {org : OrderOrigin} {i : Nat} {s0 : State}
    (h : orderRefusal (withdrawStep i s0) ((withdrawStep i s0).guardRec i) org = some .dropped) (x : Value) :
    guardOrder org i x s0 = (.dropped, recordDecision org .held ((withdrawStep i s0).guardRec i).point x
      ((withdrawStep i s0).modGuard i fun g => { g with held := bump g.held })) := by
  unfold guardOrder
  simp only [h]

theorem guardOrder_taken {org : OrderOrigin} {i : Nat} {s0 : State}
    (h : orderRefusal (withdrawStep i s0) ((withdrawStep i s0).guardRec i) org = none) (x : Value) :
    guardOrder org i x s0 = (.taken, judgeOrder org i x (withdrawStep i s0)) := by
  unfold guardOrder
  simp only [h]

/-! ### A judged order -/

/-- The value that an order's target takes (R78). -/
def clampedValue (s : State) (i : Nat) (given : Value) : Value :=
  clampTo (s.guardRec i).low (effectiveHigh s (s.guardRec i)) given

/-- Whether an order is placed at once (R79). -/
def placesAtOnce (s : State) (i : Nat) (org : OrderOrigin) (v : Value) : Prop :=
  (s.guardRec i).issued = some v ∨ (s.guardRec i).rate = 0 ∨ (s.guardRec i).issued = none ∨ org.urgent = true

/-- An output's record with its target taken from a given value (R78). -/
def GuardRec.aimed (g : GuardRec) (v given : Value) : GuardRec :=
  { g with target := some v, clamped := if v = given then g.clamped else bump g.clamped }

/-- An output's record once an order is absorbed: its ramp timer runs (R79). -/
def GuardRec.absorbing (g : GuardRec) (v given : Value) : GuardRec :=
  { g.aimed v given with
    rampTimer := if g.rampTimer = none then some (g.lastIssue.getD 0 + g.interval) else g.rampTimer }

/-- An output's record once a value is issued for it (R79, R80). -/
def GuardRec.issuing (g : GuardRec) (w : Value) (now : Nat) : GuardRec :=
  { g with
    issued := some w, lastIssue := some now, rampTimer := if g.target = some w then none else some (now + g.interval) }

theorem placeOrder_guard (org : OrderOrigin) (p : Nat) (x : Value) (s : State) :
    (placeOrder org p x s).guard = s.guard := by
  cases org <;> rfl

theorem placeOrder_now (org : OrderOrigin) (p : Nat) (x : Value) (s : State) :
    (placeOrder org p x s).now = s.now := by
  cases org <;> rfl

/-- An order placed for an output: its place is that of the order alone, whatever the record's target. -/
theorem placed_decided {i : Nat} (hi : i < s.guard.recs.length) (f : GuardRec → GuardRec) (org : OrderOrigin)
    (o : RecOutcome) (w : Value) :
    Decided org o w i s (placeOrder org (s.guardRec i).point w s)
      (recordDecision org o (s.guardRec i).point w (issue i w (placeOrder org (s.guardRec i).point w (s.modGuard i f))))
      ((f (s.guardRec i)).issuing w s.now) := by
  have hsame : SameRecord s (placeOrder org (s.guardRec i).point w (s.modGuard i f)) :=
    (modGuard_sameRecord i f s).trans (placeOrder_sameRecord ..)
  refine .recorded (hsame.trans (modGuard_sameRecord ..)) ?_ ?_ ?_ _ _ _
  · have hlen : i < (placeOrder org (s.guardRec i).point w (s.modGuard i f)).guard.recs.length := by
      rw [placeOrder_guard]
      exact hi.trans_eq (List.length_modify ..).symm
    refine (guardRec_modGuard_same hlen _).trans ?_
    rw [placeOrder_now, guardRec_of_recs (congrArg Guard.recs (placeOrder_guard ..)), guardRec_modGuard_same hi]
    rfl
  · cases org <;> rfl
  · cases org <;> rfl

/-- The three ways of an order that the checks of R77 let through (R79, R80). -/
theorem judgeOrder_eq (org : OrderOrigin) (i : Nat) (given : Value) (s : State) [Decidable (placesAtOnce s i org (clampedValue s i given))] :
    judgeOrder org i given s =
      let g := s.guardRec i
      let v := clampedValue s i given
      let aimed := s.modGuard i fun g => g.aimed v given
      if placesAtOnce s i org v then
        recordDecision org (if v = given then .passed else .clamped) g.point v (issue i v (placeOrder org g.point v aimed))
      else if intervalPassed s g then
        let w := nextStep g (effectiveHigh s g) (g.issued.getD 0) v
        recordDecision org .ramped g.point w (issue i w (placeOrder org g.point w aimed))
      else
        recordDecision org .ramped g.point given (s.modGuard i fun g => g.absorbing v given) := by
  unfold judgeOrder
  simp only [modGuard_modGuard]
  exact if_congr Iff.rfl rfl rfl

theorem judgeOrder_at_once {i : Nat} (hi : i < s.guard.recs.length) {org : OrderOrigin} {given : Value}
    (h : placesAtOnce s i org (clampedValue s i given)) :
    Decided org (if clampedValue s i given = given then .passed else .clamped) (clampedValue s i given) i s
      (placeOrder org (s.guardRec i).point (clampedValue s i given) s) (judgeOrder org i given s)
      (((s.guardRec i).aimed (clampedValue s i given) given).issuing (clampedValue s i given) s.now) := by
  classical
  rw [judgeOrder_eq]
  simp only [if_pos h]
  exact placed_decided hi (fun g => g.aimed (clampedValue s i given) given) org _ _

theorem judgeOrder_steps {i : Nat} (hi : i < s.guard.recs.length) {org : OrderOrigin} {given : Value}
    (h : ¬placesAtOnce s i org (clampedValue s i given)) (hp : intervalPassed s (s.guardRec i) = true) {iss : Value}
    (hiss : (s.guardRec i).issued = some iss) :
    let w := nextStep (s.guardRec i) (effectiveHigh s (s.guardRec i)) iss (clampedValue s i given)
    Decided org .ramped w i s (placeOrder org (s.guardRec i).point w s) (judgeOrder org i given s)
      (((s.guardRec i).aimed (clampedValue s i given) given).issuing w s.now) := by
  classical
  rw [judgeOrder_eq]
  simp only [if_neg h, if_pos hp, hiss, Option.getD_some]
  exact placed_decided hi (fun g => g.aimed (clampedValue s i given) given) org _ _

theorem judgeOrder_absorbs {i : Nat} (hi : i < s.guard.recs.length) {org : OrderOrigin} {given : Value}
    (h : ¬placesAtOnce s i org (clampedValue s i given)) (hp : ¬intervalPassed s (s.guardRec i) = true) :
    Decided org .ramped given i s s (judgeOrder org i given s)
      ((s.guardRec i).absorbing (clampedValue s i given) given) := by
  classical
  rw [judgeOrder_eq]
  simp only [if_neg h, if_neg hp]
  exact counted_decided hi (fun g => g.absorbing (clampedValue s i given) given) org _ _

/-! ### What an order leaves of the guard -/

/-- The trip queue, the step slots and the other outputs' records stand. -/
structure OneRecord (i : Nat) (s t : State) : Prop where
  trips  : t.guard.trips = s.guard.trips
  steps  : t.guard.steps = s.guard.steps
  others : ∀ j, j ≠ i → t.guardRec j = s.guardRec j

theorem OneRecord.trans {i : Nat} {u : State} (h : OneRecord i s t) (h' : OneRecord i t u) : OneRecord i s u :=
  ⟨h'.trips.trans h.trips, h'.steps.trans h.steps, fun j hj => (h'.others j hj).trans (h.others j hj)⟩

theorem OneRecord.of_guard {i : Nat} (h : t.guard = s.guard) : OneRecord i s t :=
  ⟨congrArg Guard.trips h, congrArg Guard.steps h, fun j _ => guardRec_of_recs (congrArg Guard.recs h) j⟩

theorem guardRec_modGuard_other {i j : Nat} (hj : j ≠ i) (f : GuardRec → GuardRec) (s : State) :
    (s.modGuard i f).guardRec j = s.guardRec j := by
  rw [State.guardRec_modGuard, if_neg fun h => hj h.1.symm]

theorem modGuard_oneRecord (i : Nat) (f : GuardRec → GuardRec) (s : State) : OneRecord i s (s.modGuard i f) :=
  ⟨rfl, rfl, fun _ hj => guardRec_modGuard_other hj f s⟩

theorem recordDecision_oneRecord (i : Nat) (org : OrderOrigin) (o : RecOutcome) (p : Nat) (v : Value) (s : State) :
    OneRecord i s (recordDecision org o p v s) := .of_guard (recordDecision_guard org o p v s)

theorem judgeOrder_oneRecord (org : OrderOrigin) (i : Nat) (given : Value) (s : State) :
    OneRecord i s (judgeOrder org i given s) := by
  have hplaced (f : GuardRec → GuardRec) (w : Value) (p : Nat) : OneRecord i s (issue i w (placeOrder org p w (s.modGuard i f))) :=
    ((modGuard_oneRecord i f s).trans (.of_guard (placeOrder_guard ..))).trans (modGuard_oneRecord ..)
  classical
  rw [judgeOrder_eq]
  simp only
  split
  · exact (hplaced _ _ _).trans (recordDecision_oneRecord ..)
  · split
    · exact (hplaced _ _ _).trans (recordDecision_oneRecord ..)
    · exact (modGuard_oneRecord ..).trans (recordDecision_oneRecord ..)

theorem guardOrder_oneRecord (org : OrderOrigin) (i : Nat) (given : Value) (s : State) :
    OneRecord i (withdrawStep i s) (guardOrder org i given s).2 := by
  have hraised (u : State) : OneRecord i u (raiseFlag .orderHeld u) :=
    .of_guard (guard_of_beyondAttention (raiseFlag_beyondAttention ..))
  unfold guardOrder
  simp only
  split
  · exact judgeOrder_oneRecord ..
  · exact (modGuard_oneRecord ..).trans (recordDecision_oneRecord ..)
  · refine .trans ?_ (recordDecision_oneRecord ..)
    split
    · exact (modGuard_oneRecord ..).trans (hraised _)
    · exact modGuard_oneRecord ..
  · exact (modGuard_oneRecord ..).trans (recordDecision_oneRecord ..)

theorem withdrawStep_trips (i : Nat) (s : State) : (withdrawStep i s).guard.trips = s.guard.trips := by
  rw [withdrawStep_eq]

theorem withdrawStep_guardRec_other {i j : Nat} (hj : j ≠ i) (s : State) :
    (withdrawStep i s).guardRec j = s.guardRec j := by
  rw [withdrawStep_eq]
  exact guardRec_modGuard_other hj (fun r => { r with issued := issuedWithdrawn s i }) s

theorem withdrawStep_length (i : Nat) (s : State) : (withdrawStep i s).guard.recs.length = s.guard.recs.length := by
  rw [withdrawStep_eq]
  exact List.length_modify ..

theorem intervalPassed_iff {g : GuardRec} :
    intervalPassed s g = true ↔ ∀ t, g.lastIssue = some t → g.rampTimer = none ∧ t + g.interval ≤ s.now := by
  unfold intervalPassed
  cases g.lastIssue <;> simp

theorem urgent_iff {org : OrderOrigin} : org.urgent = true ↔ ∃ k, org = .dispatch k true := by
  cases org <;> simp [OrderOrigin.urgent]

/-- What a placed order is, by its origin (R83). -/
theorem placeOrder_places {org : OrderOrigin} {p : Nat} {x : Value} {u : State}
    (hfwd : u.fwd = (placeOrder org p x s).fwd) (hdispatch : u.dispatch = (placeOrder org p x s).dispatch) :
    (∀ d f, org = .supervisory d f → u.dispatch = s.dispatch ∧ u.fwd = { s.fwd with
      orders := s.fwd.orders ++ [.order d p x f true s.fwd.acceptance], acceptance := s.fwd.acceptance + 1 }) ∧
    (∀ k b, org = .dispatch k b → u.fwd = s.fwd ∧ u.dispatch = { s.dispatch with
      slots := if s.dispatch.slots.any (fun o => decide (o.output = k)) then
          s.dispatch.slots.map (fun o => if o.output = k then ⟨k, x, b⟩ else o)
        else s.dispatch.slots ++ [⟨k, x, b⟩] }) := by
  refine ⟨?_, ?_⟩
  · rintro d f rfl
    exact ⟨hdispatch, hfwd⟩
  · rintro k b rfl
    exact ⟨hfwd, hdispatch⟩

/-- One outcome under the origin of its order, with the state before the order (R84, R152). -/
theorem Decided.outcome {org : OrderOrigin} {o : RecOutcome} {x : Value} {i : Nat} {s0 w u : State} {r : GuardRec}
    (h : Decided org o x i (withdrawStep i s0) w u r) :
    u.recorder = (match org with
      | .supervisory d f => recordOutcome .guard o f d ((withdrawStep i s0).guardRec i).point x s0
      | .dispatch _ _ => recordOutcome .dispatch o (withdrawStep i s0).part.station
          (ownerStation (withdrawStep i s0) ((withdrawStep i s0).guardRec i).point)
          ((withdrawStep i s0).guardRec i).point x s0).recorder := by
  have hsame := withdrawStep_sameRecord i s0
  rw [h.recorder, hsame.decision, hsame.part, hsame.ownerStation]
  cases org <;> rfl

end

end Sys2Proof.Machine
end

section
namespace Sys2Proof.Machine
open Sys2Proof

section
variable {org : OrderOrigin} {i : Nat} {s0 : State}

/-- An order refused HELD is counted, raises its flag where it is the supervisory's, and is recorded (R77, R84). -/
theorem guardOrder_holds (hi : i < (withdrawStep i s0).guard.recs.length) (given : Value)
    (h : orderRefusal (withdrawStep i s0) ((withdrawStep i s0).guardRec i) org = some .held) :
    (guardOrder org i given s0).1 = .held ∧
      Decided org .held given i (withdrawStep i s0) (withdrawStep i s0) (guardOrder org i given s0).2
        { (withdrawStep i s0).guardRec i with held := bump ((withdrawStep i s0).guardRec i).held } ∧
      (org.fromSupervisory → (withdrawStep i s0).attention.flags.length = flagCount →
        ((guardOrder org i given s0).2.flag 21).isSet = true) := by
  rw [guardOrder_held h]
  exact ⟨rfl, held_decided hi org given, fun horg hl => held_flag horg hl i _ given⟩

theorem guardOrder_owns (hi : i < (withdrawStep i s0).guard.recs.length) (given : Value)
    (h : orderRefusal (withdrawStep i s0) ((withdrawStep i s0).guardRec i) org = some .owned) :
    (guardOrder org i given s0).1 = .owned ∧
      Decided org .owned given i (withdrawStep i s0) (withdrawStep i s0) (guardOrder org i given s0).2
        { (withdrawStep i s0).guardRec i with owned := bump ((withdrawStep i s0).guardRec i).owned } := by
  rw [guardOrder_owned h]
  exact ⟨rfl, counted_decided hi (fun g => { g with owned := bump g.owned }) org .owned given⟩

theorem guardOrder_drops (hi : i < (withdrawStep i s0).guard.recs.length) (given : Value)
    (h : orderRefusal (withdrawStep i s0) ((withdrawStep i s0).guardRec i) org = some .dropped) :
    (guardOrder org i given s0).1 = .dropped ∧
      Decided org .held given i (withdrawStep i s0) (withdrawStep i s0) (guardOrder org i given s0).2
        { (withdrawStep i s0).guardRec i with held := bump ((withdrawStep i s0).guardRec i).held } := by
  rw [guardOrder_dropped h]
  exact ⟨rfl, counted_decided hi (fun g => { g with held := bump g.held }) org .held given⟩

end

theorem GuardRec.aimed_issuing (g : GuardRec) (v given w : Value) (now : Nat) :
    (g.aimed v given).issuing w now = { g with
      target := some v, issued := some w, lastIssue := some now,
      clamped := if v = given then g.clamped else bump g.clamped,
      rampTimer := if w = v then none else some (now + g.interval) } := by
  simp only [GuardRec.issuing, GuardRec.aimed, Option.some.injEq, eq_comm (a := v) (b := w)]

/-- With a ramp rate a step is at most the output's step, then clamped into range (R80). -/
theorem nextStep_of_rate {g : GuardRec} (h : g.rate ≠ 0) (hi iss tgt : Value) :
    nextStep g hi iss tgt = clampTo g.low hi (if iss < tgt then min tgt (iss + g.step) else max tgt (iss - g.step)) := by
  unfold nextStep
  rw [if_neg h]

/-! ### The RESTRICT entry of an output -/

/-- An output brought down to its restricted high, with what waits for it (R85). -/
theorem restrictWaiting_eq {i : Nat} {s : State} {f : QueueEntry → QueueEntry}
    (hf : ∀ e, f e = e.restrictTo (s.guardRec i).point (s.guardRec i).rhigh) :
    restrictWaiting i s = { s with
      fwd := { s.fwd with orders := s.fwd.orders.map f }
      dispatch := { s.dispatch with slots := s.dispatch.slots.map (fun o =>
        if o.output ∈ dispatchOutputs s (s.guardRec i).point ∧ (s.guardRec i).rhigh < o.value then
          { o with value := (s.guardRec i).rhigh } else o) }
      guard := { s.guard with
        recs := s.guard.recs.modify i (fun r => { r with
          target := (s.guardRec i).target.map (fun t => min t (s.guardRec i).rhigh) })
        steps := s.guard.steps.map (fun q =>
          if q.record = i ∧ (s.guardRec i).rhigh < q.value then { q with value := (s.guardRec i).rhigh } else q) } } := by
  have horders : s.fwd.orders.map f = s.fwd.orders.map (fun e => e.restrictTo (s.guardRec i).point (s.guardRec i).rhigh) :=
    List.map_congr_left fun e _ => hf e
  have hrecs : s.guard.recs.modify i (fun r => { r with
        target := (s.guardRec i).target.map (fun t => min t (s.guardRec i).rhigh) }) =
      s.guard.recs.modify i (fun g => { g with target := g.target.map (fun t => min t (s.guardRec i).rhigh) }) :=
    modify_congr (d := GuardRec.blank) rfl
  rw [horders, hrecs]
  rfl

/-- Lowering the steps of a record leaves which records have one, and a step written over it (R85). -/
theorem writeStep_lowered (l : List PendingStep) (i : Nat) (rh : Value) (p : PendingStep) (hp : p.record = i) :
    (if (l.map (fun q => if q.record = i ∧ rh < q.value then { q with value := rh } else q)).any
        (fun q => decide (q.record = p.record)) then
      (l.map (fun q => if q.record = i ∧ rh < q.value then { q with value := rh } else q)).map
        (fun q => if q.record = p.record then p else q)
     else l.map (fun q => if q.record = i ∧ rh < q.value then { q with value := rh } else q) ++ [p]) =
    if l.any (fun q => decide (q.record = i)) then l.map (fun q => if q.record = i then p else q) else l ++ [p] := by
  subst hp
  have hrecord (q : PendingStep) :
      (if q.record = p.record ∧ rh < q.value then { q with value := rh } else q).record = q.record := by
    split <;> rfl
  have hover (q : PendingStep) : (if q.record = p.record then p else
      if q.record = p.record ∧ rh < q.value then { q with value := rh } else q) = if q.record = p.record then p else q :=
    ite_congr rfl (fun _ => rfl) fun h => if_neg fun h' => h h'.1
  simp only [List.any_map, List.map_map, Function.comp_def, hrecord, hover]
  split
  · rfl
  · next hnone =>
    have hkept : l.map (fun q => if q.record = p.record ∧ rh < q.value then { q with value := rh } else q) = l := by
      refine (List.map_congr_left fun q hq => if_neg fun h => hnone ?_).trans (List.map_id l)
      exact List.any_eq_true.mpr ⟨q, hq, decide_eq_true h.1⟩
    rw [hkept]

theorem restrictOutput_of_idle {l : LineId} {i : Nat} {s : State}
    (h : ¬((s.guardRec i).configured = true ∧ (s.guardRec i).line = some l ∧ (s.guardRec i).restricted = true ∧
      (s.guardRec i).state = .clear)) : restrictOutput l i s = s := by
  unfold restrictOutput
  simp only
  exact if_neg h

section
variable {l : LineId} {i : Nat} {s : State}
  (hacts : (s.guardRec i).configured = true ∧ (s.guardRec i).line = some l ∧ (s.guardRec i).restricted = true ∧
    (s.guardRec i).state = .clear)
include hacts

theorem restrictOutput_lowers (h : ∀ iss, (s.guardRec i).issued = some iss → iss ≤ (s.guardRec i).rhigh) :
    restrictOutput l i s = restrictWaiting i s := by
  unfold restrictOutput
  simp only
  rw [if_pos hacts]
  split
  · rfl
  · next iss hiss => exact if_neg (Int.not_lt.mpr (h iss hiss))

theorem restrictOutput_steps {iss : Value} (hiss : (s.guardRec i).issued = some iss) (h : (s.guardRec i).rhigh < iss) :
    restrictOutput l i s = serve (recordOutcome .part .clamped s.part.station (ownerStation s (s.guardRec i).point)
      (s.guardRec i).point (s.guardRec i).rhigh
      (issue i (s.guardRec i).rhigh (writeStep ⟨i, (s.guardRec i).rhigh, iss⟩ (restrictWaiting i s)))) := by
  unfold restrictOutput
  simp only
  rw [if_pos hacts]
  simp only [hiss, if_pos h]

end

/-- Settles O58: after the withdrawal the checks of R77 refuse an order or let it through; what it then comes to (`Decided`)
is its record, its place and its one outcome. The RESTRICT entry is `restrictWaiting` and, above the restricted high, one
step over what waits. -/
theorem guardJudgesOrders : Obligations.GuardJudgesOrders := by
  refine ⟨?_, ?_, ?_⟩
  · intro org i given s0 hlen s g hi v a u r supervisory urgent unplaced placed recorded
    have hlens : i < s.guard.recs.length := hlen.trans_eq (withdrawStep_length i s0).symm
    have hone : OneRecord i s u := guardOrder_oneRecord org i given s0
    have hhigh : effectiveHigh s g = hi := effectiveHigh_eq s g
    have hv : clampedValue s i given = v := congrArg (clampTo g.low · given) hhigh
    have hurgent : org.urgent = true ↔ urgent := urgent_iff
    refine ⟨guardOrder_beyondGuard org i given s0, fun j hj => (hone.others j hj).trans (withdrawStep_guardRec_other hj s0),
      hone.trips.trans (withdrawStep_trips i s0), hone.steps, fun hs => ?_, fun hr => ⟨fun horg ho hd => ?_, fun ho =>
        ⟨fun hc => ?_, fun hc => ?_⟩⟩⟩
    · obtain ⟨hdecision, hd, hflag⟩ := guardOrder_holds hlens given (orderRefusal_setup hs g org)
      exact ⟨hdecision, hd.record, ⟨hd.fwd, hd.dispatch⟩, hd.outcome, hflag⟩
    · obtain ⟨hdecision, hd⟩ := guardOrder_owns hlens given (orderRefusal_owned hr horg ho hd)
      exact ⟨hdecision, hd.record, ⟨hd.fwd, hd.dispatch⟩, hd.outcome⟩
    · by_cases horg : org.fromSupervisory
      · obtain ⟨hdecision, hd, hflag⟩ := guardOrder_holds hlens given (orderRefusal_held hr horg (fun h => ho ⟨horg, h⟩) hc)
        exact ⟨fun _ => hdecision, fun h => absurd horg h, hd.record, ⟨hd.fwd, hd.dispatch⟩, hd.outcome, hflag⟩
      · obtain ⟨hdecision, hd⟩ := guardOrder_drops hlens given (orderRefusal_dropped hr horg hc)
        exact ⟨fun h => absurd h horg, fun _ => hdecision, hd.record, ⟨hd.fwd, hd.dispatch⟩, hd.outcome,
          fun h => absurd h horg⟩
    · have htaken := guardOrder_taken (orderRefusal_none hr ho hc) given
      have hu : u = judgeOrder org i given s := congrArg Prod.snd htaken
      have hrange (x : Value) : g.low ≤ hi → g.low ≤ clampTo g.low hi x ∧ clampTo g.low hi x ≤ hi :=
        fun h => clampTo_mem h x
      have honce : placesAtOnce s i org (clampedValue s i given) ↔
          g.issued = some v ∨ g.rate = 0 ∨ g.issued = none ∨ urgent := by
        rw [hv, ← hurgent]
        exact Iff.rfl
      refine ⟨congrArg Prod.fst htaken, hrange given, fun hat => ?_, fun hat hpassed iss hiss => ?_,
        fun hat hpassed l hlast => ?_⟩
      · have hd := judgeOrder_at_once hlens (honce.mpr hat)
        rw [← hu, hv] at hd
        exact ⟨placeOrder_places hd.fwd hd.dispatch, hd.outcome, hd.record.trans
          ((GuardRec.aimed_issuing ..).trans (by rw [if_pos rfl]))⟩
      · have hd := judgeOrder_steps hlens (fun h => hat (honce.mp h)) (intervalPassed_iff.mpr hpassed) hiss
        have hrate : g.rate ≠ 0 := fun h => hat (.inr (.inl h))
        rw [← hu, hv, hhigh] at hd
        have hstep : nextStep (s.guardRec i) hi iss v = _ := nextStep_of_rate hrate hi iss v
        rw [hstep] at hd
        exact ⟨placeOrder_places hd.fwd hd.dispatch, hd.outcome, hrange _,
          hd.record.trans (GuardRec.aimed_issuing ..)⟩
      · have hd := judgeOrder_absorbs hlens (fun h => hat (honce.mp h)) (fun h => hpassed (intervalPassed_iff.mp h))
        rw [← hu, hv] at hd
        refine ⟨⟨hd.fwd, hd.dispatch⟩, hd.outcome, hd.record.trans ?_⟩
        have hlast' : g.lastIssue.getD 0 = l := by rw [hlast, Option.getD_some]
        simp only [GuardRec.absorbing, GuardRec.aimed]
        rw [hlast']
  · intro l i s g rh acts target low
    have hlow : restrictWaiting i s = low := restrictWaiting_eq fun e => by
      cases e with
      | order d p v o guarded q => cases guarded <;> simp [QueueEntry.restrictTo, g, rh]
      | pass => rfl
    refine ⟨restrictOutput_of_idle, fun hacts => ⟨fun h => (restrictOutput_lowers hacts h).trans hlow,
      fun iss hiss habove => ?_⟩, rfl⟩
    have hsteps := writeStep_lowered s.guard.steps i rh ⟨i, rh, iss⟩ rfl
    have hrecs : (s.guard.recs.modify i fun r => { r with target := target }).modify i (fun g => g.issuing rh s.now) = _ :=
      (List.modify_modify_eq ..).trans (modify_congr (d := GuardRec.blank) (g := fun r => { r with
        target := target, issued := some rh, lastIssue := some s.now,
        rampTimer := if target = some rh then none else some (s.now + g.interval) }) rfl)
    rw [restrictOutput_steps hacts hiss habove, hlow]
    exact congrArg₂ (fun recs steps => serve (recordOutcome .part .clamped s.part.station (ownerStation s g.point) g.point rh
      { low with guard := { low.guard with recs := recs, steps := steps } })) hrecs hsteps
  · intro org o src dest p x s entered selects
    refine ⟨?_, ?_, ?_⟩ <;> rintro rfl <;> rfl

end Sys2Proof.Machine
end

section
namespace Sys2Proof.Machine
open Sys2Proof

section
variable {s t u : State}

/-! ### What the recorder keeps through a record -/

/-- The settings that govern the recorder and whether it is OFF: no record and no trigger changes these (R150, R158). -/
def recorderMode (s : State) : RecorderCfg × Bool := (s.recorder.cfg, decide (s.recorder.state = .off))

theorem recorderMode_of_recorder (h : t.recorder = s.recorder) : recorderMode t = recorderMode s := by
  simp only [recorderMode, h]

theorem recorderMode_of_on (hcfg : t.recorder.cfg = s.recorder.cfg) (ht : t.recorder.state ≠ .off)
    (hs : s.recorder.state ≠ .off) : recorderMode t = recorderMode s := by
  simp only [recorderMode, hcfg, ht, hs]

theorem freezeRecorder_mode (h : s.recorder.state ≠ .off) : recorderMode (freezeRecorder s) = recorderMode s := by
  refine recorderMode_of_on ?_ ?_ h
  · rw [freezeRecorder_recorder]
  · rw [freezeRecorder_recorder]
    exact fun h => nomatch h

theorem enterRecord_mode (r : RecEntry) (s : State) : recorderMode (enterRecord r s) = recorderMode s := by
  unfold enterRecord
  split
  · rfl
  · rfl
  · rfl
  · next h =>
    have hpushed : (pushRecord r s).recorder.state ≠ .off := by
      show s.recorder.state ≠ .off
      rw [h]
      decide
    simp only
    split
    · exact freezeRecorder_mode hpushed
    · rfl

theorem enterTrigger_mode (r : RecEntry) (s : State) : recorderMode (enterTrigger r s) = recorderMode s := by
  unfold enterTrigger
  split
  · rfl
  · rfl
  · next h =>
    have hon : s.recorder.state ≠ .off := by
      rw [h]
      decide
    simp only
    split
    · exact freezeRecorder_mode (s := { pushRecord r s with recorder := { (pushRecord r s).recorder with
        triggers := bump (pushRecord r s).recorder.triggers } }) hon
    · exact recorderMode_of_on rfl (fun h => nomatch h) hon
  · exact enterRecord_mode r _

theorem recordOutcome_mode (org : RecOrigin) (o : RecOutcome) (a b p : Nat) (v : Value) (s : State) :
    recorderMode (recordOutcome org o a b p v s) = recorderMode s := by
  unfold recordOutcome
  split
  · exact enterRecord_mode _ s
  · rfl

theorem recordDecision_mode (org : OrderOrigin) (o : RecOutcome) (p : Nat) (v : Value) (s : State) :
    recorderMode (recordDecision org o p v s) = recorderMode s := by
  unfold recordDecision
  split <;> exact recordOutcome_mode ..

theorem serve_recorder (s : State) : (serve s).recorder = s.recorder := (congrArg State.recorder (serve_standing s) :)

theorem taken_mode (p : Port) (f : Frame) (s : State) : recorderMode (taken p f s) = recorderMode s := by
  have hpop : recorderMode (popFrame p s) = recorderMode s := by cases p <;> rfl
  rw [taken, recorderMode_of_recorder (serve_recorder _), offered, ← hpop]
  unfold offerFrame
  simp only
  split
  · exact enterTrigger_mode _ _
  · split
    · exact enterRecord_mode _ _
    · rfl

/-! ### The part asleep

In SETUP the guard judges no order and trips nothing, no channel takes a sample and no line a state but at STOP. -/

/-- What stands while the part is in SETUP, but for the lines and for what the transmitters take. -/
def restingView (s : State) : List Channel × List (OutputState × Option Value) × (RecorderCfg × Bool) :=
  (s.emission.channels, s.guard.recs.map (fun g => (g.state, g.target)), recorderMode s)

/-- A later state of a part in SETUP: the view stands, and the queues lose entries from their heads alone. -/
structure Rested (s t : State) : Prop where
  view   : restingView t = restingView s
  trips  : t.guard.trips <:+ s.guard.trips
  orders : t.fwd.orders <:+ s.fwd.orders

/-- One in which the lines keep their emission states too. -/
structure Asleep (s t : State) : Prop extends Rested s t where
  lines : ∀ l, (t.line l).state = (s.line l).state

theorem Rested.trans (h : Rested s t) (h' : Rested t u) : Rested s u :=
  ⟨h'.view.trans h.view, h'.trips.trans h.trips, h'.orders.trans h.orders⟩

theorem Rested.of_queues (hview : restingView t = restingView s) (htrips : t.guard.trips = s.guard.trips)
    (horders : t.fwd.orders = s.fwd.orders) : Rested s t :=
  ⟨hview, htrips ▸ List.suffix_refl _, horders ▸ List.suffix_refl _⟩

theorem Asleep.of_emission (he : t.emission = s.emission) (h : Rested s t) : Asleep s t :=
  ⟨h, fun l => by rw [line_of_emission he]⟩

theorem Asleep.refl (s : State) : Asleep s s := .of_emission rfl (.of_queues rfl rfl rfl)

theorem Asleep.trans (h : Asleep s t) (h' : Asleep t u) : Asleep s u :=
  ⟨h.toRested.trans h'.toRested, fun l => (h'.lines l).trans (h.lines l)⟩

theorem restingView_eq (hc : t.emission.channels = s.emission.channels)
    (ho : t.guard.recs.map (fun g => (g.state, g.target)) = s.guard.recs.map (fun g => (g.state, g.target)))
    (hm : recorderMode t = recorderMode s) : restingView t = restingView s := by
  simp only [restingView, hc, ho, hm]

theorem Asleep.of_beyondAttention (h : beyondAttention t = beyondAttention s) : Asleep s t := by
  have hguard := guard_of_beyondAttention h
  have he := emission_of_beyondAttention h
  refine .of_emission he (.of_queues (restingView_eq (by rw [he]) (by rw [hguard])
    (recorderMode_of_recorder (recorder_of_beyondAttention h))) (by rw [hguard]) ?_)
  exact (congrArg (·.fwd.orders) h :)

theorem Asleep.of_beyondUpstream (h : beyondUpstream t = beyondUpstream s) : Asleep s t :=
  .of_emission (congrArg State.emission h :)
    (.of_queues (congrArg restingView h :) (congrArg (·.guard.trips) h :) (congrArg (·.fwd.orders) h :))

/-- The dispatch unit and the point table are no part of what stands. -/
theorem Asleep.unit (d : DispatchUnit) (s : State) : Asleep s { s with dispatch := d } :=
  .of_emission rfl (.of_queues rfl rfl rfl)

theorem Asleep.modPoint (p : Nat) (f : Point → Point) (s : State) : Asleep s (s.modPoint p f) :=
  .of_emission rfl (.of_queues rfl rfl rfl)

theorem Rested.states (h : Rested s t) :
    t.guard.recs.map (fun g => (g.state, g.target)) = s.guard.recs.map (fun g => (g.state, g.target)) :=
  congrArg (·.2.1) h.view

theorem outputs_of_states (h : t.guard.recs.map (fun g => (g.state, g.target)) = s.guard.recs.map (fun g => (g.state, g.target)))
    (i : Nat) : (t.guardRec i).state = (s.guardRec i).state ∧ (t.guardRec i).target = (s.guardRec i).target := by
  have hat := congrArg (·[i]?) h
  simp only [List.getElem?_map] at hat
  simp only [State.guardRec, List.getD_eq_getElem?_getD]
  cases ht : t.guard.recs[i]? <;> cases hs : s.guard.recs[i]? <;> simp_all

theorem Rested.channels (h : Rested s t) : t.emission.channels = s.emission.channels := congrArg Prod.fst h.view

theorem Rested.mode (h : Rested s t) : recorderMode t = recorderMode s := congrArg (·.2.2) h.view

theorem serve_asleep (s : State) : Asleep s (serve s) :=
  .of_emission (serve_emission s) {
    view := restingView_eq (by rw [serve_emission]) (by rw [serve_recs]) (recorderMode_of_recorder (serve_recorder s))
    trips := (serve_closes s).trips
    orders := (serve_closes s).orders }

theorem modGuard_asleep {f : GuardRec → GuardRec} (hf : ∀ g : GuardRec, ((f g).state, (f g).target) = (g.state, g.target))
    (i : Nat) (s : State) : Asleep s (s.modGuard i f) :=
  .of_emission rfl (.of_queues (restingView_eq rfl (map_modify_keeps _ f hf _ _) rfl) rfl rfl)

theorem withdrawStep_asleep (i : Nat) (s : State) : Asleep s (withdrawStep i s) := by
  rw [withdrawStep_eq]
  exact .of_emission rfl (.of_queues (restingView_eq rfl
    (map_modify_keeps (fun g : GuardRec => (g.state, g.target)) _ (fun _ => by rfl) _ _) rfl) rfl rfl)

theorem recordDecision_asleep (org : OrderOrigin) (o : RecOutcome) (p : Nat) (v : Value) (s : State) :
    Asleep s (recordDecision org o p v s) :=
  have he : (recordDecision org o p v s).emission = s.emission :=
    emission_of_beyondRecorder (recordDecision_beyondRecorder org o p v s)
  .of_emission he (.of_queues (restingView_eq (by rw [he]) (by rw [recordDecision_guard]) (recordDecision_mode ..))
    (by rw [recordDecision_guard]) (by rw [recordDecision_fwd]))

/-- In SETUP an order for a guarded output is refused HELD (R77). -/
theorem guardOrder_asleep (org : OrderOrigin) (i : Nat) (v : Value) (hs : s.part.state = .setup) :
    Asleep s (guardOrder org i v s).2 := by
  have hcounted : Asleep (withdrawStep i s) (heldCounted org i (withdrawStep i s)) := by
    have hheld := modGuard_asleep (f := fun g => { g with held := bump g.held }) (fun _ => by rfl) i (withdrawStep i s)
    cases org with
    | supervisory => exact hheld.trans (.of_beyondAttention (raiseFlag_beyondAttention ..))
    | dispatch => exact hheld
  have hpart : (withdrawStep i s).part.state = .setup := by rw [(withdrawStep_sameRecord i s).part, hs]
  rw [guardOrder_held (orderRefusal_setup hpart _ org)]
  exact ((withdrawStep_asleep i s).trans hcounted).trans (recordDecision_asleep ..)

/-! ### Cycles and writes of a part asleep -/

/-- A part in SETUP stays so and sleeps on. -/
def Dormant (s t : State) : Prop := t.part = s.part ∧ (s.part.state = .setup → Asleep s t)

theorem Dormant.refl (s : State) : Dormant s s := ⟨rfl, fun _ => .refl s⟩

theorem Dormant.trans (h : Dormant s t) (h' : Dormant t u) : Dormant s u :=
  ⟨h'.1.trans h.1, fun hs => (h.2 hs).trans (h'.2 (h.1 ▸ hs))⟩

theorem Dormant.of_asleep (hp : t.part = s.part) (h : Asleep s t) : Dormant s t := ⟨hp, fun _ => h⟩

theorem Dormant.of_beyondAttention (h : beyondAttention t = beyondAttention s) : Dormant s t :=
  .of_asleep (congrArg State.part h :) (.of_beyondAttention h)

theorem serve_dormant (s : State) : Dormant s (serve s) := .of_asleep (serve_part s) (serve_asleep s)

theorem handOutput_dormant (r : CycleRecord) (k : Nat) (v : Value) (s : State) : Dormant s (handOutput r k v s).2 := by
  unfold handOutput
  split
  · split
    · exact .refl s
    · refine ⟨part_of_beyondGuard (guardOrder_beyondGuard ..), fun hs => ?_⟩
      exact (guardOrder_asleep _ _ v hs).trans (.unit _ _)
  · exact .refl s

theorem wakeGuard_of_setup (p : Nat) (hs : s.part.state = .setup) : wakeGuard p s = s := by
  unfold wakeGuard
  rw [hs]

theorem modLine_operating_asleep (l : LineId) (x : LineRec → Bool) (s : State) :
    Asleep s (s.modLine l fun r => { r with operating := x r }) := by
  refine ⟨.of_queues (by cases l <;> rfl) (by cases l <;> rfl) (by cases l <;> rfl), fun m => ?_⟩
  cases l <;> cases m <;> rfl

theorem deriveOperating_asleep (l : LineId) (hs : s.part.state = .setup) : Asleep s (deriveOperating l s) := by
  rw [deriveOperating_of_setup hs]
  split
  · exact modLine_operating_asleep l _ s
  · exact .refl s

theorem wakeLines_dormant (p : Nat) (s : State) : Dormant s (wakeLines p s) := by
  have hline (l : LineId) (t : State) : Dormant t (if (t.line l).opPoint = p then deriveOperating l t else t) := by
    split
    · exact ⟨part_of_beyondWake (deriveOperating_beyondWake l t), deriveOperating_asleep l⟩
    · exact .refl t
  exact (hline .a s).trans (hline .b _)

theorem wakeDispatch_dormant (p : Nat) (s : State) : Dormant s (wakeDispatch p s) := by
  have hinput (i : ReqInput) (t : State) : Dormant t (wakeInput p i t) := by
    unfold wakeInput
    split
    · exact .of_asleep rfl (.unit _ t)
    · exact .refl t
  have htrip (t : State) : Dormant t (wakeTripSeen p t) := by
    unfold wakeTripSeen
    split
    · exact .of_asleep rfl (.unit _ t)
    · exact .refl t
  have hdemands (t : State) : Dormant t (wakeDemands p t) := by
    unfold wakeDemands
    simp only
    split
    · exact .of_asleep rfl (.unit _ t)
    · exact .refl t
  unfold wakeDispatch
  split
  · exact (((((hinput _ s).trans (hinput _ _)).trans (hinput _ _)).trans (htrip _)).trans (hdemands _)).trans
      (.of_beyondAttention (followDispatch_beyondAttention _))
  · exact .refl s

theorem writeSelf_dormant (p : Nat) (v : Value) (s : State) : Dormant s (writeSelf p v s) := by
  refine ⟨writeSelf_part p v s, fun hs => ?_⟩
  have hreport (a b : Value × Quality) (t : State) : Asleep t (reportSelf p a b t) := by
    unfold reportSelf
    split
    · exact .of_beyondUpstream (handUpstream_beyondUpstream _ t)
    · exact .refl t
  have hstored : Asleep s (storeUpdate p v .good s) := .modPoint p _ s
  have hlines := (wakeLines_dormant p (storeUpdate p v .good s)).trans (wakeDispatch_dormant p _)
  unfold writeSelf pointEvent wakeConsumers
  simp only
  rw [wakeGuard_of_setup (s := storeUpdate p v .good s) p hs]
  exact ((hstored.trans (hlines.2 hs)).trans (hreport _ _ _)).trans (serve_asleep _)

theorem cycleFrame_dormant : CycleFrame Dormant where
  refl := .refl
  trans := .trans
  serve := serve_dormant
  handed := handAll_induct .refl .trans handOutput_dormant serve_dormant
  unit := fun s d _ => .of_asleep rfl (.unit d s)
  conditions := fun s => .of_beyondAttention (followDispatch_beyondAttention s)
  written := fun p v s _ => writeSelf_dormant p v s

theorem settle_dormant (s : State) : Dormant s (settle s) := cycleFrame_dormant.settle s

theorem publish_dormant (p : Option Nat) (v : Value) (s : State) : Dormant s (publish p v s) := by
  unfold publish
  split
  · exact .refl s
  · exact writeSelf_dormant _ v s

theorem enterStopped_dormant (s : State) : Dormant s (enterStopped s) := by
  unfold enterStopped
  split
  · exact .refl s
  · refine .trans (.trans (cycleFrame_dormant.unit s _ ?_) (cycleFrame_dormant.conditions _))
      (cycleFrame_dormant.publishState _)
    rfl

end

end Sys2Proof.Machine
end

section
namespace Sys2Proof.Machine
open Sys2Proof

section
variable {s t : State}

/-! ### The cut of every channel -/

/-- A channel that STOP has cut: its half-hour and its day closed as CUT (R113, R114). -/
def Channel.cut (signature : Nat) (ch : Channel) : Channel := (ch.closedHalf true).closedDay true signature

theorem halfRecord_cut_average (ch : Channel) : (halfRecord true ch).average = none := rfl

/-- A half-hour closed as CUT writes no average point (R113). -/
theorem closeHalf_cut (c : Nat) (s : State) : closeHalf true c s = s.modChannel c (·.closedHalf true) := by
  rw [closeHalf_eq, halfRecord_cut_average]

theorem cutAll_acted (s : State) : ChannelsActed (openChannels s) (·.cut s.part.signature) s (cutAll s) := by
  refine foldl_channelsActed (f := fun t c => closeDay true c (closeHalf true c t)) (I := fun t => t.part = s.part)
    (fun t c ht => ?_) (fun t c ht => ?_) (openChannels_nodup s) rfl
  · rw [closeHalf_cut]
    exact ht
  · rw [← ht, closeHalf_cut]
    simp only [closeDay, State.modChannel, List.modify_modify_eq]
    rfl

theorem cutAll_beyondEmission (s : State) : beyondEmission (cutAll s) = beyondEmission s :=
  foldl_keeps beyondEmission _ (fun t c => by rw [closeHalf_cut]; rfl) _ s

theorem idleAll_beyondEmission (s : State) : beyondEmission (idleAll s) = beyondEmission s := rfl

theorem idleAll_channel (s : State) (c : Nat) : (idleAll s).channel c = { s.channel c with
    run := .idle (s.channel c).run.warnLevel (s.channel c).run.concClamp (s.channel c).run.countFull } := by
  simp only [State.channel, idleAll, List.getD_eq_getElem?_getD, List.getElem?_map]
  cases s.emission.channels[c]? <;> rfl

/-- A channel as STOP leaves it. -/
theorem stopped_channel {c : Nat} (hc : c < s.emission.channels.length) :
    let x := if c ∈ openChannels s then (s.channel c).cut s.part.signature else s.channel c
    (idleAll (cutAll s)).channel c = { x with
      run := .idle (s.channel c).run.warnLevel (s.channel c).run.concClamp (s.channel c).run.countFull } := by
  rw [idleAll_channel, (cutAll_acted s).acted c hc]
  split <;> rfl

theorem idleAll_lines (s : State) (l : LineId) : (idleAll s).line l = s.line l := by
  cases l <;> rfl

/-- The cut reaches the emission unit alone. -/
theorem stopped_rests (s : State) :
    (idleAll (cutAll s)).guard = s.guard ∧ (idleAll (cutAll s)).fwd = s.fwd ∧
      (idleAll (cutAll s)).recorder = s.recorder ∧ (idleAll (cutAll s)).attention = s.attention ∧
      (idleAll (cutAll s)).part = s.part ∧ (idleAll (cutAll s)).dispatch = s.dispatch := by
  have h := (idleAll_beyondEmission (cutAll s)).trans (cutAll_beyondEmission s)
  exact ⟨(congrArg State.guard h :), (congrArg State.fwd h :), (congrArg State.recorder h :),
    (congrArg State.attention h :), (congrArg State.part h :), (congrArg State.dispatch h :)⟩

/-! ### The lines after the cut -/

/-- With every channel IDLE no channel warns or latches (R95). -/
def ChannelsCalm (s : State) : Prop := ∀ c ∈ s.emission.channels, c.run.latch = false ∧ c.run.warn = false

theorem idleAll_calm (s : State) : ChannelsCalm (idleAll s) := by
  intro c hc
  obtain ⟨c', -, rfl⟩ := List.mem_map.mp hc
  exact ⟨rfl, rfl⟩

theorem emissionStateOf_of_idle (h : ChannelsCalm s) (l : LineId) : emissionStateOf s l = .normal := by
  have hnone {f : Channel → Bool} (hf : ∀ c ∈ s.emission.channels, f c = false) :
      (enforcingChannels s l).any f = false :=
    List.any_eq_false.mpr fun c hc => by rw [hf c (List.mem_of_mem_filter hc)]; exact Bool.false_ne_true
  unfold emissionStateOf
  rw [hnone fun c hc => (h c hc).1, hnone fun c hc => (h c hc).2]
  rfl

/-- A line's state as STOP derives it: NORMAL where the line is configured (R114 step 3). -/
theorem stateStored_state (h : ChannelsCalm s) (l m : LineId) :
    ((stateStored l s).line m).state = if m = l then .normal else (s.line m).state := by
  rw [stateStored, emissionStateOf_of_idle h]
  cases l <;> cases m <;> rfl

theorem stateStored_rested (l : LineId) (s : State) : Rested s (stateStored l s) :=
  .of_queues (by cases l <;> rfl) (by cases l <;> rfl) (by cases l <;> rfl)

theorem followEmission_beyondAttention (s : State) : beyondAttention (followEmission s) = beyondAttention s :=
  (setCondition_beyondAttention ..).trans (setCondition_beyondAttention ..)

/-- What STOP derives for a line follows its stored state asleep. -/
theorem deriveEmission_calm (h : ChannelsCalm s) (l : LineId) (hc : (s.line l).configured = true)
    (hs : s.part.state = .setup) : Asleep (stateStored l s) (deriveEmission true l s) := by
  have hcalm : ¬(emissionStateOf s l = .restrict ∧ (s.line l).state ≠ .restrict) := by
    rw [emissionStateOf_of_idle h]
    exact fun h => nomatch h.1
  have htaken : Dormant (stateStored l s) (stateTaken l s) := by
    rw [stateTaken, if_neg hcalm]
    exact .of_beyondAttention (followEmission_beyondAttention _)
  have hpart : (stateStored l s).part.state = .setup := by rw [stateStored, State.modLine_part, hs]
  rw [deriveEmission_eq, if_pos hc, Bool.true_or, if_pos rfl]
  exact ((htaken.trans (publish_dormant _ _ _)).trans (settle_dormant _)).2 hpart

/-- STOP's derivation of one line: the line is NORMAL if it is configured, the other as it was (R114 step 3). -/
structure LineCalmed (l : LineId) (s t : State) : Prop extends Rested s t where
  part  : t.part = s.part
  own   : (s.line l).configured = true → (t.line l).state = .normal
  other : ∀ m, m ≠ l → (t.line m).state = (s.line m).state
  plan  : ∀ m, (t.line m).configured = (s.line m).configured

theorem configured_of_beyondWake (h : beyondWake t = beyondWake s) (m : LineId) :
    (t.line m).configured = (s.line m).configured := by
  cases m
  · exact (congrArg (·.emission.lineA.configured) h :)
  · exact (congrArg (·.emission.lineB.configured) h :)

theorem deriveEmission_calms (h : ChannelsCalm s) (l : LineId) (hs : s.part.state = .setup) :
    LineCalmed l s (deriveEmission true l s) := by
  have hwake := deriveEmission_beyondWake true l s
  by_cases hc : (s.line l).configured = true
  · have hasleep := deriveEmission_calm h l hc hs
    refine ⟨(stateStored_rested l s).trans hasleep.toRested, part_of_beyondWake hwake, fun _ => ?_, fun m hm => ?_,
      configured_of_beyondWake hwake⟩
    · rw [hasleep.lines, stateStored_state h, if_pos rfl]
    · rw [hasleep.lines, stateStored_state h, if_neg hm]
  · rw [deriveEmission_eq, if_neg hc]
    exact ⟨.of_queues rfl rfl rfl, rfl, fun h => absurd h hc, fun _ _ => rfl, fun _ => rfl⟩

/-- The two lines as STOP derives them. -/
theorem linesStop_calm (h : ChannelsCalm s) (hs : s.part.state = .setup) :
    let u := deriveEmission true .b (deriveEmission true .a s)
    Rested s u ∧ u.part = s.part ∧ ∀ l, (s.line l).configured = true → (u.line l).state = .normal := by
  have hA := deriveEmission_calms h .a hs
  have hcalm : ChannelsCalm (deriveEmission true .a s) := by
    rw [ChannelsCalm, hA.channels]
    exact h
  have hB := deriveEmission_calms hcalm .b (by rw [hA.part]; exact hs)
  refine ⟨hA.toRested.trans hB.toRested, hB.part.trans hA.part, fun l hl => ?_⟩
  cases l with
  | a => rw [hB.other .a (by decide), hA.own hl]
  | b => exact hB.own (by rw [hA.plan]; exact hl)

end

end Sys2Proof.Machine
end

section
namespace Sys2Proof.Machine
open Sys2Proof

section
variable {s t : State}

/-! ### The flags of STOP's emission action -/

/-- The state in which STOP raises the flags of its cut. -/
def linesStopped (s : State) : State := deriveEmission true .b (deriveEmission true .a (idleAll (cutAll s)))

theorem linesStopped_flags (s : State) : FlagsKept s (linesStopped s) ∧
    periodFlags (linesStopped s).attention = periodFlags s.attention := by
  obtain ⟨-, -, -, hattention, -, -⟩ := stopped_rests s
  refine ⟨?_, ?_⟩
  · exact deriveEmission_flagsKept true .b (deriveEmission_flagsKept true .a (.of_flags (by rw [hattention])))
  · simp [linesStopped]

/-- A channel that STOP cuts gives cause for PERIOD-CLOSED, its record being CUT (R109). -/
theorem cutAll_givesCause {c : Nat} (hn : s.emission.channels.length = Config.channels) (hc : c ∈ openChannels s) :
    givesCause ((cutAll s).channel c) = true := by
  rw [(cutAll_acted s).acted c (openChannels_lt hn hc), if_pos hc]
  simp [givesCause, Channel.cut, Channel.closedDay, Channel.closedHalf, halfRecord, Config.halfRingCap]

/-- With no OPEN channel STOP raises no flag. -/
theorem emissionStop_of_closed (h : openChannels s = []) : emissionStop s = linesStopped s := by
  unfold emissionStop
  simp only
  exact if_pos h

theorem emissionStop_of_open (hn : s.emission.channels.length = Config.channels) (h : openChannels s ≠ []) :
    emissionStop s =
      raiseFlag .periodClosed (raiseFlag .dayClosed (raiseFlag .periodCut (linesStopped s))) := by
  obtain ⟨c, hc⟩ := List.exists_mem_of_ne_nil _ h
  have hcause : (openChannels s).any (fun c => givesCause ((cutAll s).channel c)) = true :=
    List.any_eq_true.mpr ⟨c, hc, cutAll_givesCause hn hc⟩
  unfold emissionStop
  simp only
  rw [if_neg h, if_pos hcause]
  rfl

/-- PERIOD-CUT, PERIOD-CLOSED and DAY-CLOSED rise where a channel was OPEN (R109, R114). -/
theorem emissionStop_isSet (hn : s.emission.channels.length = Config.channels)
    (hl : s.attention.flags.length = flagCount) {j : Nat} (h1 : 22 ≤ j) (h2 : j ≤ 24) :
    ((emissionStop s).flag j).isSet = true ↔ (s.flag j).isSet = true ∨ openChannels s ≠ [] := by
  obtain ⟨hkept, hperiod⟩ := linesStopped_flags s
  have hbase := isSet_of_periodFlags hperiod h1 h2
  by_cases h : openChannels s = []
  · rw [emissionStop_of_closed h, hbase]
    simp [h]
  · have hlen (fl : Flag) {u : State} (hu : u.attention.flags.length = flagCount) :
        (raiseFlag fl u).attention.flags.length = flagCount :=
      (raiseFlag_flagsKept fl (.refl u)).length.trans hu
    have hlen0 : (linesStopped s).attention.flags.length = flagCount := hkept.length.trans hl
    rw [emissionStop_of_open hn h, raiseFlag_isSet _ (hlen _ (hlen _ hlen0)), raiseFlag_isSet _ (hlen _ hlen0),
      raiseFlag_isSet _ hlen0]
    have hnamed : Flag.periodClosed.index = j ∨ Flag.dayClosed.index = j ∨ Flag.periodCut.index = j := by
      obtain rfl | rfl | rfl : j = 22 ∨ j = 23 ∨ j = 24 := by omega
      all_goals decide
    simp only [ne_eq, h, not_false_eq_true, or_true, iff_true, Bool.or_eq_true, decide_eq_true_eq]
    tauto

/-- The flags of STOP are no part of what its lines leave. -/
theorem emissionStop_asleep (s : State) : Asleep (linesStopped s) (emissionStop s) := by
  have hraise (fl : Flag) (u : State) : Asleep u (raiseFlag fl u) := .of_beyondAttention (raiseFlag_beyondAttention fl u)
  unfold emissionStop
  simp only
  split
  · exact .refl _
  · split
    · exact ((hraise _ _).trans (hraise _ _)).trans (hraise _ _)
    · exact (hraise _ _).trans (hraise _ _)

/-! ### The guard's STOP action -/

theorem withdrawSteps_outputs (s : State) (l : List Nat) :
    (l.foldl (fun t i => withdrawStep i t) s).guard.recs.map (fun g => (g.state, g.target)) =
      s.guard.recs.map (fun g => (g.state, g.target)) :=
  foldl_keeps (fun t => t.guard.recs.map fun g => (g.state, g.target)) (fun t i => withdrawStep i t)
    (fun t i => (withdrawStep_asleep i t).states) l s

/-- STOP's withdrawals leave each output's state and target (R87). -/
theorem guardStop_outputs (s : State) : (guardStop s).guard.recs.map (fun g => (g.state, g.target)) =
    s.guard.recs.map (fun g => (g.state, g.target)) := by
  have hkept := withdrawSteps_outputs (stopCleared s) (List.range Config.guards)
  simp only [guardStop_eq, stopWithdrawn, withdrawSlots_eq, List.map_map, Function.comp_def]
  exact hkept

theorem withdrawSteps_emission (l : List Nat) (s : State) :
    (l.foldl (fun t i => withdrawStep i t) s).emission = s.emission :=
  (congrArg State.emission (withdrawSteps_beyondSteps l s) :)

theorem withdrawSteps_recorder (l : List Nat) (s : State) :
    (l.foldl (fun t i => withdrawStep i t) s).recorder = s.recorder :=
  (congrArg State.recorder (withdrawSteps_beyondSteps l s) :)

theorem withdrawSteps_attention (l : List Nat) (s : State) :
    (l.foldl (fun t i => withdrawStep i t) s).attention = s.attention :=
  (congrArg State.attention (withdrawSteps_beyondSteps l s) :)

theorem guardStop_emission (s : State) : (guardStop s).emission = s.emission := by
  simp only [guardStop_eq, stopWithdrawn, withdrawSlots_eq, withdrawSteps_emission, stopCleared]

theorem guardStop_recorder (s : State) : (guardStop s).recorder = s.recorder := by
  simp only [guardStop_eq, stopWithdrawn, withdrawSlots_eq, withdrawSteps_recorder, stopCleared]

theorem guardStop_attention (s : State) : (guardStop s).attention = s.attention := by
  simp only [guardStop_eq, stopWithdrawn, withdrawSlots_eq, withdrawSteps_attention, stopCleared]

/-! ### The dispatch unit's and the recorder's STOP actions -/

theorem enterStopped_state (s : State) : (enterStopped s).dispatch.state = .stopped := by
  unfold enterStopped
  split
  · assumption
  · have hstatus := (publishState_holdStatus (followDispatch { s with dispatch := { s.dispatch with
        state := .stopped, timer := none, cause := none, first := false } })).trans
      (holdStatus_of_beyondAttention (followDispatch_beyondAttention _))
    exact (congrArg Prod.fst hstatus :)

theorem recorderStop_beyondRecorder (s : State) : beyondRecorder (recorderStop s) = beyondRecorder s := by
  unfold recorderStop
  split
  · exact freezeRecorder_beyondRecorder s
  · rfl

theorem recorderStop_off (h : s.recorder.state = .off) : (recorderStop s).recorder.state = .off := by
  unfold recorderStop
  rw [h]
  simpa using h

/-- With freeze-on-STOP a recorder that is not OFF is FROZEN after STOP (R160). -/
theorem recorderStop_frozen (hf : s.recorder.cfg.freezeStop = true) (h : s.recorder.state ≠ .off) :
    (recorderStop s).recorder.state = .frozen := by
  unfold recorderStop
  rw [hf]
  cases hs : s.recorder.state with
  | off => exact absurd hs h
  | frozen => simpa using hs
  | armed | post =>
    simp only [reduceCtorEq, decide_true, decide_false, Bool.or_true, Bool.true_or, Bool.and_self, if_true]
    rw [freezeRecorder_recorder]

end

end Sys2Proof.Machine
end

section
namespace Sys2Proof.Machine
open Sys2Proof

section
variable {s : State}

/-! ### STOP of every block -/

/-- The blocks after their STOP actions, the recorder's aside (R191). -/
def blocksStopped (s : State) : State := settle (enterStopped (emissionStop (guardStop s)))

theorem blocksStopped_beyondWake (s : State) : beyondWake (blocksStopped s) = beyondWake s := by
  rw [blocksStopped, settle_beyondWake, enterStopped_beyondWake, emissionStop_beyondWake,
    widen beyondWake_beyondGuard (guardStop_beyondGuard s)]

theorem blocksStopped_rested (hs : s.part.state = .setup) :
    Rested (idleAll (cutAll (guardStop s))) (blocksStopped s) ∧
      ∀ l, (s.line l).configured = true → ((blocksStopped s).line l).state = .normal := by
  have hguard : (guardStop s).part.state = .setup := by rw [guardStop_part, hs]
  obtain ⟨-, -, -, -, hpart, -⟩ := stopped_rests (guardStop s)
  have hcut : (idleAll (cutAll (guardStop s))).part.state = .setup := by rw [hpart, hguard]
  obtain ⟨hlines, hlpart, hnormal⟩ := linesStop_calm (idleAll_calm (cutAll (guardStop s))) hcut
  have hstop : (emissionStop (guardStop s)).part.state = .setup := by
    rw [part_of_beyondWake (emissionStop_beyondWake _), hguard]
  have hend : Asleep (linesStopped (guardStop s)) (blocksStopped s) :=
    (emissionStop_asleep _).trans (((enterStopped_dormant _).trans (settle_dormant _)).2 hstop)
  refine ⟨hlines.trans hend.toRested, fun l hl => (hend.lines l).trans (hnormal l ?_)⟩
  rw [idleAll_lines, (cutAll_acted _).lines, line_of_emission (guardStop_emission s)]
  exact hl

theorem settle_enterStopped_state (s : State) : (settle (enterStopped s)).dispatch.state = .stopped :=
  (congrArg Prod.fst (settle_holdStatus (.inl (enterStopped_state s))) :).trans (enterStopped_state s)

theorem blocksStopped_state (s : State) : (blocksStopped s).dispatch.state = .stopped := by
  rw [blocksStopped, settle_enterStopped_state]

theorem blocksStopped_isSet (hn : s.emission.channels.length = Config.channels)
    (hl : s.attention.flags.length = flagCount) {j : Nat} (h1 : 22 ≤ j) (h2 : j ≤ 24) :
    ((blocksStopped s).flag j).isSet = true ↔ (s.flag j).isSet = true ∨ ∃ c < 16, (s.channel c).run.opened = true := by
  have hperiod : periodFlags (blocksStopped s).attention = periodFlags (emissionStop (guardStop s)).attention := by
    simp [blocksStopped]
  have hopen : openChannels (guardStop s) ≠ [] ↔ ∃ c < 16, (s.channel c).run.opened = true := by
    rw [ne_eq, openChannels_eq_nil]
    simp only [channel_of_emission (guardStop_emission s), not_forall, Bool.not_eq_false, exists_prop]
  rw [isSet_of_periodFlags hperiod h1 h2, emissionStop_isSet (by rw [guardStop_emission]; exact hn)
    (by rw [guardStop_attention]; exact hl) h1 h2, hopen,
    flag_of_flags (congrArg Attention.flags (guardStop_attention s))]

theorem blocksStopped_channel (hs : s.part.state = .setup) {c : Nat} (hc : c < s.emission.channels.length) :
    (blocksStopped s).channel c =
      { if (s.channel c).run.opened = true ∧ c < 16 then (s.channel c).cut s.part.signature else s.channel c with
        run := .idle (s.channel c).run.warnLevel (s.channel c).run.concClamp (s.channel c).run.countFull } := by
  have hrest := (blocksStopped_rested hs).1
  have hemission := guardStop_emission s
  have hmem : c ∈ openChannels (guardStop s) ↔ (s.channel c).run.opened = true ∧ c < 16 := by
    rw [mem_openChannels, channel_of_emission hemission, and_comm]
  have hcut := stopped_channel (s := guardStop s) (c := c) (by rw [hemission]; exact hc)
  rw [State.channel, hrest.channels, ← State.channel, hcut]
  simp only [hmem, channel_of_emission hemission, guardStop_part]

/-- The part as STOP takes it from RUN into SETUP (R191). -/
def setupEntered (s : State) : State := { s with part := { s.part with state := .setup } }

/-- STOP brings the part to rest (R191). -/
theorem stopActions_eq (s : State) : stopActions s = recorderStop (blocksStopped (setupEntered s)) := by
  rw [stopActions, blocksStopped, setupEntered]

/-- The part after a STOP, with what it placed served. -/
def partStopped (s : State) : State := serve (recorderStop (blocksStopped s))

theorem partStopped_beyondWake (s : State) : beyondWake (partStopped s) = beyondWake s := by
  rw [partStopped, serve_beyondWake, widen beyondWake_beyondRecorder (recorderStop_beyondRecorder _),
    blocksStopped_beyondWake]

theorem recorderStop_guard (s : State) : (recorderStop s).guard = s.guard :=
  (congrArg State.guard (recorderStop_beyondRecorder s) :)

theorem recorderStop_fwd (s : State) : (recorderStop s).fwd = s.fwd :=
  (congrArg State.fwd (recorderStop_beyondRecorder s) :)

theorem recorderStop_dispatch (s : State) : (recorderStop s).dispatch = s.dispatch :=
  (congrArg State.dispatch (recorderStop_beyondRecorder s) :)

theorem partStopped_part (s : State) : (partStopped s).part = s.part := part_of_beyondWake (partStopped_beyondWake s)

theorem partStopped_emission (s : State) : (partStopped s).emission = (blocksStopped s).emission :=
  (serve_emission _).trans (emission_of_beyondRecorder (recorderStop_beyondRecorder _))

theorem partStopped_nothingWaits (hs : s.part.state = .setup) (hsteps : ∀ p ∈ s.guard.steps, p.record < Config.guards)
    (hslots : ∀ o ∈ s.dispatch.slots, o.output < 5) : NothingWaits (partStopped s) := by
  have hadmitted : Admitted (partStopped s) := by
    rw [partStopped, blocksStopped]
    exact serve_admitted (blocksStop_admitted hs hsteps hslots)
  exact hadmitted.rest (by rw [partStopped_part, hs])

theorem takeStop_of_run (f : Frame) (hr : s.part.state = .run) :
    takeStop f s = replySetup f .done (partStopped (setupEntered s)) := by
  unfold takeStop
  rw [hr]
  simp only [replyDone, stopActions_eq, partStopped]

/-- What a part at rest keeps of the guard and the queues when it stops. -/
theorem partStopped_rested (hs : s.part.state = .setup) :
    (partStopped s).guard.trips = [] ∧
      (partStopped s).fwd.orders <:+ s.fwd.orders.filter (fun e => !e.isGuarded) ∧
      ∀ i, ((partStopped s).guardRec i).state = (s.guardRec i).state ∧
        ((partStopped s).guardRec i).target = (s.guardRec i).target := by
  obtain ⟨hguard, hfwd, -, -, -, -⟩ := stopped_rests (guardStop s)
  have hrest := (blocksStopped_rested hs).1
  have hserve : Asleep (recorderStop (blocksStopped s)) (partStopped s) := by
    rw [partStopped]
    exact serve_asleep _
  have htrips := hserve.trips
  have horders := hserve.orders
  have hstates := hserve.states
  rw [recorderStop_guard] at htrips hstates
  rw [recorderStop_fwd] at horders
  have htrips' := htrips.trans hrest.trips
  have horders' := horders.trans hrest.orders
  have hstates' := hstates.trans hrest.states
  rw [hguard, guardStop_trips] at htrips'
  rw [hfwd, guardStop_fwd] at horders'
  rw [hguard, guardStop_outputs] at hstates'
  exact ⟨List.suffix_nil.mp htrips', horders', outputs_of_states hstates'⟩

theorem partStopped_mode (hs : s.part.state = .setup) : recorderMode (blocksStopped s) = recorderMode s := by
  obtain ⟨-, -, hrecorder, -, -, -⟩ := stopped_rests (guardStop s)
  rw [(blocksStopped_rested hs).1.mode, recorderMode_of_recorder hrecorder,
    recorderMode_of_recorder (guardStop_recorder s)]

/-- The recorder after a STOP: OFF stays, and freeze-on-STOP freezes another (R160). -/
theorem partStopped_recorder (hs : s.part.state = .setup) :
    (s.recorder.state = .off → (partStopped s).recorder.state = .off) ∧
      (s.recorder.cfg.freezeStop = true → s.recorder.state ≠ .off → (partStopped s).recorder.state = .frozen) := by
  have hmode := partStopped_mode hs
  simp only [recorderMode, Prod.mk.injEq, decide_eq_decide] at hmode
  obtain ⟨hcfg, hoff⟩ := hmode
  rw [partStopped, serve_recorder]
  exact ⟨fun h => recorderStop_off (hoff.mpr h),
    fun hf h => recorderStop_frozen (by rw [hcfg, hf]) fun h' => h (hoff.mp h')⟩

theorem partStopped_channel (hs : s.part.state = .setup) {c : Nat} (hc : c < s.emission.channels.length) :
    (partStopped s).channel c =
      { if (s.channel c).run.opened = true ∧ c < 16 then (s.channel c).cut s.part.signature else s.channel c with
        run := .idle (s.channel c).run.warnLevel (s.channel c).run.concClamp (s.channel c).run.countFull } := by
  rw [channel_of_emission (partStopped_emission s), blocksStopped_channel hs hc]

theorem partStopped_isSet (hn : s.emission.channels.length = Config.channels)
    (hl : s.attention.flags.length = flagCount) {j : Nat} (h1 : 22 ≤ j) (h2 : j ≤ 24) :
    ((partStopped s).flag j).isSet = true ↔ (s.flag j).isSet = true ∨ ∃ c < 16, (s.channel c).run.opened = true := by
  have hperiod : periodFlags (partStopped s).attention = periodFlags (blocksStopped s).attention := by
    rw [partStopped, serve_periodFlags, recorderStop_periodFlags]
  rw [isSet_of_periodFlags hperiod h1 h2, blocksStopped_isSet hn hl h1 h2]

theorem serve_dispatchState (s : State) : (serve s).dispatch.state = s.dispatch.state :=
  (congrArg Prod.fst (holdStatus_of_beyondGuard (serve_beyondGuard s)) :)

theorem enable_of_beyondWake {t : State} (h : beyondWake t = beyondWake s) : t.dispatch.enable = s.dispatch.enable :=
  (congrArg (·.dispatch.enable) h :)

theorem partStopped_state (s : State) : (partStopped s).dispatch.state = .stopped := by
  rw [partStopped, serve_dispatchState, recorderStop_dispatch, blocksStopped_state]

theorem NothingWaits.steps (h : NothingWaits s) : s.guard.steps = [] := List.map_eq_nil_iff.mp h.records

theorem NothingWaits.slots (h : NothingWaits s) : s.dispatch.slots = [] := List.map_eq_nil_iff.mp h.outputs

theorem partStopped_line (hs : s.part.state = .setup) (l : LineId) (hl : (s.line l).configured = true) :
    ((partStopped s).line l).state = .normal := by
  rw [line_of_emission (partStopped_emission s), (blocksStopped_rested hs).2 l hl]

end

/-- Settles O48: in SETUP, which STOP enters first, the guard, the channels and the lines sleep (`Asleep`) through all
that follows the withdrawal and the cut; the withdrawn orders stay away (`NothingWaits`). -/
theorem stopWithdrawsAndCuts : Obligations.StopWithdrawsAndCuts := by
  intro f s hs hb t
  have hexec : exec (.stop f) s = .next (serve (takeStop f t)) := exec_of_takes (act := takeStop f) rfl hs
  have htpart : t.part = s.part := taken_part .sPort f s
  refine ⟨fun hsetup => ?_, fun hrun => ?_⟩
  · rw [hexec, takeStop, htpart, hsetup]
  · have hfits : Fits 16 32 t := taken_fits .sPort f (fits_of_bounded hb)
    have hemission : (setupEntered t).emission = s.emission := taken_emission .sPort f s
    have hvpart : (setupEntered t).part = { s.part with state := .setup } := by rw [setupEntered, htpart]
    have hnothing := partStopped_nothingWaits (s := setupEntered t) rfl hfits.guard.stepsOf hfits.slots.outputs
    obtain ⟨htrips, horders, houtputs⟩ := partStopped_rested (s := setupEntered t) rfl
    have hwake := partStopped_beyondWake (setupEntered t)
    have hpart := (partStopped_part (setupEntered t)).trans hvpart
    have hchannel {c : Nat} (hc : c < 16) := partStopped_channel (s := setupEntered t) rfl (c := c)
      (by rw [hemission, hb.channels]; exact hc)
    have hset {j : Nat} (h1 : 22 ≤ j) (h2 : j ≤ 24) :
        ((partStopped (setupEntered t)).flag j).isSet = true ↔
          (s.flag j).isSet = true ∨ ∃ c < 16, (s.channel c).run.opened = true := by
      rw [partStopped_isSet (s := setupEntered t) (by rw [hemission]; exact hb.channels) hfits.attention.flags h1 h2,
        isSet_of_periodFlags (t := setupEntered t) (taken_periodFlags .sPort f s) h1 h2]
      simp only [channel_of_emission hemission]
    have hrecs : (setupEntered t).guard.recs = s.guard.recs := taken_recs .sPort f s
    have hmode : recorderMode (setupEntered t) = recorderMode s := taken_mode .sPort f s
    simp only [recorderMode, Prod.mk.injEq, decide_eq_decide] at hmode
    obtain ⟨hcfg, hoff⟩ := hmode
    obtain ⟨hstaysOff, hfreezes⟩ := partStopped_recorder (s := setupEntered t) rfl
    have hdispatch : (setupEntered t).dispatch.enable = s.dispatch.enable :=
      congrArg (·.dispatch.enable) (taken_standing .sPort f s)
    refine ⟨partStopped (setupEntered t), ?_, hpart, ?_, htrips, hnothing.steps, hnothing.slots, horders, hnothing.ramps,
      fun i => ?_, fun c hc => ?_, fun c hc ho => ?_, fun j h1 h2 => hset h1 h2, fun l hl => ?_,
      partStopped_state _, (enable_of_beyondWake hwake).trans hdispatch, fun h => hstaysOff (hoff.mpr h), fun hf hon => ?_⟩
    · rw [hexec, takeStop_of_run f (by rw [htpart, hrun])]
    · rw [hwake, hpart, ← hvpart]
      rfl
    · rw [← guardRec_of_recs hrecs]
      exact houtputs i
    · rw [hchannel hc, channel_of_emission hemission]
    · have hopen : ∃ c < 16, (s.channel c).run.opened = true := ⟨c, hc, ho⟩
      rw [hchannel hc, channel_of_emission hemission, if_pos ⟨ho, hc⟩, hvpart]
      exact ⟨rfl, rfl, (hset (by decide) (by decide)).mpr (.inr hopen), (hset (by decide) (by decide)).mpr (.inr hopen)⟩
    · exact partStopped_line (s := setupEntered t) rfl l (by rw [line_of_emission hemission]; exact hl)
    · exact hfreezes (by rw [hcfg, hf]) fun h => hon (hoff.mp h)

end Sys2Proof.Machine
end

section
namespace Sys2Proof.Machine
open Sys2Proof

/-! ### The first of a list of checks that fails -/

/-- `r` is the failure of the first check of a list that does not hold, none where all hold. -/
def Answers : List (Failure × Prop) → Option Failure → Prop
  | [], r => r = none
  | (e, ok) :: rest, r => (ok → Answers rest r) ∧ (¬ok → r = some e)

theorem Answers.passes {cs : List (Failure × Prop)} {r : Option Failure} (h : Answers cs r)
    (hall : ∀ x ∈ cs, x.2) : r = none := by
  induction cs with
  | nil => exact h
  | cons c rest ih =>
    exact ih (h.1 (hall c List.mem_cons_self)) fun x hx => hall x (List.mem_cons_of_mem _ hx)

theorem Answers.fails {pre post : List (Failure × Prop)} {e : Failure} {ok : Prop} {r : Option Failure}
    (h : Answers (pre ++ (e, ok) :: post) r) (hpre : ∀ x ∈ pre, x.2) (hok : ¬ok) : r = some e := by
  induction pre with
  | nil => exact h.2 hok
  | cons c rest ih =>
    exact ih (h.1 (hpre c List.mem_cons_self)) fun x hx => hpre x (List.mem_cons_of_mem _ hx)

/-- A later group of checks need only be answered where the earlier ones all hold. -/
theorem Answers.append {cs ds : List (Failure × Prop)} {r q : Option Failure} (h : Answers cs r)
    (hd : (∀ x ∈ cs, x.2) → Answers ds q) : Answers (cs ++ ds) (r <|> q) := by
  induction cs with
  | nil =>
    obtain rfl : r = none := h
    exact hd (by simp)
  | cons c rest ih =>
    obtain ⟨e, ok⟩ := c
    exact ⟨fun hok => ih (h.1 hok) fun hall => hd (by simpa using ⟨hok, by simpa using hall⟩),
      fun hok => by rw [h.2 hok]; rfl⟩

theorem answers_findSome {α : Type} {f : α → List (Failure × Prop)} {check : α → Option Failure} {l : List α}
    (h : ∀ i ∈ l, Answers (f i) (check i)) : Answers (l.flatMap f) (l.findSome? check) := by
  induction l with
  | nil => exact rfl
  | cons a l ih =>
    have hrest := (h a List.mem_cons_self).append fun _ => ih fun i hi => h i (List.mem_cons_of_mem _ hi)
    rw [List.flatMap_cons, List.findSome?_cons]
    cases hc : check a <;> simpa [hc] using hrest

/-- One check of a record with its boolean form. -/
theorem Answers.check {table index : Nat} {b : Bool} {reason : Reason} {ok : Prop} {rest : List (Failure × Prop)}
    {bs : List (Bool × Reason)} (hok : b = true ↔ ok) (h : Answers rest (firstFailed table index bs)) :
    Answers ((⟨table, index, reason⟩, ok) :: rest) (firstFailed table index ((b, reason) :: bs)) := by
  refine ⟨fun hp => ?_, fun hp => ?_⟩
  · simpa [firstFailed, hok.2 hp] using h
  · simp [firstFailed, mt hok.1 hp]

theorem Answers.done {table index : Nat} : Answers [] (firstFailed table index []) := rfl

/-- The checks of a record that takes them only under a condition. -/
theorem Answers.ite {c : Prop} [Decidable c] {cs : List (Failure × Prop)} {r : Option Failure}
    (h : c → Answers cs r) : Answers (if c then cs else []) (if c then r else none) := by
  by_cases hc : c
  · simpa [hc] using h hc
  · simp [hc, Answers]

end Sys2Proof.Machine
end

section
namespace Sys2Proof.Machine
open Sys2Proof

section
variable (s : State)

/-! ### The checks of R188, one group for each order -/

/-- A point that is in the table and configured. -/
def Known (p : Nat) : Prop := p < 1024 ∧ (s.point p).configured = true

/-- A known point that the part itself owns. -/
def KnownSelf (p : Nat) : Prop := Known s p ∧ (s.point p).owner = .self

/-- Order 1. -/
def windowChecks (i : Nat) : List (Failure × Prop) :=
  let w := s.fwd.window i
  [(⟨2, i, .overlap⟩, ∀ j < i, w.enable = true → (s.fwd.window j).enable = true →
      w.limit < (s.fwd.window j).base ∨ (s.fwd.window j).limit < w.base),
   (⟨2, i, .holdsPart⟩, w.enable = true →
      s.part.station = 0 ∨ s.part.station = 255 ∨ s.part.station < w.base ∨ w.limit < s.part.station)]

/-- Order 2. -/
def collectorChecks : List (Failure × Prop) :=
  [(⟨0, 0, .collectorSide⟩, s.part.collector = 0 ∨
    fieldSide s s.part.collector = false ∧ s.part.collector ≠ s.part.station)]

/-- Order 3. -/
def guardChecks (i : Nat) : List (Failure × Prop) :=
  let g := s.guardRec i
  if g.configured then
    [(⟨5, i, .pointUnconfigured⟩, Known s g.point),
     (⟨5, i, .ownerNotField⟩, ∃ n, (s.point g.point).owner = .station n ∧ fieldSide s n = true),
     (⟨5, i, .duplicatePoint⟩, ∀ j < i, (s.guardRec j).configured = true → (s.guardRec j).point ≠ g.point),
     (⟨5, i, .limitOrder⟩, g.low ≤ g.rhigh ∧ g.rhigh ≤ g.high),
     (⟨5, i, .safeRange⟩, g.low ≤ g.safe ∧ g.safe ≤ g.high ∧ (g.restricted = true → g.safe ≤ g.rhigh)),
     (⟨5, i, .lineMissing⟩, g.restricted = true → ∃ l, g.line = some l ∧ (s.line l).configured = true),
     (⟨5, i, .rampStep⟩, g.rate = 0 ∨ 1000 ≤ g.rate * g.interval),
     (⟨5, i, .termPoint⟩, ∀ t ∈ g.terms, t.used = true → Known s t.point)]
  else []

/-- Order 4. -/
def lineChecks (i : Nat) : List (Failure × Prop) :=
  let l := s.line (lineOfIndex i)
  if l.configured then
    [(⟨6, i, .pointUnconfigured⟩, Known s l.opPoint),
     (⟨6, i, .notSelf⟩, ∀ p, l.statePoint = some p → KnownSelf s p)]
  else []

/-- Order 5. -/
def channelChecks (i : Nat) : List (Failure × Prop) :=
  let c := (s.channel i).cfg
  if c.configured then
    [(⟨7, i, .lineMissing⟩, (s.line c.line).configured = true),
     (⟨7, i, .pointUnconfigured⟩, Known s c.pollutant ∧ Known s c.o2 ∧ ∀ p, c.h2o = some p → Known s p),
     (⟨7, i, .samePoint⟩, c.pollutant ≠ c.o2 ∧ c.h2o ≠ some c.pollutant),
     (⟨7, i, .o2Cap⟩, c.o2Ref < c.o2Cap),
     (⟨7, i, .notSelf⟩, ∀ p, c.avgPoint = some p → KnownSelf s p)]
  else []

/-- The published points of the dispatch table that are there. -/
def publishedPoints : List Nat :=
  s.dispatch.cfg.steamPoint.toList ++ s.dispatch.cfg.powerPoint.toList ++ s.dispatch.cfg.statePoint.toList

/-- A line's minimum fits under its reduced maximum (R121). -/
def ShareFits (l : LineShare) : Prop := l.min ≤ l.max * l.warn / 100

/-- Order 6. -/
def dispatchChecks : List (Failure × Prop) :=
  let d := s.dispatch.cfg
  if d.configured then
    [(⟨8, 0, .pointUnconfigured⟩, Known s d.fa ∧ Known s d.fb ∧ Known s d.trip),
     (⟨8, 0, .notSelf⟩, KnownSelf s d.heat ∧ KnownSelf s d.grid ∧ ∀ p ∈ publishedPoints s, KnownSelf s p),
     (⟨8, 0, .outputNotGuarded⟩, ∀ p ∈ d.outputs, ∃ i < 96, (s.guardRec i).configured = true ∧
       (s.guardRec i).point = p ∧ (s.guardRec i).owner ≠ .supervisory),
     (⟨8, 0, .duplicatePoint⟩, d.outputs.Nodup),
     (⟨8, 0, .turbineRange⟩, d.turbineMin ≤ d.turbineMax),
     (⟨8, 0, .lineMinimum⟩, ShareFits d.lineA ∧ ShareFits d.lineB)]
  else []

/-- Order 7. -/
def ownerChecks (i : Nat) : List (Failure × Prop) :=
  let g := s.guardRec i
  if g.configured = true ∧ g.owner = .dispatch then
    [(⟨5, i, .dispatchOwner⟩, s.dispatch.cfg.configured = true ∧ g.point ∈ s.dispatch.cfg.outputs)]
  else []

/-- Order 8: a use of a point, against the uses before it. -/
def sharedChecks (uses : List (Nat × Nat × Nat)) : List (Failure × Prop) :=
  (List.range uses.length).flatMap fun k => uses[k]?.toList.map fun u =>
    (⟨u.1, u.2.1, .publishedShared⟩, ∀ j < k, ∀ v, uses[j]? = some v → v.2.2 ≠ u.2.2)

/-! ### Each group answers as the model's check -/

variable {s}

theorem known_iff {p : Nat} : configuredPoint s p = true ↔ Known s p := configuredPoint_iff

theorem selfPoint_iff {p : Nat} : selfPoint s p = true ↔ KnownSelf s p := by
  simp [selfPoint, KnownSelf, known_iff]

theorem absentOr_iff {check : Nat → Bool} {P : Nat → Prop} (h : ∀ p, check p = true ↔ P p) (o : Option Nat) :
    absentOr check o = true ↔ ∀ p, o = some p → P p := by
  cases o <;> simp [absentOr, h]

theorem windowChecks_answers (i : Nat) : Answers (windowChecks s i) (checkWindow s i) := by
  refine .check ?_ (.check ?_ .done)
  · simp only [List.all_eq_true, List.mem_range, Window.overlaps]
    refine forall₂_congr fun j _ => ?_
    cases (s.fwd.window i).enable <;> cases (s.fwd.window j).enable <;> simp
    omega
  · cases he : (s.fwd.window i).enable <;> simp [Window.holds, he]
    omega

theorem collectorChecks_answers : Answers (collectorChecks s) (checkPart s) :=
  .check (by simp) .done

theorem fieldOwned_iff {p : Nat} :
    fieldOwned s p = true ↔ ∃ n, (s.point p).owner = .station n ∧ fieldSide s n = true := by
  unfold fieldOwned
  cases (s.point p).owner <;> simp

theorem guardLineConfigured_iff {g : GuardRec} :
    guardLineConfigured s g = true ↔ ∃ l, g.line = some l ∧ (s.line l).configured = true := by
  unfold guardLineConfigured
  cases g.line <;> simp

theorem not_or_iff_imp {b c : Bool} {P : Prop} (h : c = true ↔ P) : (!b || c) = true ↔ (b = true → P) := by
  cases b <;> simp [h]

theorem guardChecks_answers (i : Nat) : Answers (guardChecks s i) (checkGuard s i) := by
  refine .ite fun _ => .check known_iff <| .check fieldOwned_iff <| .check ?_ <| .check (by simp) <|
    .check ?_ <| .check (not_or_iff_imp guardLineConfigured_iff) <| .check (by simp) <| .check ?_ .done
  · simp [imp_iff_not_or]
  · simp [and_assoc, imp_iff_not_or]
  · simp only [List.all_eq_true, not_or_iff_imp known_iff]

theorem lineChecks_answers (i : Nat) : Answers (lineChecks s i) (checkLine s i) :=
  .ite fun _ => .check known_iff <| .check (absentOr_iff (fun _ => selfPoint_iff) _) .done

theorem channelChecks_answers (i : Nat) : Answers (channelChecks s i) (checkChannel s i) := by
  refine .ite fun _ => .check Iff.rfl <| .check ?_ <| .check ?_ <| .check (by simp) <|
    .check (absentOr_iff (fun _ => selfPoint_iff) _) .done
  · simp only [Bool.and_eq_true, known_iff, absentOr_iff (fun _ => known_iff), and_assoc]
  · rw [Bool.and_eq_true, decide_eq_true_eq, decide_eq_true_eq, ne_comm (a := some _)]

/-- With no two configured guard records on one point, the guard's lookup finds any record of a point (R71, R121). -/
theorem dispatchGuarded_iff (hdup : ∀ i < 96, (s.guardRec i).configured = true →
    ∀ j < i, (s.guardRec j).configured = true → (s.guardRec j).point ≠ (s.guardRec i).point) {p : Nat} :
    dispatchGuarded s p = true ↔ ∃ i < 96, (s.guardRec i).configured = true ∧
      (s.guardRec i).point = p ∧ (s.guardRec i).owner ≠ .supervisory := by
  constructor
  · intro h
    unfold dispatchGuarded at h
    split at h
    · cases h
    next i hi =>
      obtain ⟨hc, hp⟩ := guardOf_names hi
      exact ⟨i, List.mem_range.mp (List.mem_of_find?_eq_some hi), hc, hp, by simpa using h⟩
  · rintro ⟨i, hi, hc, hp, ho⟩
    have hfound : guardOf s p = some i :=
      guardOf_eq_some hi hc hp fun j hj ⟨hcj, hpj⟩ => hdup i hi hc j hj hcj (hpj.trans hp.symm)
    simp [dispatchGuarded, hfound, ho]

theorem all_published_iff : s.dispatch.cfg.published.all (absentOr (selfPoint s)) = true ↔
    ∀ p ∈ publishedPoints s, KnownSelf s p := by
  simp only [DispatchCfg.published, publishedPoints, List.all_cons, List.all_nil, Bool.and_true, Bool.and_eq_true,
    absentOr_iff (fun _ => selfPoint_iff), List.mem_append, Option.mem_toList]
  grind

theorem dispatchChecks_answers (hdup : ∀ i < 96, (s.guardRec i).configured = true →
    ∀ j < i, (s.guardRec j).configured = true → (s.guardRec j).point ≠ (s.guardRec i).point) :
    Answers (dispatchChecks s) (checkDispatch s) := by
  refine .ite fun _ => .check ?_ <| .check ?_ <| .check ?_ <| .check (by simp) <| .check (by simp) <|
    .check ?_ .done
  · simp only [Bool.and_eq_true, known_iff, and_assoc]
  · simp only [Bool.and_eq_true, selfPoint_iff, all_published_iff, and_assoc]
  · simp only [List.all_eq_true, dispatchGuarded_iff hdup]
  · simp [LineShare.fits, ShareFits]

theorem ownerChecks_answers (i : Nat) : Answers (ownerChecks s i) (checkDispatchOwner s i) := by
  unfold ownerChecks checkDispatchOwner
  simp only [Bool.and_eq_true, decide_eq_true_eq]
  exact .ite fun _ => .check (by simp) .done

end
end Sys2Proof.Machine
end

section
namespace Sys2Proof.Machine
open Sys2Proof

section
variable {s : State}

/-! ### One use of each published point -/

def PointUse.coded (u : PointUse) : Nat × Nat × Nat := (u.table, u.index, u.point)

/-- A use of a point, against the uses before it. -/
def useShared (uses : List PointUse) (k : Nat) : Option Failure :=
  uses[k]?.bind fun u => if (uses.take k).any (fun v => decide (v.point = u.point)) then
    some ⟨u.table, u.index, .publishedShared⟩ else none

theorem firstShared_eq (seen rest : List PointUse) :
    firstShared seen rest = (List.range rest.length).findSome? fun k => useShared (seen ++ rest) (seen.length + k) := by
  induction rest generalizing seen with
  | nil => rfl
  | cons u rest ih =>
    have hfirst : useShared (seen ++ u :: rest) (seen.length + 0) =
        if seen.any (fun v => decide (v.point = u.point)) then some ⟨u.table, u.index, .publishedShared⟩ else none := by
      simp [useShared]
    rw [firstShared, List.length_cons, List.range_succ_eq_map, List.findSome?_cons, hfirst, List.findSome?_map]
    by_cases hu : seen.any (fun v => decide (v.point = u.point)) = true
    · rw [if_pos hu, if_pos hu]
    · rw [if_neg hu, if_neg hu, ih]
      simp [Function.comp_def, Nat.add_comm, Nat.add_left_comm]

theorem useShared_answers (uses : List PointUse) (k : Nat) :
    Answers ((uses.map PointUse.coded)[k]?.toList.map fun u =>
      (⟨u.1, u.2.1, .publishedShared⟩, ∀ j < k, ∀ v, (uses.map PointUse.coded)[j]? = some v → v.2.2 ≠ u.2.2))
      (useShared uses k) := by
  cases hk : uses[k]? with
  | none => simp [useShared, hk, Answers]
  | some u =>
    have hany : (uses.take k).any (fun v => decide (v.point = u.point)) = true ↔
        ¬∀ j < k, ∀ v, uses[j]?.map PointUse.coded = some v → v.2.2 ≠ u.coded.2.2 := by
      simp only [List.any_eq_true, decide_eq_true_eq, List.mem_iff_getElem?, List.getElem?_take,
        Option.ite_none_right_eq_some, Option.map_eq_some_iff, PointUse.coded]
      push Not
      constructor
      · rintro ⟨v, ⟨j, hj, hv⟩, hp⟩
        exact ⟨j, hj, _, ⟨v, hv, rfl⟩, hp⟩
      · rintro ⟨j, hj, _, ⟨v, hv, rfl⟩, hp⟩
        exact ⟨v, ⟨j, hj, hv⟩, hp⟩
    simp only [useShared, hk, List.getElem?_map, Option.map_some, Option.toList_some, List.map_cons, List.map_nil,
      Option.bind_some]
    exact ⟨fun hok => if_neg fun h => hany.1 h hok, fun hno => if_pos (hany.2 hno)⟩

theorem sharedChecks_answers (uses : List PointUse) :
    Answers (sharedChecks (uses.map PointUse.coded)) (firstShared [] uses) := by
  rw [firstShared_eq, sharedChecks, List.length_map]
  refine answers_findSome fun k _ => ?_
  simpa using useShared_answers uses k

/-! ### The whole validation -/

/-- The uses of published and demand points as R188 orders them. -/
def pointUses (s : State) : List (Nat × Nat × Nat) :=
  let d := s.dispatch.cfg
  (List.range 2).flatMap (fun i => if (s.line (lineOfIndex i)).configured then
    (s.line (lineOfIndex i)).statePoint.toList.map ((6, i, ·)) else []) ++
  (List.range 16).flatMap (fun i => if (s.channel i).cfg.configured then
    (s.channel i).cfg.avgPoint.toList.map ((7, i, ·)) else []) ++
  (if d.configured then
    (publishedPoints s ++ if d.heat = d.grid then [d.heat] else [d.heat, d.grid]).map ((8, 0, ·)) else [])

theorem dedup_pair (a b : Nat) : [a, b].dedup = if a = b then [a] else [a, b] := by
  by_cases h : a = b
  · simp [h]
  · simp [h, List.dedup_cons_of_notMem]

theorem pointUses_eq : pointUses s = ((List.range 2).flatMap (lineUses s) ++ (List.range 16).flatMap (channelUses s) ++
    dispatchUses s).map PointUse.coded := by
  have hline : (fun i => (lineUses s i).map PointUse.coded) = fun i => if (s.line (lineOfIndex i)).configured then
      (s.line (lineOfIndex i)).statePoint.toList.map ((6, i, ·)) else [] := by
    funext i
    by_cases h : (s.line (lineOfIndex i)).configured <;> simp [lineUses, h, PointUse.coded, Function.comp_def]
  have hchannel : (fun i => (channelUses s i).map PointUse.coded) = fun i => if (s.channel i).cfg.configured then
      (s.channel i).cfg.avgPoint.toList.map ((7, i, ·)) else [] := by
    funext i
    by_cases h : (s.channel i).cfg.configured <;> simp [channelUses, h, PointUse.coded, Function.comp_def]
  have hdispatch : (dispatchUses s).map PointUse.coded = if s.dispatch.cfg.configured then
      (publishedPoints s ++ if s.dispatch.cfg.heat = s.dispatch.cfg.grid then [s.dispatch.cfg.heat]
        else [s.dispatch.cfg.heat, s.dispatch.cfg.grid]).map ((8, 0, ·)) else [] := by
    by_cases h : s.dispatch.cfg.configured
    · simp [dispatchUses, h, dedup_pair, PointUse.coded, Function.comp_def, DispatchCfg.published, publishedPoints]
    · simp [dispatchUses, h]
  rw [List.map_append, List.map_append, List.map_flatMap, List.map_flatMap, hline, hchannel, hdispatch, pointUses]

/-- The checks of R188 in their order. -/
def startChecks (s : State) : List (Failure × Prop) :=
  (List.range 4).flatMap (windowChecks s) ++ collectorChecks s ++ (List.range 96).flatMap (guardChecks s) ++
    (List.range 2).flatMap (lineChecks s) ++ (List.range 16).flatMap (channelChecks s) ++ dispatchChecks s ++
    (List.range 96).flatMap (ownerChecks s) ++ sharedChecks (pointUses s)

theorem distinct_of_guardChecks (h : ∀ x ∈ (List.range 96).flatMap (guardChecks s), x.2) :
    ∀ i < 96, (s.guardRec i).configured = true →
      ∀ j < i, (s.guardRec j).configured = true → (s.guardRec j).point ≠ (s.guardRec i).point := by
  intro i hi hc
  refine h (⟨5, i, .duplicatePoint⟩, _) (List.mem_flatMap.2 ⟨i, List.mem_range.2 hi, ?_⟩)
  simp [guardChecks, hc]

theorem startChecks_answers : Answers (startChecks s) (validate s) := by
  unfold startChecks
  simp only [List.append_assoc]
  refine .append (answers_findSome fun i _ => windowChecks_answers i) fun _ => ?_
  refine .append collectorChecks_answers fun _ => ?_
  refine .append (answers_findSome fun i _ => guardChecks_answers i) fun hguard => ?_
  refine .append (answers_findSome fun i _ => lineChecks_answers i) fun _ => ?_
  refine .append (answers_findSome fun i _ => channelChecks_answers i) fun _ => ?_
  refine .append (dispatchChecks_answers (distinct_of_guardChecks hguard)) fun _ => ?_
  refine .append (answers_findSome fun i _ => ownerChecks_answers i) fun _ => ?_
  rw [pointUses_eq]
  exact sharedChecks_answers _

theorem startChecks_settle (s : State) :
    (∀ pre e ok post, startChecks s = pre ++ (e, ok) :: post → (∀ x ∈ pre, x.2) → ¬ok → validate s = some e) ∧
    ((∀ x ∈ startChecks s, x.2) → validate s = none) :=
  ⟨fun _ _ _ _ heq hpre hok => Answers.fails (heq ▸ startChecks_answers) hpre hok,
    fun hall => startChecks_answers.passes hall⟩

end
end Sys2Proof.Machine
end

section
namespace Sys2Proof.Machine
open Sys2Proof

section
variable {s t : State} {x : TripOrder}

/-! ### A trip order waits or is on its way -/

/-- A trip order is in the trip queue, or the F-port is sending it (R66, R73). -/
def TripWaits (x : TripOrder) (s : State) : Prop := x ∈ s.guard.trips ∨ s.fPort.tx.map (·.item) = some (.trip x)

theorem TripWaits.of_same (h : TripWaits x s) (hg : t.guard.trips = s.guard.trips) (hf : t.fPort.tx = s.fPort.tx) :
    TripWaits x t := by
  unfold TripWaits
  rw [hg, hf]
  exact h

theorem TripWaits.of_beyondRecorder (h : TripWaits x s) (he : beyondRecorder t = beyondRecorder s) : TripWaits x t :=
  h.of_same (congrArg (fun t => t.guard.trips) he :) (congrArg (fun t => t.fPort.tx) he :)

theorem TripWaits.of_beyondAttention (h : TripWaits x s) (he : beyondAttention t = beyondAttention s) : TripWaits x t :=
  h.of_same (congrArg (fun t => t.guard.trips) he :) (congrArg (fun t => t.fPort.tx) he :)

theorem sendFlow_guard_tx (p : Port) (s : State) :
    (sendFlow p s).guard = s.guard ∧ (sendFlow p s).fPort.tx = s.fPort.tx := by
  unfold sendFlow
  simp only
  split
  · split
    · exact ⟨rfl, rfl⟩
    · cases p <;> exact ⟨rfl, rfl⟩
    · cases p <;> exact ⟨rfl, rfl⟩
  · exact ⟨rfl, rfl⟩

theorem serveS_guard_tx (s : State) : (serveS s).guard = s.guard ∧ (serveS s).fPort.tx = s.fPort.tx := by
  unfold serveS
  split
  · split
    · exact ⟨rfl, rfl⟩
    · next src _ =>
      cases src with
      | upstream => simp only [beginSource, removeUpstream_eq]; exact ⟨rfl, rfl⟩
      | reply | notice | upPass => exact ⟨rfl, rfl⟩
  · exact ⟨rfl, rfl⟩

/-- A grant event takes the trip queue's head first, and a frame on its way stays (R60, R66). -/
theorem TripWaits.granted (h : TripWaits x s) : TripWaits x (serveF s) := by
  cases hb : s.fPort.mayBegin with
  | false => rwa [serveF_of_not hb]
  | true =>
    have hidle := tx_of_mayBegin hb
    have hin : x ∈ s.guard.trips := h.resolve_right (by simp [hidle])
    cases htrips : s.guard.trips with
    | nil => simp [htrips] at hin
    | cons y rest =>
      rw [serveF_of_trip hb (grantChoice_trip htrips)]
      unfold grantTrip
      rw [htrips] at hin
      obtain rfl | hrest := List.mem_cons.1 hin
      · exact .inr (by simp [htrips, beginF])
      · exact .inl (by simpa [htrips, beginF, advanceFrameNo, countGrant] using hrest)

theorem TripWaits.served (h : TripWaits x s) : TripWaits x (serve s) := by
  obtain ⟨hgS, hfS⟩ := sendFlow_guard_tx .sPort s
  obtain ⟨hgF, hfF⟩ := sendFlow_guard_tx .fPort (sendFlow .sPort s)
  obtain ⟨hg, hf⟩ := serveS_guard_tx (sendFlow .fPort (sendFlow .sPort s))
  exact TripWaits.granted (h.of_same (by rw [hg, hgF, hgS]) (by rw [hf, hfF, hfS]))

/-! ### A trip among the trip queue and the steps -/

theorem withdrawn_trips (i : Nat) (s : State) : (serve (ordersWithdrawn i s)).guard.trips <:+ s.guard.trips :=
  (serve_closes (ordersWithdrawn i s)).trips

theorem tripActed_waits {i : Nat} {v : State} (h : TripWaits x v) : TripWaits x (tripActed i s v) := by
  refine h.imp (fun hin => ?_) id
  simp only [tripActed]
  split
  · exact List.mem_append_left _ hin
  · exact hin

/-- The state of a trip before its last service, as the trip and its record leave it. -/
def tripEntered (i : Nat) (s : State) : State :=
  tripRecorded (s.guardRec i) (issuedWithdrawn s i)
    (raiseFlag .outputTrip (followLatched (tripActed i s (serve (ordersWithdrawn i s)))))

theorem tripEntered_beyondRecorder (i : Nat) (s : State) :
    beyondRecorder (tripEntered i s) = beyondRecorder (tripActed i s (serve (ordersWithdrawn i s))) := by
  rw [tripEntered, tripRecorded_beyondRecorder, widen beyondRecorder_beyondAttention (raiseFlag_beyondAttention _ _),
    widen beyondRecorder_beyondAttention (followLatched_beyondAttention _)]

theorem tripEntered_guard (i : Nat) (s : State) :
    (tripEntered i s).guard = (tripActed i s (serve (ordersWithdrawn i s))).guard :=
  (congrArg State.guard (tripEntered_beyondRecorder i s) :)

/-- A trip takes no trip order from where it waits (R73). -/
theorem TripWaits.tripped {i : Nat} (hi : i < s.guard.recs.length) (h : TripWaits x s) :
    TripWaits x (tripOutput i s) := by
  have hwithdrawn : TripWaits x (ordersWithdrawn i s) := h.of_same rfl rfl
  rw [tripOutput_eq hi]
  exact ((tripActed_waits hwithdrawn.served).of_beyondRecorder (tripEntered_beyondRecorder i s)).served

/-- A trip with action SAFE enters its trip order, where none of the record waits (R73, R76). -/
theorem tripOutput_waits {i : Nat} (hi : i < s.guard.recs.length) (ha : (s.guardRec i).action = .safe)
    (hnone : ∀ y ∈ s.guard.trips, y.record ≠ i) :
    TripWaits ⟨i, (s.guardRec i).point, (s.guardRec i).safe⟩ (tripOutput i s) := by
  have hentered : ⟨i, (s.guardRec i).point, (s.guardRec i).safe⟩ ∈
      (tripActed i s (serve (ordersWithdrawn i s))).guard.trips := by
    simp only [tripActed]
    rw [if_pos ⟨ha, fun y hy => hnone y ((withdrawn_trips i s).mem hy)⟩]
    exact List.mem_append_right _ (List.mem_singleton_self _)
  have hwaits : TripWaits ⟨i, (s.guardRec i).point, (s.guardRec i).safe⟩
      (tripActed i s (serve (ordersWithdrawn i s))) := .inl hentered
  rw [tripOutput_eq hi]
  exact (hwaits.of_beyondRecorder (tripEntered_beyondRecorder i s)).served

/-- A trip enters no trip order but its record's. -/
theorem tripOutput_trips {i : Nat} (hi : i < s.guard.recs.length) (hx : x ∈ (tripOutput i s).guard.trips) :
    x ∈ s.guard.trips ∨ x.record = i := by
  rw [tripOutput_eq hi] at hx
  have hacted : x ∈ (tripActed i s (serve (ordersWithdrawn i s))).guard.trips := by
    rw [← tripEntered_guard]
    exact (serve_closes (tripEntered i s)).trips.mem hx
  have hold {y : TripOrder} (hy : y ∈ (serve (ordersWithdrawn i s)).guard.trips) : y ∈ s.guard.trips :=
    (withdrawn_trips i s).mem hy
  simp only [tripActed] at hacted
  split at hacted
  · obtain hx | hx := List.mem_append.1 hacted
    · exact .inl (hold hx)
    · exact .inr (by rw [List.mem_singleton.1 hx])
  · exact .inl (hold hacted)

/-- A trip writes no step. -/
theorem tripOutput_steps {i : Nat} (hi : i < s.guard.recs.length) (h : s.guard.steps = []) :
    (tripOutput i s).guard.steps = [] := by
  have hwithdrawn : (serve (ordersWithdrawn i s)).guard.steps = [] := by
    refine List.suffix_nil.1 ?_
    have hclose := (serve_closes (ordersWithdrawn i s)).steps
    rwa [show (ordersWithdrawn i s).guard.steps = [] by simp [ordersWithdrawn, h]] at hclose
  rw [tripOutput_eq hi]
  have hclose := (serve_closes (tripEntered i s)).steps
  rw [tripEntered_guard, show (tripActed i s (serve (ordersWithdrawn i s))).guard.steps = [] from hwithdrawn] at hclose
  exact List.suffix_nil.1 hclose

theorem now_of_beyondGuard (h : beyondGuard t = beyondGuard s) : t.now = s.now := (congrArg State.now h :)

theorem tripOutput_now (i : Nat) (s : State) : (tripOutput i s).now = s.now :=
  now_of_beyondGuard (tripOutput_beyondGuard i s)

theorem issuedWithdrawn_of_none {i : Nat} (h : s.guard.steps = []) : issuedWithdrawn s i = (s.guardRec i).issued := by
  simp [issuedWithdrawn, pendingStep, h]

end
end Sys2Proof.Machine
end

section
namespace Sys2Proof.Machine
open Sys2Proof

section
variable {s t : State}

/-! ### START judges the outputs in ascending index -/

/-- What START's judgement makes of a record: it trips where its interlock is active (R88 step 4). -/
def GuardRec.judged (g : GuardRec) (now : Nat) : GuardRec :=
  if g.configured && g.interlock then g.tripped g.issued now else g

/-- The outputs below `n` are judged: their records, and the trip orders that wait for them; no step is pending. -/
structure JudgedBelow (n : Nat) (s t : State) : Prop where
  length : t.guard.recs.length = s.guard.recs.length
  now    : t.now = s.now
  steps  : t.guard.steps = []
  below  : ∀ j < n, t.guardRec j = (s.guardRec j).judged s.now
  above  : ∀ j, n ≤ j → t.guardRec j = s.guardRec j
  trips  : ∀ x ∈ t.guard.trips, x.record < n
  waits  : ∀ j < n, (s.guardRec j).configured = true → (s.guardRec j).interlock = true → (s.guardRec j).action = .safe →
    TripWaits ⟨j, (s.guardRec j).point, (s.guardRec j).safe⟩ t

theorem startJudged_of_trip {i : Nat} (h : ((s.guardRec i).configured && (s.guardRec i).interlock) = true) :
    startJudged s i = tripOutput i s := if_pos h

theorem startJudged_of_calm {i : Nat} (h : ¬((s.guardRec i).configured && (s.guardRec i).interlock) = true) :
    startJudged s i = s := if_neg h

theorem judged_of_calm {g : GuardRec} {now : Nat} (h : ¬(g.configured && g.interlock) = true) : g.judged now = g :=
  if_neg h

theorem judged_of_locked {g : GuardRec} {now : Nat} (h : (g.configured && g.interlock) = true) :
    g.judged now = g.tripped g.issued now := if_pos h

theorem forall_lt_succ {P : Nat → Prop} {n : Nat} (h : ∀ j < n, P j) (hn : P n) : ∀ j < n + 1, P j := fun j hj =>
  (Nat.lt_succ_iff_lt_or_eq.1 hj).elim (h j) fun e => e ▸ hn

/-- A calm output is judged as it stands. -/
theorem JudgedBelow.calm {n : Nat} (h : JudgedBelow n s t)
    (hj : ¬((s.guardRec n).configured && (s.guardRec n).interlock) = true) : JudgedBelow (n + 1) s t where
  length := h.length
  now := h.now
  steps := h.steps
  below := forall_lt_succ h.below ((h.above n le_rfl).trans (judged_of_calm hj).symm)
  above j hjn := h.above j (Nat.le_of_succ_le hjn)
  trips x hx := Nat.lt_succ_of_lt (h.trips x hx)
  waits := forall_lt_succ h.waits fun hc hl _ => absurd (by rw [hc, hl]; rfl) hj

/-- A locked output trips. -/
theorem JudgedBelow.locked {n : Nat} (h : JudgedBelow n s t) (hlen : n < t.guard.recs.length)
    (hj : ((s.guardRec n).configured && (s.guardRec n).interlock) = true) :
    JudgedBelow (n + 1) s (tripOutput n t) := by
  have hrec : t.guardRec n = s.guardRec n := h.above n le_rfl
  have hself : (tripOutput n t).guardRec n = (s.guardRec n).judged s.now := by
    rw [tripOutput_guardRec hlen, issuedWithdrawn_of_none h.steps, hrec, h.now, judged_of_locked hj]
  have hother (j : Nat) (hne : j ≠ n) : (tripOutput n t).guardRec j = t.guardRec j := tripOutput_guardRec_other hlen hne
  have hwaits (ha : (s.guardRec n).action = .safe) :
      TripWaits ⟨n, (s.guardRec n).point, (s.guardRec n).safe⟩ (tripOutput n t) := by
    rw [← hrec] at ha ⊢
    exact tripOutput_waits hlen ha fun y hy => Nat.ne_of_lt (h.trips y hy)
  exact {
    length := (tripOutput_length n hlen).trans h.length
    now := (tripOutput_now n t).trans h.now
    steps := tripOutput_steps hlen h.steps
    below := forall_lt_succ (fun j hjn => (hother j (Nat.ne_of_lt hjn)).trans (h.below j hjn)) hself
    above := fun j hjn => (hother j (Nat.ne_of_gt hjn)).trans (h.above j (Nat.le_of_succ_le hjn))
    trips := fun x hx => (tripOutput_trips hlen hx).elim (fun hold => Nat.lt_succ_of_lt (h.trips x hold))
      fun hnew => Nat.lt_succ_of_le (Nat.le_of_eq hnew)
    waits := forall_lt_succ (fun j hjn hc hl ha => (h.waits j hjn hc hl ha).tripped hlen) fun _ _ ha => hwaits ha }

theorem JudgedBelow.next {n : Nat} (h : JudgedBelow n s t) : JudgedBelow (n + 1) s (startJudged t n) := by
  have hrec : t.guardRec n = s.guardRec n := h.above n le_rfl
  by_cases hj : ((s.guardRec n).configured && (s.guardRec n).interlock) = true
  · have hj' : ((t.guardRec n).configured && (t.guardRec n).interlock) = true := by rwa [hrec]
    rw [startJudged_of_trip hj']
    exact h.locked (lt_guards_of_configured (Bool.and_eq_true _ _ ▸ hj').1) hj
  · rw [startJudged_of_calm (by rwa [hrec])]
    exact h.calm hj

theorem judgedBelow_foldl (hsteps : s.guard.steps = []) (htrips : s.guard.trips = []) (n : Nat) :
    JudgedBelow n s ((List.range n).foldl startJudged s) := by
  induction n with
  | zero => exact ⟨rfl, rfl, hsteps, fun _ h => absurd h (Nat.not_lt_zero _), fun _ _ => rfl,
      fun x hx => absurd (htrips ▸ hx) List.not_mem_nil, fun _ h => absurd h (Nat.not_lt_zero _)⟩
  | succ n ih =>
    rw [List.range_succ, List.foldl_append]
    exact ih.next

/-! ### What START derives of a record -/

/-- A used term of a record, evaluated from the inactive flag, is active (R88 step 3). -/
def LockedAtStart (s : State) (g : GuardRec) : Prop :=
  ∃ t ∈ g.terms, t.used = true ∧
    evalTerm { t with active := false } (s.point t.point).effValue (s.point t.point).effQuality = true

/-- The live value of a point, as START takes it (R88 step 2). -/
def Point.live (p : Point) : Option Value :=
  if p.effQuality = .good ∨ p.effQuality = .uncertain then some p.effValue else none

theorem startRecord_of_configured {g : GuardRec} (h : g.configured = true) :
    startRecord s g = { g with
      step := g.rate * g.interval / 1000, state := .clear, issued := (s.point g.point).live
      target := (s.point g.point).live, lastIssue := none, rampTimer := none
      terms := g.terms.map (fun t =>
        if t.used then evaluated s { t with active := false } else { t with active := false }) } := by
  rw [startRecord, if_pos h, Point.live]
  cases hq : (s.point g.point).effQuality <;> simp [hq]

theorem startRecord_interlock {g : GuardRec} (h : g.configured = true) :
    (startRecord s g).interlock = true ↔ LockedAtStart s g := by
  have hterm (t : Term) :
      ((if t.used then evaluated s { t with active := false } else { t with active := false }).used &&
        (if t.used then evaluated s { t with active := false } else { t with active := false }).active) = true ↔
      t.used = true ∧
        evalTerm { t with active := false } (s.point t.point).effValue (s.point t.point).effQuality = true := by
    cases t.used <;> simp [evaluated]
  simp only [startRecord_of_configured h, GuardRec.interlock, List.any_map, List.any_eq_true, Function.comp_apply,
    hterm, LockedAtStart]

theorem startDerived_judged (htrips : s.guard.trips = []) :
    JudgedBelow 96 (followLatched (startDerived s)) (guardStart s) := by
  have hguard := followLatched_guard (startDerived s)
  rw [guardStart_eq]
  exact judgedBelow_foldl (by rw [hguard]; rfl) (by rw [hguard]; exact htrips) 96

theorem followLatched_now (s : State) : (followLatched s).now = s.now :=
  (congrArg State.now (followLatched_beyondAttention s) :)

theorem latched_derived_guardRec (s : State) (i : Nat) :
    (followLatched (startDerived s)).guardRec i = startRecord s (s.guardRec i) := by
  rw [← startDerived_guardRec, guardRec_of_recs (congrArg Guard.recs (followLatched_guard (startDerived s)))]

/-- START's guard action, record by record (R88). -/
theorem guardStart_guardRec (htrips : s.guard.trips = []) {i : Nat} (hi : i < 96) :
    (guardStart s).guardRec i = (startRecord s (s.guardRec i)).judged s.now := by
  rw [(startDerived_judged htrips).below i hi, latched_derived_guardRec, followLatched_now]
  rfl

/-- The trip order of an output that START trips with action SAFE waits or is on its way (R73, R88). -/
theorem guardStart_waits (htrips : s.guard.trips = []) {i : Nat} (hi : i < 96)
    (hc : (s.guardRec i).configured = true) (hl : LockedAtStart s (s.guardRec i)) (ha : (s.guardRec i).action = .safe) :
    TripWaits ⟨i, (s.guardRec i).point, (s.guardRec i).safe⟩ (guardStart s) := by
  have h := (startDerived_judged htrips).waits i hi
  rw [latched_derived_guardRec] at h
  have hwaits := h (by rwa [startRecord_configured]) ((startRecord_interlock hc).2 hl)
  simp only [startRecord_of_configured hc] at hwaits
  exact hwaits ha

end
end Sys2Proof.Machine
end

section
namespace Sys2Proof.Machine
open Sys2Proof

section
variable {s : State} {i : Nat}

/-- An output that START finds not locked stands as it was derived (R88). -/
theorem guardStart_calm (htrips : s.guard.trips = []) (hi : i < 96) (hc : (s.guardRec i).configured = true)
    (hl : ¬LockedAtStart s (s.guardRec i)) : (guardStart s).guardRec i = startRecord s (s.guardRec i) := by
  rw [guardStart_guardRec htrips hi]
  refine judged_of_calm fun hj => hl ((startRecord_interlock hc).1 ?_)
  exact (Bool.and_eq_true _ _ ▸ hj).2

/-- A locked output trips from what was derived (R88). -/
theorem guardStart_locked (htrips : s.guard.trips = []) (hi : i < 96) (hc : (s.guardRec i).configured = true)
    (hl : LockedAtStart s (s.guardRec i)) : (guardStart s).guardRec i =
      (startRecord s (s.guardRec i)).tripped (s.point (s.guardRec i).point).live s.now := by
  rw [guardStart_guardRec htrips hi, judged_of_locked]
  · rw [startRecord_of_configured hc]
  · rw [startRecord_configured, hc, (startRecord_interlock hc).2 hl]
    rfl

theorem tripped_kept (g : GuardRec) (issued : Option Value) (now : Nat) :
    (g.tripped issued now).step = g.step ∧ (g.tripped issued now).rampTimer = none ∧
      (g.tripped issued now).plan = g.plan := by
  unfold GuardRec.tripped
  split <;> exact ⟨rfl, rfl, rfl⟩

/-- Locked or not, an output leaves START with its step, no ramp and its configuration (R71, R88). -/
theorem guardStart_kept (htrips : s.guard.trips = []) (hi : i < 96) (hc : (s.guardRec i).configured = true) :
    ((guardStart s).guardRec i).step = (s.guardRec i).rate * (s.guardRec i).interval / 1000 ∧
      ((guardStart s).guardRec i).rampTimer = none ∧ ((guardStart s).guardRec i).plan = (s.guardRec i).plan := by
  by_cases hl : LockedAtStart s (s.guardRec i)
  · obtain ⟨hstep, hramp, hplan⟩ :=
      tripped_kept (startRecord s (s.guardRec i)) (s.point (s.guardRec i).point).live s.now
    rw [guardStart_locked htrips hi hc hl]
    exact ⟨hstep.trans (by rw [startRecord_of_configured hc]), hramp, hplan.trans (startRecord_plan s _)⟩
  · rw [guardStart_calm htrips hi hc hl]
    exact ⟨by rw [startRecord_of_configured hc], by rw [startRecord_of_configured hc], startRecord_plan s _⟩

theorem guardStart_safe (htrips : s.guard.trips = []) (hi : i < 96) (hc : (s.guardRec i).configured = true)
    (hl : LockedAtStart s (s.guardRec i)) (ha : (s.guardRec i).action = .safe) :
    (guardStart s).guardRec i = { startRecord s (s.guardRec i) with
      state := .tripped, target := some (s.guardRec i).safe, issued := some (s.guardRec i).safe, lastIssue := some s.now
      rampTimer := none, trips := bump (s.guardRec i).trips } := by
  rw [guardStart_locked htrips hi hc hl, startRecord_of_configured hc]
  simp [GuardRec.tripped, ha]

theorem guardStart_hold (htrips : s.guard.trips = []) (hi : i < 96) (hc : (s.guardRec i).configured = true)
    (hl : LockedAtStart s (s.guardRec i)) (ha : (s.guardRec i).action = .hold) :
    (guardStart s).guardRec i = { startRecord s (s.guardRec i) with
      state := .tripped, rampTimer := none, trips := bump (s.guardRec i).trips } := by
  rw [guardStart_locked htrips hi hc hl, startRecord_of_configured hc]
  simp [GuardRec.tripped, ha]

/-- START's guard action on one configured record (R88). -/
theorem guardStart_record (htrips : s.guard.trips = []) (hi : i < 96) (hc : (s.guardRec i).configured = true) :
    let g := s.guardRec i
    let g' := (guardStart s).guardRec i
    let live := (s.point g.point).live
    (¬LockedAtStart s g → g'.state = .clear ∧ g'.issued = live ∧ g'.target = live ∧ g'.lastIssue = none ∧
      g'.trips = g.trips) ∧
    (LockedAtStart s g → g.action = .hold →
      g'.state = .tripped ∧ g'.issued = live ∧ g'.target = live ∧ g'.trips = bump g.trips) ∧
    (LockedAtStart s g → g.action = .safe →
      g'.state = .tripped ∧ g'.issued = some g.safe ∧ g'.target = some g.safe ∧ g'.lastIssue = some s.now ∧
        g'.trips = bump g.trips) := by
  refine ⟨fun hl => ?_, fun hl ha => ?_, fun hl ha => ?_⟩
  · rw [guardStart_calm htrips hi hc hl, startRecord_of_configured hc]
    exact ⟨rfl, rfl, rfl, rfl, rfl⟩
  · rw [guardStart_hold htrips hi hc hl ha, startRecord_of_configured hc]
    exact ⟨rfl, rfl, rfl, rfl⟩
  · rw [guardStart_safe htrips hi hc hl ha]
    exact ⟨rfl, rfl, rfl, rfl, rfl⟩

end
end Sys2Proof.Machine
end

section
namespace Sys2Proof.Machine
open Sys2Proof

section
variable {s t : State}

/-! ### The channels but for their operated marks

No wake, cycle or derivation of START reaches more of a channel than its operated mark. -/

/-- A channel without its operated mark. -/
def Channel.unmarked (c : Channel) : Channel := { c with run := { c.run with operated := false } }

def unmarkedChannels (s : State) : List Channel := s.emission.channels.map Channel.unmarked

theorem unmarked_of_emission (h : t.emission = s.emission) : unmarkedChannels t = unmarkedChannels s := by
  rw [unmarkedChannels, h]
  rfl

theorem channel_of_unmarked (h : unmarkedChannels t = unmarkedChannels s) (c : Nat) :
    (t.channel c).unmarked = (s.channel c).unmarked := by
  have key (u : State) : (unmarkedChannels u).getD c Channel.powerOn.unmarked = (u.channel c).unmarked := by
    simp only [unmarkedChannels, State.channel, List.getD_eq_getElem?_getD, List.getElem?_map]
    cases u.emission.channels[c]? <;> rfl
  rw [← key, ← key, h]

theorem length_of_unmarked (h : unmarkedChannels t = unmarkedChannels s) :
    t.emission.channels.length = s.emission.channels.length := by
  simpa [unmarkedChannels] using congrArg List.length h

theorem unlatched_of_unmarked (h : unmarkedChannels t = unmarkedChannels s)
    (hl : ∀ c ∈ s.emission.channels, c.run.latch = false) : ∀ c ∈ t.emission.channels, c.run.latch = false := by
  have key (u : State) : (∀ c ∈ u.emission.channels, c.run.latch = false) ↔
      ∀ c ∈ unmarkedChannels u, c.run.latch = false := by
    simp [unmarkedChannels, Channel.unmarked]
  rw [key] at hl ⊢
  rwa [h]

theorem deriveOperating_unmarked (l : LineId) (s : State) :
    unmarkedChannels (deriveOperating l s) = unmarkedChannels s := by
  have hline (f : LineRec → LineRec) : unmarkedChannels (s.modLine l f) = unmarkedChannels s := by cases l <;> rfl
  unfold deriveOperating
  simp only
  split
  · split
    · rw [← hline (fun r => { r with operating := operatingOf (s.point (s.line l).opPoint) })]
      simp only [unmarkedChannels, List.map_map]
      refine List.map_congr_left fun c _ => ?_
      simp only [Function.comp_apply]
      split <;> rfl
    · exact hline _
  · rfl

theorem wakeLines_unmarked (p : Nat) (s : State) : unmarkedChannels (wakeLines p s) = unmarkedChannels s := by
  refine foldl_keeps unmarkedChannels _ (fun t l => ?_) _ s
  split
  · exact deriveOperating_unmarked l t
  · rfl

theorem writeSelf_unmarked (p : Nat) (v : Value) (s : State) :
    unmarkedChannels (writeSelf p v s) = unmarkedChannels s := by
  rw [unmarked_of_emission (writeSelf_emission p v s), wakeLines_unmarked]
  exact unmarked_of_emission ((wakeGuard_emission _ _).trans (storeUpdate_emission _ _ _ _))

theorem cycleFrame_unmarked : CycleFrame (fun s t => unmarkedChannels t = unmarkedChannels s) where
  refl := fun _ => rfl
  trans := fun h1 h2 => h2.trans h1
  serve := fun s => unmarked_of_emission (serve_emission s)
  handed := fun r s => unmarked_of_emission (emission_of_beyondGuard (handAll_beyondGuard r s))
  unit := fun _ _ _ => rfl
  conditions := fun s => unmarked_of_emission (followDispatch_emission s)
  written := fun p v s _ => writeSelf_unmarked p v s

theorem publish_unmarked (p : Option Nat) (v : Value) (s : State) :
    unmarkedChannels (publish p v s) = unmarkedChannels s := by
  unfold publish
  split
  · rfl
  · exact writeSelf_unmarked _ _ _

theorem stateTaken_unmarked (l : LineId) (s : State) : unmarkedChannels (stateTaken l s) = unmarkedChannels s := by
  rw [unmarked_of_emission (stateTaken_emission l s)]
  cases l <;> rfl

theorem deriveEmission_unmarked (always : Bool) (l : LineId) (s : State) :
    unmarkedChannels (deriveEmission always l s) = unmarkedChannels s := by
  rw [deriveEmission_eq]
  split
  · split
    · rw [cycleFrame_unmarked.settle, publish_unmarked, stateTaken_unmarked]
    · exact stateTaken_unmarked l s
  · rfl

/-! ### The channels through START -/

/-- The channels with the warn levels that START computes (R97). -/
def warnLevelled (s : State) : State :=
  { s with emission := { s.emission with channels := s.emission.channels.map startWarnLevel } }

/-- The emission unit once its lines have derived their flags and states, line A before line B (R92, R93). -/
def linesDerived (s : State) : State :=
  deriveEmission true .b (deriveOperating .b (deriveEmission true .a (deriveOperating .a (warnLevelled s))))

theorem emissionStart_eq (s : State) :
    emissionStart s = if (linesDerived s).clock.unset = true then linesDerived s
      else (configuredChannels (linesDerived s)).foldl (fun t c => openPeriod c t) (linesDerived s) := rfl

theorem linesDerived_beyondWake (s : State) : beyondWake (linesDerived s) = beyondWake s := by
  rw [linesDerived, deriveEmission_beyondWake, deriveOperating_beyondWake, deriveEmission_beyondWake,
    deriveOperating_beyondWake]
  exact startWarnLevels_beyondWake s

theorem linesDerived_unmarked (s : State) : unmarkedChannels (linesDerived s) = unmarkedChannels (warnLevelled s) := by
  rw [linesDerived, deriveEmission_unmarked, deriveOperating_unmarked, deriveEmission_unmarked,
    deriveOperating_unmarked]

theorem startWarnLevel_latch (c : Channel) : (startWarnLevel c).run.latch = c.run.latch := by
  unfold startWarnLevel
  split <;> rfl

theorem warnLevelled_unlatched (h : ∀ c ∈ s.emission.channels, c.run.latch = false) :
    ∀ c ∈ (warnLevelled s).emission.channels, c.run.latch = false := by
  intro c hc
  obtain ⟨c', hc', rfl⟩ := List.mem_map.1 hc
  rw [startWarnLevel_latch, h c' hc']

theorem warnLevelled_channel (s : State) (c : Nat) : (warnLevelled s).channel c = startWarnLevel (s.channel c) := by
  simp only [warnLevelled, State.channel, List.getD_eq_getElem?_getD, List.getElem?_map]
  cases s.emission.channels[c]? <;> rfl

theorem linesDerived_channel (s : State) (c : Nat) :
    ((linesDerived s).channel c).unmarked = (startWarnLevel (s.channel c)).unmarked := by
  rw [channel_of_unmarked (linesDerived_unmarked s), warnLevelled_channel]

theorem startWarnLevel_cfg (c : Channel) : (startWarnLevel c).cfg = c.cfg := by
  unfold startWarnLevel
  split <;> rfl

theorem linesDerived_cfg (s : State) (c : Nat) : ((linesDerived s).channel c).cfg = (s.channel c).cfg := by
  rw [← startWarnLevel_cfg (s.channel c)]
  exact (congrArg Channel.cfg (linesDerived_channel s c) :)

/-- With the clock set, START opens a period of every configured channel (R97, R98). -/
theorem emissionStart_channel (hu : s.clock.unset = false) (hn : s.emission.channels.length = 16) {c : Nat}
    (hc : c < 16) (hconf : (s.channel c).cfg.configured = true) :
    (emissionStart s).channel c = { (linesDerived s).channel c with
      run := openedRun (linesDerived s) ((linesDerived s).channel c) } := by
  have hclock : (linesDerived s).clock = s.clock := clock_of_beyondWake (linesDerived_beyondWake s)
  have hlen : (linesDerived s).emission.channels.length = 16 := by
    rw [length_of_unmarked (linesDerived_unmarked s), ← hn]
    exact List.length_map ..
  have hmem : c ∈ configuredChannels (linesDerived s) := by
    rw [mem_configuredChannels, linesDerived_cfg]
    exact ⟨hc, hconf⟩
  rw [emissionStart_eq, hclock, hu, if_neg Bool.false_ne_true,
    (openPeriods_acted _ (configuredChannels_nodup _)).acted c (by rw [hlen]; exact hc), if_pos hmem]

/-- A required input assessed afresh from its point (R130). -/
def assessedInput (s : State) (i : ReqInput) : InputRec :=
  (s.dispatch.input i).assessed (s.point (s.dispatch.cfg.inputPoint i)).effQuality
    (s.point (s.dispatch.cfg.inputPoint i)).effValue s.now s.dispatch.oper.holdLimit

theorem assessInput_eq (i : ReqInput) (s : State) :
    assessInput i s = { s with dispatch := s.dispatch.setInput i (assessedInput s i) } := rfl

/-- The dispatch unit with its required inputs assessed and its cycle timer started (R123, R130). -/
def inputsAssessed (s : State) : State :=
  { s with dispatch := { s.dispatch with
      fa := assessedInput s .fa, fb := assessedInput s .fb, trip := assessedInput s .trip
      timer := some (s.now + s.dispatch.oper.interval) } }

theorem startCycleTimer_assessed (s : State) :
    startCycleTimer (assessInput .trip (assessInput .fb (assessInput .fa s))) = inputsAssessed s := by
  simp only [assessInput_eq, DispatchUnit.setInput]
  rfl

/-- The dispatch unit in RUN, its cycle the first (R123). -/
def runEntered (s : State) : State :=
  { s with dispatch := { s.dispatch with state := .run, first := true, lastOrdered := noneOrdered } }

theorem enterFromStopped_eq (s : State) : enterFromStopped s =
    if (inputsAssessed s).dispatch.required.any (fun r => decide (r.state = .expired)) = true then
      enterHold .input (inputsAssessed s)
    else publishState (followDispatch (runEntered (inputsAssessed s))) := by
  rw [← startCycleTimer_assessed]
  rfl

theorem inputsAssessed_emission (s : State) : (inputsAssessed s).emission = s.emission := rfl

theorem runEntered_unmarked (s : State) : unmarkedChannels (runEntered s) = unmarkedChannels s := rfl

theorem enterHold_unmarked (c : HoldCause) (s : State) : unmarkedChannels (enterHold c s) = unmarkedChannels s := by
  unfold enterHold
  rw [cycleFrame_unmarked.publishState, cycleFrame_unmarked.conditions]
  rfl

theorem enterFromStopped_unmarked (s : State) : unmarkedChannels (enterFromStopped s) = unmarkedChannels s := by
  rw [enterFromStopped_eq, ← unmarked_of_emission (inputsAssessed_emission s)]
  split
  · rw [enterHold_unmarked]
  · rw [cycleFrame_unmarked.publishState, cycleFrame_unmarked.conditions, runEntered_unmarked]

theorem dispatchStart_unmarked (s : State) : unmarkedChannels (dispatchStart s) = unmarkedChannels s := by
  unfold dispatchStart
  split
  · rw [cycleFrame_unmarked.settle, enterFromStopped_unmarked]
  · rfl

theorem serve_unmarked (s : State) : unmarkedChannels (serve s) = unmarkedChannels s :=
  unmarked_of_emission (serve_emission s)

/-- A channel's period is freshly opened, under a warn level (R97, R98). -/
def ChannelRun.OpenedAt (handed : Nat × Nat) (level : Nat) (r : ChannelRun) : Prop :=
  r.opened = true ∧ (r.day, r.index) = handed ∧ r.valid = 0 ∧ r.sum = 0 ∧ r.warnLevel = level

theorem openedRun_openedAt (s : State) (ch : Channel) :
    (openedRun s ch).OpenedAt s.clock.handed ch.run.warnLevel := by
  unfold openedRun
  simp only
  split <;> exact ⟨rfl, rfl, rfl, rfl, rfl⟩

theorem openedAt_of_unmarked {c d : Channel} {handed : Nat × Nat} {level : Nat} (h : c.unmarked = d.unmarked)
    (hd : d.run.OpenedAt handed level) : c.run.OpenedAt handed level := by
  have hc : c.unmarked.run.OpenedAt handed level := h ▸ hd
  exact hc

/-- What START leaves of a configured channel, with the clock set (R97, R98). -/
theorem started_channel (hu : s.clock.unset = false) (hn : s.emission.channels.length = 16) {c : Nat} (hc : c < 16)
    (hconf : (s.channel c).cfg.configured = true) :
    ((serve (dispatchStart (emissionStart s))).channel c).run.OpenedAt s.clock.handed
      ((s.channel c).cfg.halfLimit * (s.channel c).cfg.warnPct / 100) := by
  have hkept : unmarkedChannels (serve (dispatchStart (emissionStart s))) = unmarkedChannels (emissionStart s) := by
    rw [serve_unmarked, dispatchStart_unmarked]
  have hclock : (linesDerived s).clock = s.clock := clock_of_beyondWake (linesDerived_beyondWake s)
  have hlevel : ((linesDerived s).channel c).run.warnLevel =
      (s.channel c).cfg.halfLimit * (s.channel c).cfg.warnPct / 100 := by
    have h : ((linesDerived s).channel c).run.warnLevel = (startWarnLevel (s.channel c)).run.warnLevel :=
      (congrArg (fun ch => ch.run.warnLevel) (linesDerived_channel s c) :)
    rw [h, startWarnLevel, if_pos hconf]
  refine openedAt_of_unmarked (channel_of_unmarked hkept c) ?_
  rw [emissionStart_channel hu hn hc hconf, ← hclock, ← hlevel]
  exact openedRun_openedAt _ _

end
end Sys2Proof.Machine
end

section
namespace Sys2Proof.Machine
open Sys2Proof

section
variable {s t u : State}

/-! ### The dispatch unit through a write of a point that it does not read -/

/-- The dispatch state with its hold cause, the cycle timer and whether a cycle occasion is owed (R122, R132). -/
def cycleStatus (s : State) : DispatchState × Option HoldCause × Option Nat × Bool :=
  (s.dispatch.state, s.dispatch.cause, s.dispatch.timer, s.dispatch.owed)

/-- The required inputs' records (R129). -/
def inputRecs (s : State) : InputRec × InputRec × InputRec := (s.dispatch.fa, s.dispatch.fb, s.dispatch.trip)

/-- The cycle status with the input records. -/
def unitStatus (s : State) := (cycleStatus s, inputRecs s)

theorem unitStatus_of_beyondGuard (h : beyondGuard t = beyondGuard s) : unitStatus t = unitStatus s :=
  (congrArg unitStatus h :)

theorem unitStatus_of_beyondUpstream (h : beyondUpstream t = beyondUpstream s) : unitStatus t = unitStatus s :=
  (congrArg unitStatus h :)

theorem unitStatus_of_beyondRecorder (h : beyondRecorder t = beyondRecorder s) : unitStatus t = unitStatus s :=
  (congrArg unitStatus h :)

theorem unitStatus_of_beyondAttention (h : beyondAttention t = beyondAttention s) : unitStatus t = unitStatus s :=
  (congrArg unitStatus h :)

theorem unitStatus_of_beyondEmission (h : beyondEmission t = beyondEmission s) : unitStatus t = unitStatus s :=
  (congrArg unitStatus h :)

theorem cycleStatus_of_unitStatus (h : unitStatus t = unitStatus s) : cycleStatus t = cycleStatus s :=
  congrArg Prod.fst h

theorem inputRecs_of_unitStatus (h : unitStatus t = unitStatus s) : inputRecs t = inputRecs s := congrArg Prod.snd h

theorem owed_of_cycleStatus (h : cycleStatus t = cycleStatus s) : t.dispatch.owed = s.dispatch.owed :=
  congrArg (·.2.2.2) h

theorem wakeInput_cycleStatus (p : Nat) (i : ReqInput) (s : State) : cycleStatus (wakeInput p i s) = cycleStatus s := by
  unfold wakeInput
  split
  · cases i <;> rfl
  · rfl

theorem wakeInput_cfg (p : Nat) (i : ReqInput) (s : State) : (wakeInput p i s).dispatch.cfg = s.dispatch.cfg := by
  unfold wakeInput
  split
  · cases i <;> rfl
  · rfl

theorem wakeInput_of_other {p : Nat} {i : ReqInput} (h : s.dispatch.cfg.inputPoint i ≠ p) : wakeInput p i s = s :=
  if_neg h

theorem wakeTripSeen_of_other {p : Nat} (h : s.dispatch.cfg.trip ≠ p) : wakeTripSeen p s = s := if_neg h

theorem wakeTripSeen_inputRecs (p : Nat) (s : State) : inputRecs (wakeTripSeen p s) = inputRecs s := by
  unfold wakeTripSeen
  split <;> rfl

theorem wakeDemands_unitStatus (p : Nat) (s : State) : unitStatus (wakeDemands p s) = unitStatus s := by
  unfold wakeDemands
  simp only
  split <;> rfl

theorem followDispatch_unitStatus (s : State) : unitStatus (followDispatch s) = unitStatus s :=
  unitStatus_of_beyondAttention (followDispatch_beyondAttention s)

/-- A wake of another point than the trip input's gives no cycle occasion (R129, R132). -/
theorem wakeDispatch_cycleStatus {p : Nat} (h : s.dispatch.cfg.trip ≠ p) :
    cycleStatus (wakeDispatch p s) = cycleStatus s := by
  unfold wakeDispatch
  split
  · rw [cycleStatus_of_unitStatus (followDispatch_unitStatus _), cycleStatus_of_unitStatus (wakeDemands_unitStatus _ _),
      wakeTripSeen_of_other (by simp only [wakeInput_cfg]; exact h), wakeInput_cycleStatus, wakeInput_cycleStatus,
      wakeInput_cycleStatus]
  · rfl

theorem wakeDispatch_inputRecs {p : Nat} (h : ∀ i, s.dispatch.cfg.inputPoint i ≠ p) :
    inputRecs (wakeDispatch p s) = inputRecs s := by
  unfold wakeDispatch
  split
  · rw [inputRecs_of_unitStatus (followDispatch_unitStatus _), inputRecs_of_unitStatus (wakeDemands_unitStatus _ _),
      wakeTripSeen_inputRecs, wakeInput_of_other (h .fa), wakeInput_of_other (h .fb), wakeInput_of_other (h .trip)]
  · rfl

theorem reportSelf_unitStatus (p : Nat) (a b : Value × Quality) (s : State) :
    unitStatus (reportSelf p a b s) = unitStatus s := by
  unfold reportSelf
  split
  · exact unitStatus_of_beyondUpstream (handUpstream_beyondUpstream _ s)
  · rfl

/-- The state in which a write of a point wakes the dispatch unit (R12). -/
def unitWoken (p : Nat) (v : Value) (s : State) : State := wakeLines p (wakeGuard p (storeUpdate p v .good s))

theorem unitWoken_unitStatus (p : Nat) (v : Value) (s : State) : unitStatus (unitWoken p v s) = unitStatus s := by
  rw [unitWoken, unitStatus_of_beyondEmission (wakeLines_beyondEmission p _),
    unitStatus_of_beyondGuard (wakeGuard_beyondGuard p _)]
  rfl

theorem unitWoken_cfg (p : Nat) (v : Value) (s : State) : (unitWoken p v s).dispatch.cfg = s.dispatch.cfg := by
  rw [unitWoken, cfg_of_beyondWake (wakeLines_beyondWake p _),
    cfg_of_beyondWake (widen beyondWake_beyondGuard (wakeGuard_beyondGuard p _))]
  rfl

theorem writeSelf_unitStatus (p : Nat) (v : Value) (s : State) :
    unitStatus (writeSelf p v s) = unitStatus (wakeDispatch p (unitWoken p v s)) := by
  unfold writeSelf pointEvent
  exact (unitStatus_of_beyondGuard (serve_beyondGuard _)).trans (reportSelf_unitStatus _ _ _ _)

theorem writeSelf_cycleStatus {p : Nat} (h : s.dispatch.cfg.trip ≠ p) (v : Value) :
    cycleStatus (writeSelf p v s) = cycleStatus s := by
  rw [cycleStatus_of_unitStatus (writeSelf_unitStatus p v s), wakeDispatch_cycleStatus (by rw [unitWoken_cfg]; exact h),
    cycleStatus_of_unitStatus (unitWoken_unitStatus p v s)]

theorem writeSelf_inputRecs {p : Nat} (h : ∀ i, s.dispatch.cfg.inputPoint i ≠ p) (v : Value) :
    inputRecs (writeSelf p v s) = inputRecs s := by
  rw [inputRecs_of_unitStatus (writeSelf_unitStatus p v s),
    wakeDispatch_inputRecs (by rw [unitWoken_cfg]; exact h), inputRecs_of_unitStatus (unitWoken_unitStatus p v s)]

/-! ### No cycle occasion -/

/-- No cycle occasion is owed, and the part itself writes no trip point. -/
def Unowed (s : State) : Prop :=
  s.dispatch.owed = false ∧ publishes s.emission.plan s.dispatch.cfg s.dispatch.cfg.trip = false

/-- The part itself writes no required input. -/
def InputsForeign (s : State) : Prop :=
  ∀ i, publishes s.emission.plan s.dispatch.cfg (s.dispatch.cfg.inputPoint i) = false

theorem Unowed.of_beyondWake (h : Unowed s) (hb : beyondWake t = beyondWake s) (ho : t.dispatch.owed = false) :
    Unowed t := by
  refine ⟨ho, ?_⟩
  rw [publishes_of_beyondWake hb, cfg_of_beyondWake hb]
  exact h.2

theorem InputsForeign.of_beyondWake (h : InputsForeign s) (hb : beyondWake t = beyondWake s) : InputsForeign t := by
  intro i
  rw [publishes_of_beyondWake hb, cfg_of_beyondWake hb]
  exact h i

theorem ne_of_published {p q : Nat} (hp : publishes s.emission.plan s.dispatch.cfg p = true)
    (hq : publishes s.emission.plan s.dispatch.cfg q = false) : q ≠ p := by
  rintro rfl
  exact Bool.false_ne_true (hq.symm.trans hp)

theorem runOccasions_of_unowed {n : Nat} (h : s.dispatch.owed = false) : runOccasions n s = s := by
  cases n with
  | zero => rfl
  | succ n => rw [runOccasions, h, if_neg Bool.false_ne_true]

theorem settle_of_unowed (h : s.dispatch.owed = false) : settle s = serve s := by
  rw [settle, runOccasions_of_unowed h]

/-! ### What START's derivations and writes leave of the dispatch unit -/

/-- With no cycle occasion owed, the cycle status stands; so do the records of inputs that the part does not write. -/
structure UnitKept (s t : State) : Prop where
  beyond : beyondWake t = beyondWake s
  status : Unowed s → cycleStatus t = cycleStatus s
  inputs : Unowed s → InputsForeign s → inputRecs t = inputRecs s

namespace UnitKept

theorem unowed (h : UnitKept s t) (hs : Unowed s) : Unowed t :=
  hs.of_beyondWake h.beyond ((owed_of_cycleStatus (h.status hs)).trans hs.1)

theorem refl (s : State) : UnitKept s s := ⟨rfl, fun _ => rfl, fun _ _ => rfl⟩

theorem trans (h : UnitKept s t) (h' : UnitKept t u) : UnitKept s u where
  beyond := h'.beyond.trans h.beyond
  status hs := (h'.status (h.unowed hs)).trans (h.status hs)
  inputs hs hi := (h'.inputs (h.unowed hs) (hi.of_beyondWake h.beyond)).trans (h.inputs hs hi)

theorem of_unitStatus (hb : beyondWake t = beyondWake s) (h : unitStatus t = unitStatus s) : UnitKept s t where
  beyond := hb
  status _ := cycleStatus_of_unitStatus h
  inputs _ _ := inputRecs_of_unitStatus h

theorem served (s : State) : UnitKept s (serve s) :=
  .of_unitStatus (serve_beyondWake s) (unitStatus_of_beyondGuard (serve_beyondGuard s))

theorem settled (s : State) : UnitKept s (settle s) where
  beyond := settle_beyondWake s
  status hs := by rw [settle_of_unowed hs.1]; exact (served s).status hs
  inputs hs hi := by rw [settle_of_unowed hs.1]; exact (served s).inputs hs hi

theorem published {p : Option Nat} (hp : ∀ q, p = some q → publishes s.emission.plan s.dispatch.cfg q = true)
    (v : Value) : UnitKept s (publish p v s) := by
  cases p with
  | none => exact .refl s
  | some q =>
    have hq := hp q rfl
    exact ⟨writeSelf_published q v s hq, fun hs => writeSelf_cycleStatus (ne_of_published hq hs.2) v,
      fun _ hi => writeSelf_inputRecs (fun i => ne_of_published hq (hi i)) v⟩

theorem operatingDerived (l : LineId) (s : State) : UnitKept s (deriveOperating l s) :=
  .of_unitStatus (deriveOperating_beyondWake l s) (unitStatus_of_beyondEmission (deriveOperating_beyondEmission l s))

theorem stateTaken (l : LineId) (s : State) : UnitKept s (stateTaken l s) := by
  have hstored : unitStatus (stateStored l s) = unitStatus s :=
    unitStatus_of_beyondEmission (modLine_beyondEmission l _ s)
  refine .of_unitStatus (stateTaken_beyondWake l s) ?_
  have hfollow (t : State) : unitStatus (followEmission t) = unitStatus t :=
    (unitStatus_of_beyondAttention (setCondition_beyondAttention _ _ _)).trans
      (unitStatus_of_beyondAttention (setCondition_beyondAttention _ _ _))
  rw [Machine.stateTaken, hfollow]
  split
  · rw [unitStatus_of_beyondGuard (restrictEntry_beyondGuard _ _),
      unitStatus_of_beyondRecorder (markerTrigger_beyondRecorder _ _ _ _), hstored]
  · exact hstored

theorem emissionDerived (always : Bool) (l : LineId) (s : State) : UnitKept s (deriveEmission always l s) := by
  have htaken := stateTaken l s
  rw [deriveEmission_eq]
  split
  · split
    · refine (htaken.trans (published (fun q hq => ?_) _)).trans (settled _)
      rw [publishes_of_beyondWake htaken.beyond]
      exact publishes_line hq
    · exact htaken
  · exact .refl s

theorem linesDerived (s : State) : UnitKept s (linesDerived s) := by
  have hlevels : UnitKept s (warnLevelled s) := .of_unitStatus (startWarnLevels_beyondWake s) rfl
  exact (((hlevels.trans (operatingDerived .a _)).trans (emissionDerived true .a _)).trans
    (operatingDerived .b _)).trans (emissionDerived true .b _)

theorem emissionStarted (s : State) : UnitKept s (emissionStart s) := by
  refine ⟨emissionStart_beyondWake s, fun hs => ?_, fun hs hi => ?_⟩
  · rw [← (linesDerived s).status hs, emissionStart_eq]
    split
    · rfl
    · exact foldl_keeps cycleStatus (fun t c => openPeriod c t) (fun _ _ => by rfl) _ _
  · rw [← (linesDerived s).inputs hs hi, emissionStart_eq]
    split
    · rfl
    · exact foldl_keeps inputRecs (fun t c => openPeriod c t) (fun _ _ => by rfl) _ _

end UnitKept

end
end Sys2Proof.Machine
end

section
namespace Sys2Proof.Machine
open Sys2Proof

section
variable {s t : State}

/-! ### The dispatch unit enters from STOPPED at START -/

theorem point_of_beyondWake {p : Nat} (h : beyondWake t = beyondWake s)
    (hp : publishes s.emission.plan s.dispatch.cfg p = false) : t.point p = s.point p := by
  have hpoints : t.points.mapIdx (fun i r => if publishes t.emission.plan t.dispatch.cfg i then r.plan else r) =
      s.points.mapIdx (fun i r => if publishes s.emission.plan s.dispatch.cfg i then r.plan else r) :=
    (congrArg State.points h :)
  rw [publishes_of_beyondWake h] at hpoints
  have hget := congrArg (fun l => l[p]?) hpoints
  simp only [List.getElem?_mapIdx, hp, Bool.false_eq_true, if_false] at hget
  simpa [State.point, List.getD_eq_getElem?_getD] using congrArg (fun o => o.getD .blank) hget

theorem oper_of_beyondWake (h : beyondWake t = beyondWake s) : t.dispatch.oper = s.dispatch.oper :=
  (congrArg (·.dispatch.oper) h :)

theorem input_of_inputRecs (h : inputRecs t = inputRecs s) (i : ReqInput) :
    t.dispatch.input i = s.dispatch.input i := by
  simp only [inputRecs, Prod.mk.injEq] at h
  obtain ⟨hfa, hfb, htrip⟩ := h
  cases i
  · exact hfa
  · exact hfb
  · exact htrip

/-- A required input whose assessment finds it EXPIRED: unusable, with no value held or its hold time over (R130). -/
def InputExpired (s : State) (i : ReqInput) : Prop :=
  (s.point (s.dispatch.cfg.inputPoint i)).effQuality.usable = false ∧
    ((s.dispatch.input i).last = none ∨ (s.dispatch.input i).state = .expired)

theorem assessedInput_expired (i : ReqInput) : (assessedInput s i).state = .expired ↔ InputExpired s i := by
  unfold assessedInput InputRec.assessed InputExpired
  cases hu : (s.point (s.dispatch.cfg.inputPoint i)).effQuality.usable with
  | true => simp
  | false =>
    by_cases he : (s.dispatch.input i).last = none ∨ (s.dispatch.input i).state = .expired
    · simp [he]
    · obtain ⟨-, hstate⟩ := not_or.1 he
      cases hr : (s.dispatch.input i).state <;> simp_all

theorem required_expired : (inputsAssessed s).dispatch.required.any (fun r => decide (r.state = .expired)) = true ↔
    ∃ i, InputExpired s i := by
  simp only [inputsAssessed, DispatchUnit.required, List.any_cons, List.any_nil, Bool.or_eq_true, decide_eq_true_eq,
    assessedInput_expired, Bool.or_false]
  constructor
  · rintro (h | h | h)
    · exact ⟨_, h⟩
    · exact ⟨_, h⟩
    · exact ⟨_, h⟩
  · rintro ⟨i, h⟩
    cases i
    · exact .inl h
    · exact .inr (.inl h)
    · exact .inr (.inr h)

theorem inputExpired_kept (h : UnitKept s t) (hs : Unowed s) (hi : InputsForeign s) (i : ReqInput) :
    InputExpired t i ↔ InputExpired s i := by
  unfold InputExpired
  rw [input_of_inputRecs (h.inputs hs hi), cfg_of_beyondWake h.beyond, point_of_beyondWake h.beyond (hi i)]

theorem publishState_cycleStatus (hp : publishes s.emission.plan s.dispatch.cfg s.dispatch.cfg.trip = false) :
    cycleStatus (publishState s) = cycleStatus s := by
  unfold publishState publish
  split
  · rfl
  · next q hq => exact writeSelf_cycleStatus (ne_of_published (publishes_dispatch (.inr (.inr hq))) hp) _

/-- The conditions and the state point follow a dispatch state, and change nothing of it (R128). -/
theorem stateShown_cycleStatus (hp : publishes s.emission.plan s.dispatch.cfg s.dispatch.cfg.trip = false) :
    cycleStatus (publishState (followDispatch s)) = cycleStatus s := by
  have hb := followDispatch_beyondWake s
  rw [publishState_cycleStatus (by rw [publishes_of_beyondWake hb, cfg_of_beyondWake hb]; exact hp),
    cycleStatus_of_unitStatus (followDispatch_unitStatus s)]

theorem enterFromStopped_hold (hs : Unowed s) (he : ∃ i, InputExpired s i) :
    cycleStatus (enterFromStopped s) = (.hold, some .input, some (s.now + s.dispatch.oper.interval), false) := by
  rw [enterFromStopped_eq, if_pos (required_expired.2 he), enterHold, stateShown_cycleStatus (by exact hs.2), ← hs.1]
  rfl

theorem enterFromStopped_run (hs : Unowed s) (he : ¬∃ i, InputExpired s i) :
    cycleStatus (enterFromStopped s) =
      (.run, s.dispatch.cause, some (s.now + s.dispatch.oper.interval), false) := by
  rw [enterFromStopped_eq, if_neg (mt required_expired.1 he), stateShown_cycleStatus (by exact hs.2), ← hs.1]
  rfl

theorem settle_cycleStatus (h : (cycleStatus s).2.2.2 = false) : cycleStatus (settle s) = cycleStatus s := by
  rw [settle_of_unowed h, cycleStatus_of_unitStatus (unitStatus_of_beyondGuard (serve_beyondGuard s))]

theorem serve_cycleStatus (s : State) : cycleStatus (serve s) = cycleStatus s :=
  cycleStatus_of_unitStatus (unitStatus_of_beyondGuard (serve_beyondGuard s))

/-- A unit that is not enabled and configured stays as START's writes leave it. -/
theorem dispatchStart_of_off (h : ¬(s.dispatch.enable = true ∧ s.dispatch.cfg.configured = true)) :
    dispatchStart s = s := if_neg (by rwa [Bool.and_eq_true])

theorem dispatchStart_of_on (he : s.dispatch.enable = true) (hc : s.dispatch.cfg.configured = true) :
    dispatchStart s = settle (enterFromStopped s) := if_pos (by rw [he, hc]; rfl)

/-- START of a unit that is off leaves it STOPPED (R123). -/
theorem started_off (hs : Unowed s) (hoff : ¬(s.dispatch.enable = true ∧ s.dispatch.cfg.configured = true)) :
    cycleStatus (serve (dispatchStart (emissionStart s))) = cycleStatus s := by
  have hkept := UnitKept.emissionStarted s
  rw [serve_cycleStatus,
    dispatchStart_of_off (by rwa [enable_of_beyondWake hkept.beyond, cfg_of_beyondWake hkept.beyond]), hkept.status hs]

/-- START of an enabled, configured unit: HOLD with cause INPUT where a required input is EXPIRED, otherwise RUN
(R123). -/
theorem started_on (hs : Unowed s) (hi : InputsForeign s) (he : s.dispatch.enable = true)
    (hc : s.dispatch.cfg.configured = true) :
    let u := serve (dispatchStart (emissionStart s))
    u.dispatch.timer = some (s.now + s.dispatch.oper.interval) ∧
      ((∃ i, InputExpired s i) → u.dispatch.state = .hold ∧ u.dispatch.cause = some .input) ∧
      (¬(∃ i, InputExpired s i) → u.dispatch.state = .run) := by
  have hkept := UnitKept.emissionStarted s
  have hon : dispatchStart (emissionStart s) = settle (enterFromStopped (emissionStart s)) :=
    dispatchStart_of_on (by rwa [enable_of_beyondWake hkept.beyond]) (by rwa [cfg_of_beyondWake hkept.beyond])
  have hexpired : (∃ i, InputExpired (emissionStart s) i) ↔ ∃ i, InputExpired s i :=
    exists_congr (inputExpired_kept hkept hs hi)
  have hstatus {x : DispatchState × Option HoldCause × Option Nat}
      (h : cycleStatus (enterFromStopped (emissionStart s)) = (x.1, x.2.1, x.2.2, false)) :
      cycleStatus (serve (dispatchStart (emissionStart s))) = (x.1, x.2.1, x.2.2, false) := by
    rw [serve_cycleStatus, hon, settle_cycleStatus (by rw [h]), h]
  have htimer : some ((emissionStart s).now + (emissionStart s).dispatch.oper.interval) =
      some (s.now + s.dispatch.oper.interval) := by rw [now_of_beyondWake hkept.beyond, oper_of_beyondWake hkept.beyond]
  by_cases hx : ∃ i, InputExpired s i
  · have h := hstatus (x := (_, _, _)) (enterFromStopped_hold (hkept.unowed hs) (hexpired.2 hx))
    simp only [cycleStatus, Prod.mk.injEq] at h
    obtain ⟨hstate, hcause, htime, -⟩ := h
    exact ⟨htime.trans htimer, fun _ => ⟨hstate, hcause⟩, fun hn => absurd hx hn⟩
  · have h := hstatus (x := (_, _, _)) (enterFromStopped_run (hkept.unowed hs) (mt hexpired.1 hx))
    simp only [cycleStatus, Prod.mk.injEq] at h
    obtain ⟨hstate, -, htime, -⟩ := h
    exact ⟨htime.trans htimer, fun hp => absurd hp hx, fun _ => hstate⟩

end
end Sys2Proof.Machine
end

section
namespace Sys2Proof.Machine
open Sys2Proof

section
variable {s t u : State}

/-! ### The guard through a wake: the records that do not read the point, and the trip orders that wait -/

/-- Records without a used term on `p` stand, and no trip order is taken from where it waits. -/
structure HeldBut (p : Nat) (s t : State) : Prop where
  record : ∀ i, ¬(s.guardRec i).reads p → t.guardRec i = s.guardRec i
  waits  : ∀ x, TripWaits x s → TripWaits x t

namespace HeldBut

variable {p : Nat}

theorem refl (s : State) : HeldBut p s s := ⟨fun _ _ => rfl, fun _ h => h⟩

theorem trans (h : HeldBut p s t) (h' : HeldBut p t u) : HeldBut p s u where
  record i hi := (h'.record i (by rwa [h.record i hi])).trans (h.record i hi)
  waits x hx := h'.waits x (h.waits x hx)

theorem of_same (hg : t.guard = s.guard) (hf : t.fPort.tx = s.fPort.tx) : HeldBut p s t where
  record i _ := guardRec_of_recs (congrArg Guard.recs hg) i
  waits _ hx := hx.of_same (congrArg Guard.trips hg) hf

theorem of_beyondAttention (h : beyondAttention t = beyondAttention s) : HeldBut p s t :=
  .of_same (congrArg State.guard h :) (congrArg (fun t => t.fPort.tx) h :)

theorem of_beyondUpstream (h : beyondUpstream t = beyondUpstream s) : HeldBut p s t :=
  .of_same (congrArg State.guard h :) (congrArg (fun t => t.fPort.tx) h :)

theorem of_beyondEmission (h : beyondEmission t = beyondEmission s) : HeldBut p s t :=
  .of_same (congrArg State.guard h :) (congrArg (fun t => t.fPort.tx) h :)

theorem of_beyondInputs (h : beyondInputs t = beyondInputs s) : HeldBut p s t :=
  .of_same (congrArg State.guard h :) (congrArg (fun t => t.fPort.tx) h :)

theorem served (s : State) : HeldBut p s (serve s) :=
  ⟨fun i _ => guardRec_of_recs (serve_recs s) i, fun _ hx => hx.served⟩

/-- A change of one record that reads the point. -/
theorem modGuard {j : Nat} (hj : (s.guardRec j).reads p) (f : GuardRec → GuardRec) : HeldBut p s (s.modGuard j f) where
  record i hi := guardRec_modGuard_other (fun e : i = j => hi (e ▸ hj)) f s
  waits _ hx := hx.of_same rfl rfl

/-- An output that reads the point wakes: it may trip, and its interlock may end (R69). -/
theorem wakeOutput (j : Nat) (s : State) : HeldBut p s (wakeOutput p j s) := by
  by_cases hj : (s.guardRec j).reads p
  · have hseen : HeldBut p s (s.modGuard j fun _ => (s.guardRec j).wokenBy s p) := .modGuard hj _
    have hlen : j < (s.modGuard j fun _ => (s.guardRec j).wokenBy s p).guard.recs.length :=
      (lt_guards_of_configured hj.1).trans_eq (List.length_modify ..).symm
    rw [wakeOutput_of_reads hj]
    simp only
    split
    · refine ⟨fun i hi => ?_, fun x hx => (hseen.waits x hx).tripped hlen⟩
      have hne : i ≠ j := fun e => hi (e ▸ hj)
      rw [tripOutput_guardRec_other hlen hne, hseen.record i hi]
    · split
      · have hended (t : State) (f : GuardRec → GuardRec) :
            HeldBut p (t.modGuard j f) (followLatched (t.modGuard j f)) :=
          .of_beyondAttention (followLatched_beyondAttention _)
        unfold interlockEnds
        rw [modGuard_modGuard]
        exact (HeldBut.modGuard hj _).trans (hended s _)
      · exact hseen
  · rw [wakeOutput_of_not_reads hj]
    exact .refl s

theorem wakeGuard (s : State) : HeldBut p s (wakeGuard p s) := by
  unfold Machine.wakeGuard
  split
  · exact .refl s
  · suffices ∀ (l : List Nat) (t : State), HeldBut p t (l.foldl (fun t i => Machine.wakeOutput p i t) t) from this _ s
    intro l
    induction l with
    | nil => exact .refl
    | cons i l ih => exact fun t => (HeldBut.wakeOutput i t).trans (ih _)

theorem writeSelf (v : Value) (s : State) : HeldBut p s (writeSelf p v s) := by
  have hstored : HeldBut p s (storeUpdate p v .good s) := .of_same rfl rfl
  have hreport (a b : Value × Quality) (t : State) : HeldBut p t (reportSelf p a b t) := by
    unfold reportSelf
    split
    · exact .of_beyondUpstream (handUpstream_beyondUpstream _ t)
    · exact .refl t
  exact ((((hstored.trans (wakeGuard _)).trans (.of_beyondEmission (wakeLines_beyondEmission p _))).trans
    (.of_beyondInputs (wakeDispatch_beyondInputs p _))).trans (hreport _ _ _)).trans (served _)

end HeldBut

end
end Sys2Proof.Machine
end

section
namespace Sys2Proof.Machine
open Sys2Proof

section
variable {s t u : State}

/-! ### What START leaves of the guard after the guard's own action -/

/-- No channel is latched. -/
def Unlatched (s : State) : Prop := ∀ c ∈ s.emission.channels, c.run.latch = false

/-- The part itself writes no point that a used term of record `i` names. -/
def Spared (i : Nat) (s : State) : Prop :=
  ∀ m ∈ (s.guardRec i).terms, m.used = true → publishes s.emission.plan s.dispatch.cfg m.point = false

theorem Spared.not_reads {i p : Nat} (h : Spared i s) (hp : publishes s.emission.plan s.dispatch.cfg p = true) :
    ¬(s.guardRec i).reads p := by
  rintro ⟨-, m, hm, hused, rfl⟩
  exact Bool.false_ne_true ((h m hm hused).symm.trans hp)

/-- With no cycle occasion owed and no channel latched, the records whose terms the part does not write stand, and the
trip orders wait on. -/
structure GuardSpared (s t : State) : Prop where
  beyond    : beyondWake t = beyondWake s
  unlatched : Unlatched s → Unlatched t
  owed      : Unowed s → t.dispatch.owed = false
  record    : Unowed s → Unlatched s → ∀ i, Spared i s → t.guardRec i = s.guardRec i
  waits     : Unowed s → Unlatched s → ∀ x, TripWaits x s → TripWaits x t

namespace GuardSpared

theorem unowed (h : GuardSpared s t) (hs : Unowed s) : Unowed t := hs.of_beyondWake h.beyond (h.owed hs)

theorem spared (h : GuardSpared s t) (hs : Unowed s) (hl : Unlatched s) {i : Nat} (hi : Spared i s) : Spared i t := by
  unfold Spared
  rw [h.record hs hl i hi, publishes_of_beyondWake h.beyond]
  exact hi

theorem refl (s : State) : GuardSpared s s := ⟨rfl, id, fun hs => hs.1, fun _ _ _ _ => rfl, fun _ _ _ hx => hx⟩

theorem trans (h : GuardSpared s t) (h' : GuardSpared t u) : GuardSpared s u where
  beyond := h'.beyond.trans h.beyond
  unlatched hl := h'.unlatched (h.unlatched hl)
  owed hs := h'.owed (h.unowed hs)
  record hs hl i hi :=
    (h'.record (h.unowed hs) (h.unlatched hl) i (h.spared hs hl hi)).trans (h.record hs hl i hi)
  waits hs hl x hx := h'.waits (h.unowed hs) (h.unlatched hl) x (h.waits hs hl x hx)

/-- What reaches neither the guard nor a trip order on its way. -/
theorem of_same (hb : beyondWake t = beyondWake s) (hl : Unlatched s → Unlatched t)
    (ho : t.dispatch.owed = s.dispatch.owed) (hg : t.guard = s.guard) (hf : t.fPort.tx = s.fPort.tx) :
    GuardSpared s t where
  beyond := hb
  unlatched := hl
  owed hs := ho.trans hs.1
  record _ _ i _ := guardRec_of_recs (congrArg Guard.recs hg) i
  waits _ _ _ hx := hx.of_same (congrArg Guard.trips hg) hf

theorem of_beyondAttention (h : beyondAttention t = beyondAttention s) : GuardSpared s t :=
  .of_same (widen beyondWake_beyondAttention h) (fun hl => by rw [Unlatched, emission_of_beyondAttention h]; exact hl)
    (congrArg (fun t => t.dispatch.owed) h :) (guard_of_beyondAttention h) (congrArg (fun t => t.fPort.tx) h :)

theorem served (s : State) : GuardSpared s (serve s) where
  beyond := serve_beyondWake s
  unlatched hl := by rw [Unlatched, serve_emission]; exact hl
  owed hs := (owed_of_cycleStatus (serve_cycleStatus s)).trans hs.1
  record _ _ i _ := guardRec_of_recs (serve_recs s) i
  waits _ _ _ hx := hx.served

theorem settled (s : State) : GuardSpared s (settle s) where
  beyond := settle_beyondWake s
  unlatched hl := unlatched_of_unmarked (cycleFrame_unmarked.settle s) hl
  owed hs := by rw [settle_of_unowed hs.1]; exact (served s).owed hs
  record hs hl i hi := by rw [settle_of_unowed hs.1]; exact (served s).record hs hl i hi
  waits hs hl x hx := by rw [settle_of_unowed hs.1]; exact (served s).waits hs hl x hx

theorem published {p : Option Nat} (hp : ∀ q, p = some q → publishes s.emission.plan s.dispatch.cfg q = true)
    (v : Value) : GuardSpared s (publish p v s) := by
  cases p with
  | none => exact .refl s
  | some q =>
    have hq := hp q rfl
    exact {
      beyond := writeSelf_published q v s hq
      unlatched := unlatched_of_unmarked (writeSelf_unmarked q v s)
      owed := fun hs => (owed_of_cycleStatus (writeSelf_cycleStatus (ne_of_published hq hs.2) v)).trans hs.1
      record := fun _ _ i hi => (HeldBut.writeSelf v s).record i (hi.not_reads hq)
      waits := fun _ _ x hx => (HeldBut.writeSelf (p := q) v s).waits x hx }

theorem operatingDerived (l : LineId) (s : State) : GuardSpared s (deriveOperating l s) := by
  have h := deriveOperating_beyondEmission l s
  exact .of_same (deriveOperating_beyondWake l s) (unlatched_of_unmarked (deriveOperating_unmarked l s))
    (congrArg (fun t => t.dispatch.owed) h :) (congrArg State.guard h :) (congrArg (fun t => t.fPort.tx) h :)

theorem followEmission_beyondAttention (s : State) : beyondAttention (followEmission s) = beyondAttention s :=
  (setCondition_beyondAttention _ _ _).trans (setCondition_beyondAttention _ _ _)

/-- Without a latched channel no line enters RESTRICT (R93). -/
theorem stateTaken_of_unlatched (l : LineId) (h : Unlatched s) : stateTaken l s = followEmission (stateStored l s) := by
  rw [Machine.stateTaken, if_neg fun hr => emissionStateOf_of_unlatched h hr.1]

theorem stateStored (l : LineId) (s : State) : GuardSpared s (stateStored l s) := by
  have h : beyondEmission (Machine.stateStored l s) = beyondEmission s := modLine_beyondEmission l _ s
  refine .of_same (modLine_beyondWake l _ s fun _ => rfl) (unlatched_of_unmarked ?_)
    (congrArg (fun t => t.dispatch.owed) h :) (congrArg State.guard h :) (congrArg (fun t => t.fPort.tx) h :)
  cases l <;> rfl

theorem stateTaken (l : LineId) (s : State) : GuardSpared s (stateTaken l s) := by
  have hplain : GuardSpared s (followEmission (Machine.stateStored l s)) :=
    (stateStored l s).trans (.of_beyondAttention (followEmission_beyondAttention _))
  exact {
    beyond := stateTaken_beyondWake l s
    unlatched := unlatched_of_unmarked (stateTaken_unmarked l s)
    owed := fun hs => ((UnitKept.stateTaken l s).unowed hs).1
    record := fun hs hl i hi => by rw [stateTaken_of_unlatched l hl]; exact hplain.record hs hl i hi
    waits := fun hs hl x hx => by rw [stateTaken_of_unlatched l hl]; exact hplain.waits hs hl x hx }

theorem emissionDerived (always : Bool) (l : LineId) (s : State) : GuardSpared s (deriveEmission always l s) := by
  have htaken := stateTaken l s
  rw [deriveEmission_eq]
  split
  · split
    · refine (htaken.trans (published (fun q hq => ?_) _)).trans (settled _)
      rw [publishes_of_beyondWake htaken.beyond]
      exact publishes_line hq
    · exact htaken
  · exact .refl s

theorem linesDerived (s : State) : GuardSpared s (linesDerived s) := by
  have hlevels : GuardSpared s (warnLevelled s) :=
    .of_same (startWarnLevels_beyondWake s) warnLevelled_unlatched rfl rfl rfl
  exact (((hlevels.trans (operatingDerived .a _)).trans (emissionDerived true .a _)).trans
    (operatingDerived .b _)).trans (emissionDerived true .b _)

theorem openPeriod_latch (c : Nat) (hl : Unlatched s) : Unlatched (openPeriod c s) := by
  have hopened (ch : Channel) : (openedRun s ch).latch = ch.run.latch := by
    unfold openedRun
    simp only
    split <;> rfl
  have hmap : (openPeriod c s).emission.channels.map (·.run.latch) = s.emission.channels.map (·.run.latch) :=
    map_modify_keeps (fun ch : Channel => ch.run.latch) _ hopened s.emission.channels c
  have key (t : State) : Unlatched t ↔ ∀ b ∈ t.emission.channels.map (·.run.latch), b = false := by
    simp [Unlatched]
  rw [key] at hl ⊢
  rwa [hmap]

theorem periodOpened (c : Nat) (s : State) : GuardSpared s (openPeriod c s) :=
  .of_same (openPeriod_beyondWake c s) (openPeriod_latch c) rfl rfl rfl

theorem emissionStarted (s : State) : GuardSpared s (emissionStart s) := by
  have hopen (l : List Nat) (t : State) : GuardSpared t (l.foldl (fun t c => openPeriod c t) t) := by
    induction l generalizing t with
    | nil => exact .refl t
    | cons c l ih => exact (periodOpened c t).trans (ih _)
  rw [emissionStart_eq]
  split
  · exact linesDerived s
  · exact (linesDerived s).trans (hopen _ _)

/-- Runtime fields of the dispatch unit alone. -/
theorem unitChanged {d : DispatchUnit} (hp : d.plan = s.dispatch.plan) (ho : d.owed = s.dispatch.owed) :
    GuardSpared s { s with dispatch := d } :=
  .of_same (dispatch_beyondWake hp) id ho rfl rfl

theorem statePublished (s : State) : GuardSpared s (publishState s) :=
  published (fun _ hq => publishes_dispatch (.inr (.inr hq))) _

/-- The conditions and the state point follow a dispatch state (R128). -/
theorem stateShown (s : State) : GuardSpared s (publishState (followDispatch s)) :=
  (of_beyondAttention (followDispatch_beyondAttention s)).trans (statePublished _)

theorem enteredFromStopped (s : State) : GuardSpared s (enterFromStopped s) := by
  have hassessed : GuardSpared s (inputsAssessed s) := unitChanged (by rfl) (by rfl)
  rw [enterFromStopped_eq]
  split
  · exact (hassessed.trans (unitChanged (by rfl) (by rfl))).trans (stateShown _)
  · exact (hassessed.trans (unitChanged (by rfl) (by rfl))).trans (stateShown _)

theorem dispatchStarted (s : State) : GuardSpared s (dispatchStart s) := by
  unfold dispatchStart
  split
  · exact (enteredFromStopped s).trans (settled _)
  · exact .refl s

theorem started (s : State) : GuardSpared s (serve (dispatchStart (emissionStart s))) :=
  ((emissionStarted s).trans (dispatchStarted _)).trans (served _)

end GuardSpared

end
end Sys2Proof.Machine
end

section
namespace Sys2Proof.Machine
open Sys2Proof

section
variable {s t : State} {f : Frame}

/-! ### The state that START's actions begin from -/

theorem taken_unitStatus (p : Port) (f : Frame) (s : State) : unitStatus (taken p f s) = unitStatus s := by
  have h := congrArg unitStatus (taken_standing p f s)
  generalize taken p f s = t at *
  cases p <;> exact h

theorem taken_dispatchPlan (p : Port) (f : Frame) (s : State) : (taken p f s).dispatch.plan = s.dispatch.plan := by
  have h := congrArg (fun t => t.dispatch.plan) (taken_standing p f s)
  generalize taken p f s = t at *
  cases p <;> exact h

theorem signatureOf_congr (hg : t.guard.recs = s.guard.recs) (he : t.emission = s.emission) :
    signatureOf t = signatureOf s := by
  rw [signatureOf, signatureOf, signatureBytes, signatureBytes, hg, he]

/-- A state with a START frame taken and the part in RUN, under the signature of its tables (R187, R190). -/
def startEntered (f : Frame) (s : State) : State :=
  { taken .sPort f s with part := { s.part with state := .run, signature := signatureOf s } }

theorem startEntered_eq : startEntered f s = enterRun (signatureOf (taken .sPort f s)) (taken .sPort f s) := by
  rw [signatureOf_congr (taken_recs .sPort f s) (taken_emission .sPort f s), enterRun, taken_part]
  rfl

/-- The state in which START's emission and dispatch actions act. -/
def startGuarded (f : Frame) (s : State) : State := guardStart (startEntered f s)

/-- The state that START's actions leave, once served. -/
def partStarted (f : Frame) (s : State) : State := serve (dispatchStart (emissionStart (startGuarded f s)))

theorem serve_startActions : serve (startActions (taken .sPort f s)) = partStarted f s := by
  rw [partStarted, startGuarded, startEntered_eq]
  rfl

theorem startGuarded_beyondGuard : beyondGuard (startGuarded f s) = beyondGuard (startEntered f s) :=
  guardStart_beyondGuard _

theorem startGuarded_emission : (startGuarded f s).emission = s.emission :=
  (emission_of_beyondGuard startGuarded_beyondGuard).trans (taken_emission .sPort f s)

theorem startGuarded_points : (startGuarded f s).points = s.points :=
  (points_of_beyondGuard startGuarded_beyondGuard).trans (taken_points .sPort f s)

theorem clock_of_beyondGuard (h : beyondGuard t = beyondGuard s) : t.clock = s.clock := (congrArg State.clock h :)

theorem startGuarded_clock : (startGuarded f s).clock = s.clock :=
  (clock_of_beyondGuard startGuarded_beyondGuard).trans (taken_clock .sPort f s)

theorem startGuarded_now : (startGuarded f s).now = s.now :=
  (now_of_beyondGuard startGuarded_beyondGuard).trans (taken_now .sPort f s)

theorem startGuarded_unitStatus : unitStatus (startGuarded f s) = unitStatus s :=
  (unitStatus_of_beyondGuard startGuarded_beyondGuard).trans (taken_unitStatus .sPort f s)

theorem dispatchPlan_of_beyondGuard (h : beyondGuard t = beyondGuard s) : t.dispatch.plan = s.dispatch.plan :=
  (congrArg (fun t => t.dispatch.plan) h :)

theorem startGuarded_dispatchPlan : (startGuarded f s).dispatch.plan = s.dispatch.plan :=
  (dispatchPlan_of_beyondGuard startGuarded_beyondGuard).trans (taken_dispatchPlan .sPort f s)

theorem cfg_of_dispatchPlan {d e : DispatchUnit} (h : d.plan = e.plan) : d.cfg = e.cfg :=
  (congrArg DispatchUnit.cfg h :)

theorem oper_of_dispatchPlan {d e : DispatchUnit} (h : d.plan = e.plan) : d.oper = e.oper :=
  (congrArg DispatchUnit.oper h :)

theorem enable_of_dispatchPlan {d e : DispatchUnit} (h : d.plan = e.plan) : d.enable = e.enable :=
  (congrArg DispatchUnit.enable h :)

theorem startGuarded_cfg : (startGuarded f s).dispatch.cfg = s.dispatch.cfg :=
  cfg_of_dispatchPlan startGuarded_dispatchPlan

theorem startGuarded_oper : (startGuarded f s).dispatch.oper = s.dispatch.oper :=
  oper_of_dispatchPlan startGuarded_dispatchPlan

theorem startGuarded_enable : (startGuarded f s).dispatch.enable = s.dispatch.enable :=
  enable_of_dispatchPlan startGuarded_dispatchPlan

theorem startGuarded_publishes (p : Nat) :
    publishes (startGuarded f s).emission.plan (startGuarded f s).dispatch.cfg p =
      publishes s.emission.plan s.dispatch.cfg p := by
  rw [startGuarded_emission, startGuarded_cfg]

theorem guardRec_plan_of_beyondGuard (h : beyondGuard t = beyondGuard s) (i : Nat) :
    (t.guardRec i).plan = (s.guardRec i).plan := by
  have hrecs : t.guard.recs.map GuardRec.plan = s.guard.recs.map GuardRec.plan := (congrArg (fun t => t.guard.recs) h :)
  have key (u : State) : (u.guard.recs.map GuardRec.plan).getD i GuardRec.blank.plan = (u.guardRec i).plan := by
    simp only [State.guardRec, List.getD_eq_getElem?_getD, List.getElem?_map]
    cases u.guard.recs[i]? <;> rfl
  rw [← key, ← key, hrecs]

/-- A term's point and its use are configuration (R67). -/
theorem usedPoints_plan (g : GuardRec) (P : Nat → Prop) :
    (∀ m ∈ g.plan.terms, m.used = true → P m.point) ↔ ∀ m ∈ g.terms, m.used = true → P m.point := by
  simp [GuardRec.plan]

theorem startGuarded_spared {i : Nat} (h : Spared i s) : Spared i (startGuarded f s) := by
  have hplan : ((startGuarded f s).guardRec i).plan = (s.guardRec i).plan :=
    (guardRec_plan_of_beyondGuard startGuarded_beyondGuard i).trans
      (congrArg GuardRec.plan (guardRec_of_recs (s := s) (t := startEntered f s) (taken_recs .sPort f s) i))
  unfold Spared
  simp only [startGuarded_publishes]
  have hpoints := usedPoints_plan (s.guardRec i) fun p => publishes s.emission.plan s.dispatch.cfg p = false
  rw [← hplan, usedPoints_plan _ fun p => publishes s.emission.plan s.dispatch.cfg p = false] at hpoints
  exact hpoints.2 h

theorem startGuarded_unowed (h : Unowed s) : Unowed (startGuarded f s) := by
  refine ⟨(owed_of_cycleStatus (cycleStatus_of_unitStatus startGuarded_unitStatus)).trans h.1, ?_⟩
  rw [startGuarded_publishes, startGuarded_cfg]
  exact h.2

theorem startGuarded_inputsForeign (h : InputsForeign s) : InputsForeign (startGuarded f s) := fun i => by
  rw [startGuarded_publishes, startGuarded_cfg]
  exact h i

theorem startGuarded_inputExpired (i : ReqInput) : InputExpired (startGuarded f s) i ↔ InputExpired s i := by
  unfold InputExpired
  rw [input_of_inputRecs (inputRecs_of_unitStatus startGuarded_unitStatus), startGuarded_cfg,
    point_of_points startGuarded_points]

/-! ### What START's actions leave -/

theorem partStarted_beyondWake : beyondWake (partStarted f s) = beyondWake (startEntered f s) :=
  (GuardSpared.started _).beyond.trans (widen beyondWake_beyondGuard startGuarded_beyondGuard)

theorem partStarted_part : (partStarted f s).part = { s.part with state := .run, signature := signatureOf s } :=
  part_of_beyondWake partStarted_beyondWake

theorem startEntered_of_part {P : Part} (h : P = { s.part with state := .run, signature := signatureOf s }) :
    { taken .sPort f s with part := P } = startEntered f s := by
  rw [h]
  rfl

theorem partStarted_guard (hs : Unowed s) (hl : Unlatched s) {i : Nat} (hi : Spared i s) :
    (partStarted f s).guardRec i = (startGuarded f s).guardRec i ∧
      ∀ x ∈ (startGuarded f s).guard.trips, TripWaits x (partStarted f s) := by
  have hlatch : Unlatched (startGuarded f s) := by rw [Unlatched, startGuarded_emission]; exact hl
  have hstarted := GuardSpared.started (startGuarded f s)
  exact ⟨hstarted.record (startGuarded_unowed hs) hlatch i (startGuarded_spared hi),
    fun x hx => hstarted.waits (startGuarded_unowed hs) hlatch x (.inl hx)⟩

theorem partStarted_channel (hu : s.clock.unset = false) (hn : s.emission.channels.length = 16) {c : Nat} (hc : c < 16)
    (hconf : (s.channel c).cfg.configured = true) : ((partStarted f s).channel c).run.OpenedAt s.clock.handed
      ((s.channel c).cfg.halfLimit * (s.channel c).cfg.warnPct / 100) := by
  have h := started_channel (s := startGuarded f s) (by rw [startGuarded_clock, hu]) (by rw [startGuarded_emission, hn])
    hc (by rw [channel_of_emission startGuarded_emission, hconf])
  rwa [startGuarded_clock, channel_of_emission startGuarded_emission] at h

theorem state_of_cycleStatus (h : cycleStatus t = cycleStatus s) : t.dispatch.state = s.dispatch.state :=
  congrArg (·.1) h

theorem partStarted_off (hs : Unowed s) (hstop : s.dispatch.state = .stopped)
    (hoff : ¬(s.dispatch.enable = true ∧ s.dispatch.cfg.configured = true)) :
    (partStarted f s).dispatch.state = .stopped := by
  have h := started_off (startGuarded_unowed (f := f) hs) (by rwa [startGuarded_enable, startGuarded_cfg])
  rw [← partStarted, cycleStatus_of_unitStatus startGuarded_unitStatus] at h
  exact (state_of_cycleStatus h).trans hstop

theorem partStarted_on (hs : Unowed s) (hi : InputsForeign s) (he : s.dispatch.enable = true)
    (hc : s.dispatch.cfg.configured = true) :
    (partStarted f s).dispatch.timer = some (s.now + s.dispatch.oper.interval) ∧
      ((∃ i, InputExpired s i) → (partStarted f s).dispatch.state = .hold ∧
        (partStarted f s).dispatch.cause = some .input) ∧
      (¬(∃ i, InputExpired s i) → (partStarted f s).dispatch.state = .run) := by
  have h := started_on (startGuarded_unowed (f := f) hs) (startGuarded_inputsForeign hi) (by rwa [startGuarded_enable])
    (by rwa [startGuarded_cfg])
  simp only [startGuarded_inputExpired, startGuarded_now, startGuarded_oper] at h
  rwa [← partStarted] at h

/-! ### START's reply -/

theorem takeStart_of_run (h : t.part.state = .run) : takeStart f t = replySetup f .refusedState t := by
  rw [takeStart, h]

theorem takeStart_of_failed {e : Failure} (h : t.part.state = .setup) (hv : validate t = some e) :
    takeStart f t = placeReply (setupStatus t f .checkFailed 0 0 (failureBytes e)) .plain t := by
  rw [takeStart, h, hv]

theorem takeStart_of_passed (h : t.part.state = .setup) (hv : validate t = none) :
    takeStart f t = placeReply (setupStatus (serve (startActions t)) f .done 0 0
      (b4 (serve (startActions t)).part.signature)) .plain (serve (startActions t)) := by
  rw [takeStart, h, hv]

end

end Sys2Proof.Machine
end

section
namespace Sys2Proof.Machine
open Sys2Proof

/-- A START whose frame is taken: refused in RUN, failed at its first failing check, or all of the blocks' actions. -/
theorem exec_start {f : Frame} {s : State} (hs : Takes .sPort f (.start f) s) :
    let t := taken .sPort f s
    (s.part.state = .run → exec (.start f) s = .next (serve (replySetup f .refusedState t))) ∧
    (∀ e, s.part.state = .setup → validate t = some e →
      exec (.start f) s = .next (serve (placeReply (setupStatus t f .checkFailed 0 0 (failureBytes e)) .plain t))) ∧
    (s.part.state = .setup → validate t = none →
      exec (.start f) s = .next (serve (placeReply
        (setupStatus (partStarted f s) f .done 0 0 (b4 (signatureOf s))) .plain (partStarted f s)))) := by
  intro t
  have hexec : exec (.start f) s = .next (serve (takeStart f t)) := exec_of_takes (act := takeStart f) rfl hs
  have hpart : t.part = s.part := taken_part .sPort f s
  refine ⟨fun hrun => ?_, fun e hsetup hv => ?_, fun hsetup hv => ?_⟩
  · rw [hexec, takeStart_of_run (by rw [hpart, hrun])]
  · rw [hexec, takeStart_of_failed (by rw [hpart, hsetup]) hv]
  · rw [hexec, takeStart_of_passed (by rw [hpart, hsetup]) hv, serve_startActions, partStarted_part]

/-- The data of CHECK-FAILED: table, index and reason in one, two and one bytes (R209). -/
theorem failureBytes_eq (e : Failure) :
    failureBytes e = [byteOf e.table, byteOf (e.index / 256), byteOf e.index, byteOf e.reason.code] := by
  simp [failureBytes, b1, b2, bytesOf]

/-- Settles O47. The validation answers the list of checks (`startChecks_answers`); START's actions leave the judged
guard records, the opened channels and the entered dispatch unit as they stand through what the part then publishes
(`GuardSpared`, `UnitKept`, `unmarkedChannels`); the guard's action judges each record once (`JudgedBelow`). -/
theorem startValidatesThenRuns : Obligations.StartValidatesThenRuns := by
  refine ⟨?validation, ?start, ?guard⟩
  case validation =>
    intro s known self line window d published fits uses checks
    have hline (i : Nat) : line i = s.line (lineOfIndex i) := by
      by_cases h : i = 0 <;> simp [line, lineOfIndex, h, State.line]
    have hchecks : checks = startChecks s := by
      simp only [checks, uses, hline]
      rfl
    obtain ⟨hfails, hpasses⟩ := startChecks_settle s
    exact ⟨fun _ _ _ _ heq => hfails _ _ _ _ (hchecks.symm.trans heq), fun hall => hpasses (hchecks ▸ hall), by decide⟩
  case start =>
    intro f s hs t
    obtain ⟨hrun, hfailed, hpassed⟩ := exec_start hs
    refine ⟨hrun, fun e hsetup hv => failureBytes_eq e ▸ hfailed e hsetup hv, fun hsetup hv => ?_⟩
    have hentered : { t with part := (partStarted f s).part } = startEntered f s :=
      startEntered_of_part partStarted_part
    refine ⟨partStarted f s, hpassed hsetup hv, partStarted_part, ?_, ?_, fun i howed htrip hl hi => ?_,
      fun hu hn c hc hconf => partStarted_channel hu hn hc hconf, fun hstop howed hforeign => ?_⟩
    · rw [hentered]
      exact partStarted_beyondWake
    · rw [hentered]
      rfl
    · have hunowed : Unowed s := ⟨howed, htrip⟩
      obtain ⟨hrecord, htrips⟩ := partStarted_guard (f := f) hunowed hl hi
      rw [hentered, ← startGuarded]
      exact ⟨hrecord, htrips⟩
    · have hunowed : Unowed s := ⟨howed, hforeign .trip⟩
      exact ⟨partStarted_off hunowed hstop, fun he hc => partStarted_on hunowed hforeign he hc⟩
  case guard =>
    intro i s _ h96 hc htrips g p live locked g' waits
    obtain ⟨hstep, hramp, hplan⟩ := guardStart_kept htrips h96 hc
    obtain ⟨hcalm, hhold, hsafe⟩ := guardStart_record htrips h96 hc
    refine ⟨hstep, hramp, hplan, hcalm, hhold, fun hl ha => ?_⟩
    obtain ⟨hstate, hissued, htarget, hlast, hcount⟩ := hsafe hl ha
    exact ⟨hstate, hissued, htarget, hlast, hcount, guardStart_waits htrips h96 hc hl ha⟩

end Sys2Proof.Machine
end

section
namespace Sys2Proof.Machine
open Sys2Proof

/- Elaborated in step: the kernel checks above are done before these proofs begin, which keeps the compile's memory lower. -/
set_option Elab.async false

/-! ### The arithmetic of a sample and of a close -/

/-- The denominator of R101 over the prepared inputs is far from 0. -/
theorem normalise_denominator {o2c h2oc : Int} (ho2 : o2c ≤ 2000) (hh2o : h2oc ≤ 5000) :
    500000 ≤ (10000 - h2oc) * (2100 - o2c) :=
  calc (500000 : Int) = 5000 * 100 := by norm_num
    _ ≤ (10000 - h2oc) * (2100 - o2c) := mul_le_mul (by omega) (by omega) (by decide) (by omega)

theorem normalise_zero {o2c h2oc : Int} {o2Ref : Nat} (ho2 : o2c ≤ 2000) (hh2o : h2oc ≤ 5000) :
    normalise 0 o2c h2oc o2Ref = 0 := by
  have hd := normalise_denominator ho2 hh2o
  simp only [normalise, roundHalfUp, zero_mul, mul_zero, zero_add]
  exact Int.ediv_eq_zero_of_lt (by omega) (by omega)

/-- A sum between count times minimum and count times maximum has its rounded average between the two (R105). -/
theorem averageOf_mem {lo hi sum : Int} {n : Nat} (hn : 1 ≤ n) (hlow : lo * n ≤ sum) (hhigh : sum ≤ hi * n) :
    lo ≤ averageOf sum n ∧ averageOf sum n ≤ hi := by
  have hpos : (0 : Int) < 2 * n := by omega
  constructor
  · exact Int.le_ediv_of_mul_le hpos (by linarith)
  · exact Int.le_of_lt_add_one (Int.ediv_lt_of_lt_mul hpos (by linarith))

/-- OFF where nothing operated, VALID with at least the minimum valid count, INVALID below it (R105). -/
theorem halfStatus_cases (ch : Channel) :
    (ch.run.operated = false → halfStatus ch = .off) ∧
      (ch.run.operated = true → ch.cfg.minValid ≤ ch.run.valid → halfStatus ch = .valid) ∧
      (ch.run.operated = true → ch.run.valid < ch.cfg.minValid → halfStatus ch = .invalid) := by
  refine ⟨fun hop => ?_, fun hop hmin => ?_, fun hop hmin => ?_⟩
  · simp [halfStatus, hop]
  · simp [halfStatus, hop, hmin]
  · simp [halfStatus, hop, hmin]

theorem halfStatus_eq_valid {ch : Channel} (h : halfStatus ch = .valid) : ch.cfg.minValid ≤ ch.run.valid := by
  by_contra hmin
  cases hop : ch.run.operated
  · simp [halfStatus, hop] at h
  · simp [halfStatus, hop, hmin] at h

theorem halfRecord_of_not_valid {ch : Channel} (h : halfStatus ch ≠ .valid) :
    (halfRecord false ch).average = none ∧ (halfRecord false ch).exceeded = false := by
  simp [halfRecord, h]

theorem halfRecord_of_valid {ch : Channel} (h : halfStatus ch = .valid) :
    (halfRecord false ch).average = some (averageOf ch.run.sum ch.run.valid) ∧
      ((halfRecord false ch).exceeded = true ↔ (ch.cfg.halfLimit : Int) < averageOf ch.run.sum ch.run.valid) := by
  simp [halfRecord, h]

/-- A VALID close of a channel within its bounds holds at least one sample, and its average lies between the smallest and
the largest (R102, R105). -/
theorem halfRecord_average_mem {ch : Channel} (hsum : ch.run.summed) (hcfg : ch.cfg.inRanges)
    (h : halfStatus ch = .valid) :
    ∃ lo hi, (halfRecord false ch).minmax = some (lo, hi) ∧ lo ≤ averageOf ch.run.sum ch.run.valid ∧
      averageOf ch.run.sum ch.run.valid ≤ hi ∧ hi ≤ 360000000 := by
  obtain ⟨-, -, -, -, hmin⟩ := hcfg
  have hcount : 1 ≤ ch.run.valid := hmin.trans (halfStatus_eq_valid h)
  obtain ⟨-, hempty, -⟩ | ⟨lo, hi, hm, -, -, hhi, hlow, hhigh⟩ := hsum
  · omega
  · obtain ⟨hlo, hav⟩ := averageOf_mem hcount hlow hhigh
    exact ⟨lo, hi, (if_neg (by omega)).trans hm, hlo, hav, hhi⟩

/-! ### The class of a sample -/

/-- What R99 asks of a sample beside its line: the entry's quality and those of the O2 point and of an H2O point are GOOD. -/
def AllGood (s : State) (c : ChannelCfg) (q : Quality) : Prop :=
  q = .good ∧ (s.point c.o2).effQuality = .good ∧ ∀ p, c.h2o = some p → (s.point p).effQuality = .good

theorem classify_of_off {s : State} {c : ChannelCfg} {q : Quality} (h : ¬(s.line c.line).operating = true) :
    classify s c q = .off := by simp [classify, h]

theorem classify_of_good {s : State} {c : ChannelCfg} {q : Quality} (hon : (s.line c.line).operating = true)
    (h : AllGood s c q) : classify s c q = .valid := by
  obtain ⟨hq, ho2, hh2o⟩ := h
  cases hp : c.h2o with
  | none => simp [classify, hon, hq, ho2, hp]
  | some p => simp [classify, hon, hq, ho2, hp, hh2o p hp]

theorem classify_of_not_good {s : State} {c : ChannelCfg} {q : Quality} (hon : (s.line c.line).operating = true)
    (h : ¬AllGood s c q) : classify s c q = .invalid := by
  cases hp : c.h2o with
  | none =>
    have hnot : ¬(q = .good ∧ (s.point c.o2).effQuality = .good) := fun ⟨hq, ho2⟩ => h ⟨hq, ho2, by simp [hp]⟩
    simpa [classify, hon, hp] using hnot
  | some p =>
    have hnot : ¬((q = .good ∧ (s.point c.o2).effQuality = .good) ∧ (s.point p).effQuality = .good) :=
      fun ⟨⟨hq, ho2⟩, hh2o⟩ => h ⟨hq, ho2, by simpa [hp] using hh2o⟩
    simpa [classify, hon, hp] using hnot

/-! ### A sample taken -/

/-- The state with other runtime fields of a channel. -/
def runTaken (k : Nat) (r : ChannelRun) (s : State) : State := s.modChannel k (fun ch => { ch with run := r })

/-- The runtime fields of a channel that has seen a VALID sample, before it is accumulated (R100, R117). -/
def ChannelRun.seen (v : Value) (r : ChannelRun) : ChannelRun :=
  { r with
    operated := true
    concClamp := if v < 0 ∨ 10000000 < v then bump r.concClamp else r.concClamp }

section
variable {k : Nat} {s : State}

theorem modChannel_run (f : ChannelRun → ChannelRun) :
    s.modChannel k (fun ch => { ch with run := f ch.run }) = runTaken k (f (s.channel k).run) s :=
  modChannel_congr rfl

theorem runTaken_runTaken (r r' : ChannelRun) : runTaken k r' (runTaken k r s) = runTaken k r' s := by
  simp only [runTaken, State.modChannel, List.modify_modify_eq]
  rfl

theorem runTaken_channel (r : ChannelRun) (hk : k < s.emission.channels.length) :
    (runTaken k r s).channel k = { s.channel k with run := r } := by
  rw [runTaken, State.channel_modChannel, if_pos ⟨rfl, hk⟩]

theorem modChannel_runTaken (r : ChannelRun) (f : ChannelRun → ChannelRun) (hk : k < s.emission.channels.length) :
    (runTaken k r s).modChannel k (fun ch => { ch with run := f ch.run }) = runTaken k (f r) s := by
  rw [modChannel_run, runTaken_runTaken, runTaken_channel r hk]

theorem warnTest_iff {r : ChannelRun} {n : Nat} :
    r.warnTest n = true ↔ n ≤ r.valid ∧ (r.warnLevel : Int) * r.valid < r.sum := by
  simp [ChannelRun.warnTest]

/-- At a full count a VALID sample is counted alone; below it the value is accumulated, and a WARN test that passes sets
a clear warn flag, from which the line of an enforcing channel derives its state (R102, R103). -/
theorem takeValid_runTaken (r : ChannelRun) (cn : Int) (hk : k < s.emission.channels.length) :
    takeValid k cn (runTaken k r s) =
      if 65535 ≤ r.valid then runTaken k { r with countFull := bump r.countFull } s
      else if (r.accumulate cn).warnTest (s.channel k).cfg.warnMin = true ∧ r.warn = false then
        if (s.channel k).cfg.enforcing = true then
          deriveEmission false (s.channel k).cfg.line (runTaken k { r.accumulate cn with warn := true } s)
        else runTaken k { r.accumulate cn with warn := true } s
      else runTaken k (r.accumulate cn) s := by
  have hfull := modChannel_runTaken r (fun r => { r with countFull := bump r.countFull }) hk
  have hadded := modChannel_runTaken r (·.accumulate cn) hk
  have hwarned := modChannel_runTaken (r.accumulate cn) (fun r => { r with warn := true }) hk
  simp only [takeValid, hfull, hadded, hwarned, runTaken_channel _ hk, Bool.and_eq_true, Bool.not_eq_true',
    Config.counterTop]

theorem takeSample_of_off {v : Value} {q : Quality} (h : classify s (s.channel k).cfg q = .off) :
    takeSample k v q s = s := by simp only [takeSample, h]

theorem takeSample_of_invalid {v : Value} {q : Quality} (h : classify s (s.channel k).cfg q = .invalid) :
    takeSample k v q s =
      runTaken k { (s.channel k).run with operated := true, invalid := bump (s.channel k).run.invalid } s := by
  simp only [takeSample, h]
  exact modChannel_run (fun r => { r with operated := true, invalid := bump r.invalid })

theorem takeSample_of_valid {v : Value} {q : Quality} (h : classify s (s.channel k).cfg q = .valid) :
    takeSample k v q s = takeValid k (normalisedSample s (s.channel k).cfg v)
      (runTaken k ((s.channel k).run.seen v) s) := by
  have hseen := modChannel_run (s := s) (k := k) (ChannelRun.seen v)
  simp only [takeSample, h, Config.quantityTop, Bool.or_eq_true, decide_eq_true_eq]
  exact congrArg _ hseen

/-- A VALID sample of an open channel is seen, then counted alone or accumulated (R99 to R103). -/
theorem takeSample_of_good {v : Value} {q : Quality} (hk : k < s.emission.channels.length)
    (hon : (s.line (s.channel k).cfg.line).operating = true) (h : AllGood s (s.channel k).cfg q) :
    let seen := (s.channel k).run.seen v
    let added := seen.accumulate (normalisedSample s (s.channel k).cfg v)
    takeSample k v q s =
      if 65535 ≤ seen.valid then runTaken k { seen with countFull := bump seen.countFull } s
      else if added.warnTest (s.channel k).cfg.warnMin = true ∧ seen.warn = false then
        if (s.channel k).cfg.enforcing = true then
          deriveEmission false (s.channel k).cfg.line (runTaken k { added with warn := true } s)
        else runTaken k { added with warn := true } s
      else runTaken k added s :=
  (takeSample_of_valid (classify_of_good hon h)).trans (takeValid_runTaken _ _ hk)

/-- An accepted report samples the open channels of its pollutant in ascending index (R99). -/
theorem wakeChannels_eq (p : Nat) (v : Value) (q : Quality) (s : State) :
    wakeChannels p v q s = (List.range 16).foldl (fun t c =>
      if (t.channel c).cfg.configured = true ∧ (t.channel c).run.opened = true ∧ (t.channel c).cfg.pollutant = p then
        takeSample c v q t
      else t) s := by
  simp only [wakeChannels, Config.channels, Bool.and_eq_true, decide_eq_true_eq, and_assoc]

/-! ### The emission state of a line -/

theorem any_enforcingChannels {l : LineId} (f : Channel → Bool) :
    (enforcingChannels s l).any f = true ↔ ∃ c ∈ s.emission.channels,
      (c.cfg.configured = true ∧ c.cfg.line = l ∧ c.cfg.enforcing = true) ∧ f c = true := by
  simp only [enforcingChannels, List.any_eq_true, List.mem_filter, Bool.and_eq_true, decide_eq_true_eq, and_assoc]

/-- RESTRICT with one latched enforcing channel, else WARN with one whose warn flag is set, else NORMAL (R93). -/
theorem emissionStateOf_eq (s : State) (l : LineId) :
    emissionStateOf s l =
      if ∃ c ∈ s.emission.channels, (c.cfg.configured = true ∧ c.cfg.line = l ∧ c.cfg.enforcing = true) ∧
          c.run.latch = true then .restrict
      else if ∃ c ∈ s.emission.channels, (c.cfg.configured = true ∧ c.cfg.line = l ∧ c.cfg.enforcing = true) ∧
          c.run.warn = true then .warn
      else .normal := by
  simp only [emissionStateOf, any_enforcingChannels]

theorem followEmission_eq (s : State) :
    followEmission s =
      setCondition .emissionWarn (decide (s.emission.lineA.state = .warn ∨ s.emission.lineB.state = .warn))
        (setCondition .emissionRestrict
          (decide (s.emission.lineA.state = .restrict ∨ s.emission.lineB.state = .restrict)) s) := by
  simp only [followEmission, Bool.decide_or]

theorem deriveEmission_of_unconfigured {always : Bool} {l : LineId} (h : (s.line l).configured = false) :
    deriveEmission always l s = s := by
  rw [deriveEmission_eq, if_neg (by simp [h])]

theorem deriveEmission_of_configured {always : Bool} {l : LineId} (h : (s.line l).configured = true) :
    deriveEmission always l s =
      if always = true ∨ emissionStateOf s l ≠ (s.line l).state then
        settle (publish (s.line l).statePoint (emissionStateOf s l).number (stateTaken l s))
      else stateTaken l s := by
  simp only [deriveEmission_eq, h, if_true, Bool.or_eq_true, decide_eq_true_eq]

end

end Sys2Proof.Machine
end

section
namespace Sys2Proof.Machine
open Sys2Proof
set_option Elab.async false

/-- Settles O60: the bounds of a normalised value and of an average; a sample by its class; a line's state from its
enforcing channels. -/
theorem samplesAverageWithinRange : Obligations.SamplesAverageWithinRange := by
  refine ⟨?_, ?_, ?_, wakeChannels_eq, ?_⟩
  · intro c o2 h2o ref hc0 hc ho0 ho hh0 hh hr0 hr
    obtain ⟨hlow, hhigh⟩ := normalise_mem ⟨hc0, hc⟩ ⟨ho0, ho⟩ ⟨hh0, hh⟩ ⟨hr0, hr⟩
    exact ⟨rfl, normalise_denominator ho hh, hlow, hhigh, fun hz => hz ▸ normalise_zero ho hh⟩
  · intro s k hs hk
    obtain ⟨hoff, hvalid, hinvalid⟩ := halfStatus_cases (s.channel k)
    refine ⟨hoff, hvalid, hinvalid, halfRecord_of_not_valid, fun hst => ?_⟩
    have hch := channel_fits (fits_of_bounded hs) k
    obtain ⟨lo, hi, hm, hlo, hhi, htop⟩ := halfRecord_average_mem hch.summed hch.ranges hst
    obtain ⟨hav, hex⟩ := halfRecord_of_valid hst
    exact ⟨lo, hi, _, hm, hav, hlo, hhi, hhi.trans htop, halfStatus_eq_valid hst, rfl, hex⟩
  · intro k v q s hk
    refine ⟨fun hoff => takeSample_of_off (classify_of_off hoff),
      fun hon hbad => takeSample_of_invalid (classify_of_not_good hon hbad),
      fun hon hgood hfull => (takeSample_of_good hk hon hgood).trans (if_pos hfull), fun hon hgood hroom => ?_⟩
    have hopen : ¬65535 ≤ ((s.channel k).run.seen v).valid := Nat.not_le.mpr hroom
    have hsample := (takeSample_of_good (v := v) hk hon hgood).trans (if_neg hopen)
    refine ⟨fun hcalm => hsample.trans (if_neg fun ⟨ht, hw⟩ => hcalm ?_), fun ⟨hcount, hlevel, hw⟩ =>
      hsample.trans (if_pos ⟨warnTest_iff.mpr ⟨hcount, hlevel⟩, hw⟩)⟩
    obtain ⟨hcount, hlevel⟩ := warnTest_iff.mp ht
    exact ⟨hcount, hlevel, hw⟩
  · intro always l s enforced old new stated entered either judged
    have hnew : emissionStateOf s l = new := emissionStateOf_eq s l
    have hstated : stateStored l s = stated := by rw [stateStored, hnew]
    have hjudged : stateTaken l s = judged := by
      rw [stateTaken, followEmission_eq, hnew, hstated]
      rfl
    refine ⟨deriveEmission_of_unconfigured, fun hc => ?_⟩
    rw [deriveEmission_of_configured hc, hjudged, hnew]
    rfl

end Sys2Proof.Machine
end
